-- ==== Sys2Proof/Word.lean ====
section
/-! DEFINITION. The word types of the model: what the FG-832's spec treats as bits. Nothing but names. -/

namespace Sys2Proof

/-- A byte of a frame, a block or the stacked DRAM. -/
abbrev Byte := BitVec 8

/-- A 64-bit sample word of a SAMPLES frame (00_scope, "sample word"). -/
abbrev SampleWord := BitVec 64

/-- A stream number, 0 to 7. -/
abbrev StreamId := Fin 8

/-- A capture group number, 0 to 7. -/
abbrev GroupId := Fin 8

/-- A degrade level, 0 to 3. -/
abbrev Level := Fin 4

end Sys2Proof
end

