-- ==== Sys2Proof/Syntax.lean ====
section
/-! DEFINITION. The commands of the FG-832: one constructor for every row of spec/opcode_table.json, with the
row's operands. A directive carries the fields of its frame (chapter 9, R169, R170), an acquisition frame the fields
of its body (R169), and a row that ends a DRAM read carries what the error-correcting code found (R92). -/

namespace Sys2Proof

/-- The fields of a directive frame but for its directive code, which is the row itself (chapter 9, R169):
the tag, the flags byte (bit 0 is the reply flag), the parameter length the frame states, and the parameter
bytes it carries. -/
structure Directive where
  tag      : BitVec 16
  flags    : Byte
  length   : BitVec 16
  params   : List Byte
  deriving DecidableEq, Repr

/-- What the DRAM's code finds on a line that is not clean (R92). An uncorrectable line is used as read:
`flips` is the difference, bit by bit, between the line as read and the line as stored. -/
inductive LineFinding where
  | corrected
  | uncorrectable (flips : BitVec 512)
  deriving DecidableEq, Repr

/-- A finding of the code on one line of the slot being read (R91, R92), counted from line 0. -/
structure LineCheck where
  line    : Nat
  finding : LineFinding
  deriving DecidableEq, Repr

/-- The commands: one constructor for each row of spec/opcode_table.json. -/
inductive Instr where
  -- the reset pin
  | powerOn
  -- directives (R170)
  | setEngine (d : Directive)
  | setLink (d : Directive)
  | writeLayout (d : Directive)
  | configureStream (d : Directive)
  | configureGroup (d : Directive)
  | startStream (d : Directive)
  | startGroup (d : Directive)
  | closeStream (d : Directive)
  | closeGroup (d : Directive)
  | abortStream (d : Directive)
  | flushStream (d : Directive)
  /-- `checks`: the findings of the header read that R98 makes. -/
  | amend (d : Directive) (checks : List LineCheck)
  | verify (d : Directive)
  | queryStream (d : Directive)
  | queryGroup (d : Directive)
  | queryLink (d : Directive)
  | clearCounts (d : Directive)
  | resetEngine (d : Directive)
  /-- A directive whose code names none of the eighteen (R152). -/
  | unknownDirective (code : Byte) (d : Directive)
  -- capture-link frames and the capture link's sync (R141 to R149, R169)
  /-- An assembled frame, head to CRC, that fails R143. -/
  | badFrame (bytes : List Byte)
  | samples (source : Byte) (segment : BitVec 32) (first : BitVec 48) (words : List SampleWord)
  | segmentStart (source : Byte) (segment : BitVec 32) (t0 : BitVec 64) (period : BitVec 32)
  | segmentEnd (source : Byte) (segment : BitVec 32) (final : BitVec 48)
  | resync (source : Byte) (segment : BitVec 32) (index : BitVec 64) (time : BitVec 64)
  | captureSyncLoss
  | captureSyncGain
  -- the archive link's sync and inbound frames (R122 to R130, R172)
  | linkUp
  | linkDown
  | credit (count : Byte)
  | commit (link : BitVec 32)
  | rewind (link : BitVec 32)
  /-- The bytes of an inbound frame, kind to CRC, that fails R125. -/
  | protocolViolation (bytes : List Byte)
  -- timer expiries
  | interimTimerExpiry (stream : StreamId)
  | overTimerExpiry (group : GroupId)
  | settleTimerExpiry (group : GroupId)
  | holdOffTimerExpiry (group : GroupId)
  | commitTimerExpiry
  -- the transmitter, the checker and the verify reads
  | arbiterGrant
  /-- `checks`: the findings of the staging read that ends (R92, R94). -/
  | stagingDone (checks : List LineCheck)
  | moveToSending
  | sendDone
  | checkDone
  /-- The verify read of the operation at `position` of the pending-operation list ends (R100). -/
  | verifyReadEnd (position : Nat) (checks : List LineCheck)
  -- the return lane (R167)
  | reportSendBegin
  | reportSendDone
  deriving DecidableEq, Repr

end Sys2Proof
end

