-- ==== Sys2Proof/Decode.lean ====
section
/-! DEFINITION. The word decoder that the host asks for. The rows of spec/opcode_table.json give no bits: the FG-832 takes
commands, not instruction words, so that no word spells one (log entry 15). What a capture-link frame or an inbound
archive-link frame commands is decoded from its bytes in Sys2Proof/Machine/Frames.lean (decodeCapture, decodeArchive). -/

namespace Sys2Proof

/-- The command that a word spells by the table's bits: none, since no row gives bits. -/
def decodeTableWord (_nbits _w : Nat) : Option Instr := none

end Sys2Proof
end

