-- ==== Sys2Proof/Machine/Bytes.lean ====
section
/-! DEFINITION. Little-endian fields (00_scope, "Byte order") and the CRC (R81). -/

namespace Sys2Proof.Machine

/-- The byte at `offset`, 0 beyond the end. -/
def byteAt (bs : List Byte) (offset : Nat) : Byte := bs.getD offset 0

/-- The little-endian number in a list of bytes. -/
def leNat : List Byte → Nat
  | [] => 0
  | b :: bs => b.toNat + 256 * leNat bs

/-- The little-endian field of `size` bytes at `offset`. -/
def field (bs : List Byte) (offset size : Nat) : Nat := leNat ((bs.drop offset).take size)

/-- `n` as `size` little-endian bytes; what does not fit is cut off. -/
def leBytes : (size n : Nat) → List Byte
  | 0, _ => []
  | size + 1, n => BitVec.ofNat 8 n :: leBytes size (n / 256)

/-- `bs` with the bytes from `offset` on replaced by `new`. -/
def splice (bs : List Byte) (offset : Nat) (new : List Byte) : List Byte :=
  bs.take offset ++ new ++ bs.drop (offset + new.length)

/-- One shift of the CRC register toward its least significant bit, by the reflected polynomial (R81). -/
def crcShift (r : BitVec 32) : BitVec 32 :=
  if r.getLsbD 0 then (r >>> 1) ^^^ 0xEDB88320#32 else r >>> 1

/-- One byte enters the CRC register, least significant bit first (R81). -/
def crcByte (r : BitVec 32) (b : Byte) : BitVec 32 := Nat.repeat crcShift 8 (r ^^^ b.setWidth 32)

/-- R81: the CRC of a sequence of bytes: register preset to all ones, read out inverted. -/
def crc (bs : List Byte) : BitVec 32 := ~~~ (bs.foldl crcByte 0xFFFFFFFF#32)

end Sys2Proof.Machine
end

