-- ==== Sys2Proof/Config.lean ====
section
/-! DEFINITION. The counts the FG-832's spec fixes, and the free values the spec leaves open. -/

namespace Sys2Proof.Config

/-- The spill buffer's slots (R82). -/
def slotCount : Nat := 65536
/-- Bytes of one slot (R82, R91). -/
def slotBytes : Nat := 65536
/-- Bytes of one DRAM line (R91). -/
def lineBytes : Nat := 64
/-- The depth of the response FIFO (R162, R164). -/
def fifoDepth : Nat := 32
/-- The room of the pending-operation list (R151). -/
def opsRoom : Nat := 4
/-- The largest number of credits and outstanding blocks together (R126). -/
def creditLimit : Nat := 64
/-- The word-gap limit, in words (R43, R45, R47). -/
def gapLimit : Nat := 1048576
/-- One above the largest input index (R46). -/
def indexLimit : Nat := 2 ^ 56
/-- The largest absolute time, in picoseconds (R60). -/
def timeMax : Nat := 2 ^ 64 - 1

/-- The number of layout entries one walk may execute in the model.
DESIGN CHOICE, log entry 10: a recursion of Lean must end, and the bound lies above what any layout
that passes validation (R28) can execute in one segment. -/
def walkFuel : Nat := 2 ^ 70

/-- FREE VALUE (log entry 6): how many lines the k-th abandoned or restarted DRAM read had already found
corrected. The spec counts lines as they are read (R92) and does not say how far such a read has got. -/
opaque abandonedCorrected : Nat → Nat

/-- FREE VALUE (log entry 6): how many lines the k-th abandoned or restarted DRAM read had already found
uncorrectable (R92). -/
opaque abandonedUncorrectable : Nat → Nat

end Sys2Proof.Config
end

