-- ==== Sys2Proof/Machine/State.lean ====
section
/-! DEFINITION. The state of the FG-832, as plain data: every piece of state the spec names, under the block that
holds it (00_scope, "Block overview"), the model's own fields marked as such, and the state after power-on. -/

namespace Sys2Proof.Machine

/-! ## Names the spec gives -/

/-- R1: how extracted fields are widened to 16 bits. -/
inductive Signedness where
  | signed | unsigned
  deriving DecidableEq, Repr

/-- R1, R51: the reduction modes, configured and effective. -/
inductive Mode where
  | pass | decimate | envelope | mean
  deriving DecidableEq, Repr

/-- R1: the block size setting: a size in KiB (0 meaning 16) or SEGMENT. -/
inductive BlockSize where
  | kib (k : Nat)
  | segment
  deriving DecidableEq, Repr

/-- R3: how a stream was armed. -/
inductive Arming where
  | alone | group
  deriving DecidableEq, Repr

/-- R3: the segment sub-state of a RUNNING stream. -/
inductive SubState where
  | inSegment | betweenSegments
  deriving DecidableEq, Repr

/-- R3: the stream's state, with the sub-state present only while RUNNING, the arming only while ARMED and
ABORTING only while CLOSING (R13). -/
inductive Phase where
  | idle
  | armed (arming : Arming)
  | running (sub : SubState)
  | closing (aborting : Bool)
  deriving DecidableEq, Repr

/-- A timer measured against the 1 µs timebase: stopped, or running with so many µs left. -/
inductive Timer where
  | stopped
  | running (remaining : Nat)
  deriving DecidableEq, Repr

/-- R121, R124: the commit timer, which may also stand expired. -/
inductive CommitTimer where
  | stopped
  | running (remaining : Nat)
  | expired
  deriving DecidableEq, Repr

/-- R1, 10.4: the six event classes of a stream, in the order of the event mask's bits (R170). -/
inductive StreamEvent where
  | segmentTruncated | timeClamped | levelChanged | lossBegin | lossEnd | damagedBlock
  deriving DecidableEq, Repr

/-- R121, 10.4: the five event classes of the link, in the order of the link event mask's bits (R170). -/
inductive LinkEvent where
  | linkUp | linkDown | linkStalled | linkProtocol | checkFail
  deriving DecidableEq, Repr

/-- R162: a (source, class) pair of the event pending set. -/
inductive EventPair where
  | stream (stream : StreamId) (event : StreamEvent)
  | link (event : LinkEvent)
  deriving DecidableEq, Repr

/-- R172: the outcomes of directives and operations, in the order of their codes. -/
inductive Verdict where
  | done | accepted | unknown | malformed | badValue | badState | inUse | busy | tooLate | noBlock
  | damaged | outOfTable | nesting | depth | noField | noAdvance | gone | isMatch | mismatch | aborted
  deriving DecidableEq, Repr

/-! ## Layout table -/

/-- R22 to R25: a layout entry as the walker reads it. -/
inductive LayoutOp where
  | field (offset width : Nat) (advance : Bool)
  | skip (count : Nat)
  | group (count : Nat) (forever : Bool) (last : Nat)
  | endCycle
  deriving DecidableEq, Repr

/-- A layout entry as stored: what it means, and its bytes as WRITE LAYOUT carried them (R170: bytes not
listed for a kind are not read, and are stored as written). -/
structure LayoutEntry where
  op    : LayoutOp
  bytes : List Byte
  deriving DecidableEq, Repr

/-! ## A stream's context -/

/-- R1: the configuration part of a stream context. -/
structure StreamConfig where
  source     : Fin 32
  layoutBase : Fin 512
  group      : GroupId
  signedness : Signedness
  mode       : Mode
  baseFactor : Nat
  blockSize  : BlockSize
  interim    : Nat
  quota      : Nat
  highMark   : Nat
  lowMark    : Nat
  priority   : Fin 4
  weight     : Nat
  eventMask  : BitVec 6
  deriving DecidableEq, Repr

/-- R4: the five counters of a run. -/
structure RunCounters where
  accepted  : BitVec 64
  lost      : BitVec 64
  points    : BitVec 64
  closed    : BitVec 32
  committed : BitVec 32
  deriving DecidableEq, Repr

/-- R34: one context of the walker's stack. -/
structure LoopContext where
  first     : Nat
  last      : Nat
  remaining : Nat
  forever   : Bool
  deriving DecidableEq, Repr

/-- R34: the walker. The stack's top is the head of the list. DESIGN CHOICE (log entry 34): the spec gives the two word
indexes no width, and the model's are unbounded, so that R41 compares them as they are. -/
structure Walker where
  entry    : Nat
  stack    : List LoopContext
  position : Nat
  expected : Nat
  deriving DecidableEq, Repr

/-- R48: the open window, present while it holds inputs (m is `count`). -/
structure Window where
  mode       : Mode
  size       : Nat
  count      : Nat
  firstIndex : Nat
  firstValue : Int
  sum        : Int
  low        : Int
  high       : Int
  deriving DecidableEq, Repr

/-- R48: the anchor, with the period in femtoseconds. -/
structure Anchor where
  index  : Nat
  time   : Nat
  period : Nat
  deriving DecidableEq, Repr

/-- R48, R58: a held resync. -/
structure HeldResync where
  index : Nat
  time  : Nat
  deriving DecidableEq, Repr

/-- R77: why a gap section's inputs were lost. -/
inductive GapCause where
  | wordGap | noSlot | tail
  deriving DecidableEq, Repr

/-- R43, R47, R65: a gap record: first lost index, lost input count, time of the first lost input. -/
structure GapRecord where
  first : Nat
  count : Nat
  time  : Nat
  deriving DecidableEq, Repr

/-- R77: the gap section of a block. -/
structure GapSection where
  cause  : GapCause
  record : GapRecord
  deriving DecidableEq, Repr

/-- R112: the loss record, present exactly while the stream is LOSSY. `factor` is the would-be window's D,
absent while no would-be window has begun in the run (R113, a refused gap carrier; log entry 9), and `seen`
the inputs it has received so far. -/
structure LossRecord where
  record : GapRecord
  factor : Option Nat
  seen   : Nat
  deriving DecidableEq, Repr

/-- R66, R171: the fields of a block header, but for the gap section. -/
structure BlockHeader where
  stream     : StreamId
  run        : BitVec 8
  source     : Fin 32
  mode       : Mode
  signedness : Signedness
  level      : Level
  firstIndex : Nat
  flags      : BitVec 16
  segment    : BitVec 32
  sequence   : BitVec 32
  factor     : Nat
  pointCount : Nat
  startTime  : Nat
  period     : Nat
  notes      : Vector (BitVec 32) 4
  payloadCrc : BitVec 32
  headerCrc  : BitVec 32
  deriving DecidableEq, Repr

/-- R65: the open block: its slot, its header, its gap section, its target point count, the points placed so far
and their bytes. The header length is 96 with a gap section and 64 without one (R68). -/
structure OpenBlock where
  slot    : Nat
  header  : BlockHeader
  gap     : Option GapSection
  target  : Nat
  points  : Nat
  payload : List Byte
  deriving DecidableEq, Repr

/-- A stream: its configuration (R1), its run state (R3), its walker (R34), its reduction and timing unit
(R48), its block assembler state (R65), its loss record (R112) and its send queue (R87, the slots from front
to back). `gaveSeq` is the MODEL'S OWN (log entry 33): whether the current run has given a stream sequence (R95). -/
structure Stream where
  cfg          : StreamConfig
  phase        : Phase
  runNumber    : BitVec 8
  span         : Option (Nat × Nat)
  segment      : BitVec 32
  nextSeq      : BitVec 32
  gaveSeq      : Bool
  level        : Level
  lateStart    : Bool
  counts       : RunCounters
  occupancy    : Nat
  walker       : Walker
  inputIndex   : Nat
  window       : Option Window
  anchor       : Option Anchor
  resync       : Option HeldResync
  prevStart    : Option Nat
  openBlock    : Option OpenBlock
  interimTimer : Timer
  awaiting     : Option GapRecord
  firstMark    : Bool
  loss         : Option LossRecord
  sendQueue    : List Nat
  deriving DecidableEq, Repr

/-- R112: LOSSY is set exactly while the loss record is present. -/
def Stream.lossy (x : Stream) : Bool := x.loss.isSome

/-- R14: a capture group record. -/
structure Group where
  maxLevel     : Level
  degradeWait  : Nat
  settleTime   : Nat
  holdOff      : Nat
  ordered      : Level
  overTimer    : Timer
  settleTimer  : Timer
  holdOffTimer : Timer
  startSegment : Option (BitVec 32)
  deriving DecidableEq, Repr

/-! ## The blocks shared by the streams -/

/-- R141: the capture link receiver: its sync state and the frame being assembled. -/
structure Receiver where
  inSync     : Bool
  assembling : Option (List Byte)
  deriving DecidableEq, Repr

/-- R168: the eight engine counters. -/
structure EngineCounters where
  badFrames        : BitVec 32
  unclaimed        : BitVec 32
  orphans          : BitVec 32
  overlaps         : BitVec 32
  eccCorrected     : BitVec 32
  eccUncorrectable : BitVec 32
  linkProtocol     : BitVec 32
  checkFail        : BitVec 32
  deriving DecidableEq, Repr

/-- R151: the engine settings. -/
structure EngineSettings where
  strict   : Bool
  loopback : Bool
  linkMask : BitVec 5
  deriving DecidableEq, Repr

/-- R158: what a pending operation is and what it records. A group-close keeps the recorded members, those
that have still to enter IDLE and whether one was aborted (R18); a verify keeps its slot and whether its read
has begun (R99). -/
inductive OpKind where
  | close (stream : StreamId)
  | groupClose (group : GroupId) (members waiting : List StreamId) (aborted : Bool)
  | verify (stream : StreamId) (slot : Nat) (reading : Bool)
  deriving DecidableEq, Repr

/-- How an operation ended: its outcome and, for a MISMATCH, which of the two CRCs differed (R100). -/
structure OpEnd where
  verdict     : Verdict
  headerDiff  : Bool
  payloadDiff : Bool
  deriving DecidableEq, Repr

/-- R158: a pending operation. `ended` is the MODEL'S OWN (log entry 18): it marks, within one command, an operation
that the command has ended; the command's last act removes the marked ones in list order. -/
structure PendingOp where
  tag   : BitVec 16
  reply : Bool
  kind  : OpKind
  ended : Option OpEnd
  deriving DecidableEq, Repr

/-- R82: where a held slot's block stands. -/
inductive SlotPlace where
  | openBlock | queued | staged | sending | outstanding
  deriving DecidableEq, Repr

/-- R5, R83: the record of a held slot. The spec gives the block length as the header length plus the points; `headLength`
is that header length, held with it, which the MODEL keeps so that no extent is read from the DRAM (log entry 8). -/
structure SlotRecord where
  place      : SlotPlace
  stream     : StreamId
  run        : BitVec 8
  aborted    : Bool
  sequence   : Option (BitVec 32)
  length     : Option Nat
  headLength : Option Nat
  deriving DecidableEq, Repr

/-- A map from numbers, as a list of pairs with strictly rising keys. -/
abbrev SlotMap := List (Nat × SlotRecord)

/-- The stacked DRAM: (address, byte) pairs in strictly rising address order, none of them zero (log entry 4:
an unlisted byte reads as zero). Byte k of slot n stands at address n × 65,536 + k. -/
abbrev Memory := List Host.Cell

/-- R82 to R88, R91, R92: the spill buffer: the records of the held slots, the free list (head first), the
END-slot waits in the order they began (R76), the DRAM, and the lines that stand uncorrectable, by line number
(slot × 1,024 + line), with the difference between the line as read and as stored (R94; log entry 5). -/
structure Spill where
  slots     : SlotMap
  freeList  : List Nat
  endWaits  : List StreamId
  dram      : Memory
  badLines  : List (Nat × BitVec 512)
  deriving DecidableEq, Repr

/-- R121: the link state. -/
inductive LinkState where
  | down | up | stalled
  deriving DecidableEq, Repr

/-- R121: the state of the STAGED copy. -/
inductive CopyState where
  | reading | ready | stale
  deriving DecidableEq, Repr

/-- R121: an entry of the outstanding list. -/
structure SentBlock where
  link : BitVec 32
  slot : Nat
  deriving DecidableEq, Repr

/-- R93, R121: the STAGED buffer's block: its slot, its copy state and, once read, its bytes. -/
structure StagedBlock where
  slot  : Nat
  copy  : CopyState
  bytes : List Byte
  deriving DecidableEq, Repr

/-- R121, R135: the SENDING buffer's block: its slot, the link sequence its frame carries and its bytes. -/
structure SendingBlock where
  slot  : Nat
  link  : BitVec 32
  bytes : List Byte
  deriving DecidableEq, Repr

/-- R121, R132: an arbiter pointer. -/
structure Pointer where
  current : Option StreamId
  grants  : Nat
  deriving DecidableEq, Repr

/-- R121, R138: a checker record. -/
structure CheckRecord where
  run      : BitVec 8
  sequence : BitVec 32
  deriving DecidableEq, Repr

/-- R138: a block frame passed to the loopback checker and not yet judged. -/
structure CheckItem where
  link  : BitVec 32
  bytes : List Byte
  deriving DecidableEq, Repr

/-- R121: the archive link transmitter, the sync of the archive link, and the frames the loopback checker has yet
to judge (R138). The loopback setting stands in EngineSettings. -/
structure Transmitter where
  linkState     : LinkState
  archiveSync   : Bool
  credits       : Nat
  outstanding   : List SentBlock
  nextLink      : BitVec 32
  staged        : Option StagedBlock
  sending       : Option SendingBlock
  pointers      : Vector Pointer 4
  commitTimer   : CommitTimer
  commitTimeout : Nat
  checkRecords  : Vector (Option CheckRecord) 8
  checking      : List CheckItem
  deriving DecidableEq, Repr

/-- R172: an item of a snapshot. -/
structure SnapItem where
  number : Nat
  value  : List Byte
  deriving DecidableEq, Repr

/-- R172: the kinds of operation a COMPLETION names. -/
inductive OpTag where
  | close | groupClose | verify
  deriving DecidableEq, Repr

/-- R162, R163: an entry of the response FIFO. `marked` is the REPLIES_DROPPED mark. -/
inductive Answer where
  | response (tag : BitVec 16) (code : Byte) (verdict : Verdict) (marked : Bool) (payload : List Byte)
  | completion (tag : BitVec 16) (kind : OpTag) (verdict : Verdict) (marked : Bool) (slot : Nat)
      (headerDiff payloadDiff : Bool)
  deriving DecidableEq, Repr

/-- R167: what the return lane is sending: the entry at the FIFO's head, or an EVENT with its snapshot. -/
inductive LaneFrame where
  | head
  | event (pair : EventPair) (snapshot : List SnapItem)
  deriving DecidableEq, Repr

/-- R162: the report unit: response FIFO (head first), event pending set (oldest first), replies-dropped flag, and
the frame on the return lane. -/
structure ReportUnit where
  fifo    : List Answer
  events  : List EventPair
  dropped : Bool
  lane    : Option LaneFrame
  deriving DecidableEq, Repr

/-! ## What has gone out on the two links: the model's own record -/

/-- How a frame on a lane ended: whole, with the abandon symbol (R172), or cut off by a loss of sync (R167). -/
inductive Ending where
  | complete | abandoned | cutOff
  deriving DecidableEq, Repr

/-- A block frame that has gone out on the archive link (R172). -/
structure ArchiveOut where
  link   : BitVec 32
  bytes  : List Byte
  ending : Ending
  deriving DecidableEq, Repr

/-- A report frame's content (R163). -/
inductive ReportFrame where
  | answer (entry : Answer)
  | event (pair : EventPair) (snapshot : List SnapItem)
  deriving DecidableEq, Repr

/-- A report frame that has gone out on the return lane. -/
structure ReportOut where
  frame  : ReportFrame
  ending : Ending
  deriving DecidableEq, Repr

/-- The MODEL'S OWN fields (log entries 6 and 13): how many free values have been used, and the frames that have
gone out on the archive link and on the return lane, oldest first. -/
structure Own where
  freeCount  : Nat
  archiveOut : List ArchiveOut
  reportOut  : List ReportOut
  deriving DecidableEq, Repr

/-- The FG-832 and the queue of the commands that wait, first in, first out. -/
structure State where
  streams  : Vector Stream 8
  groups   : Vector Group 8
  layout   : Vector LayoutEntry 512
  receiver : Receiver
  counters : EngineCounters
  settings : EngineSettings
  ops      : List PendingOp
  spill    : Spill
  alt      : Transmitter
  report   : ReportUnit
  own      : Own
  pending  : List Instr
  deriving DecidableEq, Repr

/-- Why the machine stops with a fault. There is no constructor: the spec names no fault that stops the part, and
no meaning of this model faults. -/
inductive Fault where
  deriving DecidableEq, Repr

/-- Why a command has no meaning. -/
inductive Refusal where
  /-- Raised by an arm of exec whose command has no meaning yet; safe. No arm raises it in this model. -/
  | notModelled (mnemonic : String)
  deriving DecidableEq, Repr

/-! ## Power-on -/

/-- R1: the power-on configuration of stream `i`. -/
def StreamConfig.powerOn (i : StreamId) : StreamConfig where
  source     := i.castLE (by decide)
  layoutBase := 0
  group      := i
  signedness := .signed
  mode       := .pass
  baseFactor := 1
  blockSize  := .kib 16
  interim    := 0
  quota      := 8192
  highMark   := 6144
  lowMark    := 2048
  priority   := 0
  weight     := 1
  eventMask  := 0b111111#6

/-- R4: all five counters at 0. -/
def RunCounters.zero : RunCounters := ⟨0, 0, 0, 0, 0⟩

/-- R34: a walker at the given layout base, with an empty stack and word positions 0. -/
def Walker.atBase (base : Nat) : Walker := ⟨base, [], 0, 0⟩

/-- R3, R34, R48, R65, R112: a stream with the given configuration and span and every other field at its reset
value; R20 and R21 both place the stream so. -/
def Stream.cleared (cfg : StreamConfig) (span : Option (Nat × Nat)) : Stream where
  cfg          := cfg
  phase        := .idle
  runNumber    := 0
  span         := span
  segment      := 0
  nextSeq      := 0
  gaveSeq      := false
  level        := 0
  lateStart    := false
  counts       := .zero
  occupancy    := 0
  walker       := .atBase cfg.layoutBase
  inputIndex   := 0
  window       := none
  anchor       := none
  resync       := none
  prevStart    := none
  openBlock    := none
  interimTimer := .stopped
  awaiting     := none
  firstMark    := false
  loss         := none
  sendQueue    := []

/-- R14: the power-on group record. -/
def Group.powerOn : Group where
  maxLevel     := 3
  degradeWait  := 500000
  settleTime   := 5000000
  holdOff      := 0
  ordered      := 0
  overTimer    := .stopped
  settleTimer  := .stopped
  holdOffTimer := .stopped
  startSegment := none

/-- R22: power-on fills every layout entry with END. The bytes that END does not read are zero (log entry 11). -/
def LayoutEntry.powerOn : LayoutEntry := ⟨.endCycle, List.replicate 8 0⟩

/-- R168: all eight counters at 0. -/
def EngineCounters.zero : EngineCounters := ⟨0, 0, 0, 0, 0, 0, 0, 0⟩

/-- R84, R102: every slot on the free list in ascending order, no slot held, no wait, with the given DRAM. -/
def Spill.allFree (dram : Memory) (badLines : List (Nat × BitVec 512)) : Spill where
  slots    := []
  freeList := List.range' 0 Config.slotCount
  endWaits := []
  dram     := dram
  badLines := badLines

/-- R121: the transmitter's power-on state. The archive link has no sync, which is what DOWN means (7.2). -/
def Transmitter.powerOn : Transmitter where
  linkState     := .down
  archiveSync   := false
  credits       := 0
  outstanding   := []
  nextLink      := 0
  staged        := none
  sending       := none
  pointers      := Vector.replicate 4 ⟨none, 0⟩
  commitTimer   := .stopped
  commitTimeout := 100000
  checkRecords  := Vector.replicate 8 none
  checking      := []

/-- R162: the report unit, empty. -/
def ReportUnit.empty : ReportUnit := ⟨[], [], false, none⟩

/-- The machine after power-on (R1, R14, R20, R22, R34, R48, R65, R102, R121, R141, R151, R162, R168), with
nothing waiting. -/
def State.reset : State where
  streams  := Vector.ofFn fun i => Stream.cleared (.powerOn i) none
  groups   := Vector.replicate 8 .powerOn
  layout   := Vector.replicate 512 .powerOn
  receiver := ⟨false, none⟩
  counters := .zero
  settings := ⟨false, false, 0b11111#5⟩
  ops      := []
  spill    := .allFree [] []
  alt      := .powerOn
  report   := .empty
  own      := ⟨0, [], []⟩
  pending  := []

end Sys2Proof.Machine
end

