-- ==== Sys2Proof/Machine/Flags.lean ====
section
/-! DEFINITION. The block header's flags (R67, R171), the header and gap section as bytes (R171), and the two CRCs of a
block (R81). -/

namespace Sys2Proof.Machine

/-! ## Flag bits (R171) -/

def Flag.firstOfSegment : BitVec 16 := 0x0001#16
def Flag.lateStart      : BitVec 16 := 0x0002#16
def Flag.timeSaturated  : BitVec 16 := 0x0004#16
def Flag.timeClamped    : BitVec 16 := 0x0008#16
def Flag.gapSection     : BitVec 16 := 0x0010#16
def Flag.partialLast    : BitVec 16 := 0x0020#16
def Flag.short          : BitVec 16 := 0x0040#16
def Flag.factorChange   : BitVec 16 := 0x0080#16
def Flag.endOfSegment   : BitVec 16 := 0x0100#16
def Flag.truncated      : BitVec 16 := 0x0200#16
def Flag.endOfStream    : BitVec 16 := 0x0400#16
def Flag.amended        : BitVec 16 := 0x0800#16
def Flag.damaged        : BitVec 16 := 0x1000#16

/-- A flag if its condition holds, no flag otherwise. -/
def Flag.when (c : Bool) (f : BitVec 16) : BitVec 16 := if c then f else 0

/-! ## Codes (R171, R172) -/

def Signedness.code : Signedness → Byte
  | .signed => 0
  | .unsigned => 1

def Mode.code : Mode → Byte
  | .pass => 0
  | .decimate => 1
  | .envelope => 2
  | .mean => 3

/-- R51: an ENVELOPE point takes 4 bytes, any other 2. -/
def Mode.pointSize : Mode → Nat
  | .envelope => 4
  | _ => 2

def GapCause.code : GapCause → Byte
  | .wordGap => 0
  | .noSlot => 1
  | .tail => 2

/-- R172: the outcome codes. -/
def Verdict.code : Verdict → Byte
  | .done => 0
  | .accepted => 1
  | .unknown => 2
  | .malformed => 3
  | .badValue => 4
  | .badState => 5
  | .inUse => 6
  | .busy => 7
  | .tooLate => 8
  | .noBlock => 9
  | .damaged => 10
  | .outOfTable => 11
  | .nesting => 12
  | .depth => 13
  | .noField => 14
  | .noAdvance => 15
  | .gone => 16
  | .isMatch => 17
  | .mismatch => 18
  | .aborted => 19

/-- R170, R172: the number of a stream event class, which is its bit in the event mask. -/
def StreamEvent.code : StreamEvent → Nat
  | .segmentTruncated => 0
  | .timeClamped => 1
  | .levelChanged => 2
  | .lossBegin => 3
  | .lossEnd => 4
  | .damagedBlock => 5

/-- R170, R172: the number of a link event class, which is its bit in the link event mask. -/
def LinkEvent.code : LinkEvent → Nat
  | .linkUp => 0
  | .linkDown => 1
  | .linkStalled => 2
  | .linkProtocol => 3
  | .checkFail => 4

/-! ## The header as bytes (R171) -/

/-- R171: bytes 0 to 55 of the header, which are the fields before the two CRCs. -/
def BlockHeader.fieldBytes (h : BlockHeader) : List Byte :=
  leBytes 1 h.stream ++ leBytes 1 h.run.toNat ++ leBytes 1 h.source ++ [h.mode.code, h.signedness.code]
    ++ leBytes 1 h.level ++ leBytes 1 h.mode.pointSize ++ leBytes 7 h.firstIndex ++ leBytes 2 h.flags.toNat
    ++ leBytes 4 h.segment.toNat ++ leBytes 4 h.sequence.toNat ++ leBytes 2 (h.factor - 1)
    ++ leBytes 2 h.pointCount ++ leBytes 8 h.startTime ++ leBytes 4 h.period
    ++ (h.notes.toList.map fun w => leBytes 4 w.toNat).flatten

/-- R171: the 64-byte header. -/
def BlockHeader.bytes (h : BlockHeader) : List Byte :=
  h.fieldBytes ++ leBytes 4 h.payloadCrc.toNat ++ leBytes 4 h.headerCrc.toNat

/-- R171: the 32 bytes of a gap section. -/
def GapSection.bytes (g : GapSection) : List Byte :=
  leBytes 8 g.record.count ++ leBytes 8 g.record.first ++ leBytes 8 g.record.time ++ [g.cause.code]
    ++ List.replicate 7 0

/-- The bytes of a gap section, if there is one. -/
def gapBytes : Option GapSection → List Byte
  | none => []
  | some g => g.bytes

/-- R68: the header length, 96 with a gap section and 64 without one. -/
def headerLength (gap : Option GapSection) : Nat := if gap.isSome then 96 else 64

/-- R69: the size budget of a block, in bytes. -/
def BlockSize.budget : BlockSize → Nat
  | .kib k => (if k = 0 then 16 else k) * 1024
  | .segment => 65536

/-- R69: the target point count. -/
def targetCount (size : BlockSize) (header point : Nat) : Nat := (size.budget - header) / point

/-! ## A block read as bytes (R171, R81) -/

/-- Offsets of the header fields that a rewrite or a check reaches (R171). -/
def Offset.flags : Nat := 14
def Offset.notes : Nat := 40
def Offset.payloadCrc : Nat := 56
def Offset.headerCrc : Nat := 60

/-- The flags field of a block's bytes. -/
def imageFlags (image : List Byte) : BitVec 16 := BitVec.ofNat 16 (field image Offset.flags 2)

/-- Whether GAP_SECTION is set in a block's bytes. -/
def imageHasGap (image : List Byte) : Bool := (imageFlags image &&& Flag.gapSection) != 0

/-- The header length that a block's bytes state (R171). -/
def imageHeaderLength (image : List Byte) : Nat := if imageHasGap image then 96 else 64

/-- R81, R171: the header CRC over bytes 0 to 59 and, with a gap section, bytes 64 to 95. -/
def imageHeaderCrc (image : List Byte) : BitVec 32 :=
  crc (image.take Offset.headerCrc ++ (if imageHasGap image then (image.drop 64).take 32 else []))

/-- R81: the payload CRC, over the payload alone. -/
def imagePayloadCrc (image : List Byte) : BitVec 32 := crc (image.drop (imageHeaderLength image))

/-- The payload CRC a block's bytes store. -/
def storedPayloadCrc (image : List Byte) : BitVec 32 := BitVec.ofNat 32 (field image Offset.payloadCrc 4)

/-- The header CRC a block's bytes store. -/
def storedHeaderCrc (image : List Byte) : BitVec 32 := BitVec.ofNat 32 (field image Offset.headerCrc 4)

/-- A block's bytes with its header CRC recomputed. -/
def recrcHeader (image : List Byte) : List Byte :=
  splice image Offset.headerCrc (leBytes 4 (imageHeaderCrc image).toNat)

/-- A block's bytes with a flag set. -/
def setImageFlag (image : List Byte) (f : BitVec 16) : List Byte :=
  splice image Offset.flags (leBytes 2 (imageFlags image ||| f).toNat)

/-- A block's bytes with an annotation word written (R66, R171). -/
def setImageNote (image : List Byte) (word : Nat) (value : BitVec 32) : List Byte :=
  splice image (Offset.notes + 4 * word) (leBytes 4 value.toNat)

/-- R71, steps 4 and 5: the header of a closing block with its payload CRC and then its header CRC. -/
def BlockHeader.sealed (h : BlockHeader) (gap : Option GapSection) (payload : List Byte) : BlockHeader :=
  let h1 := { h with payloadCrc := crc payload }
  { h1 with headerCrc := crc (h1.fieldBytes ++ leBytes 4 h1.payloadCrc.toNat ++ gapBytes gap) }

/-- R71, R171: a block as it stands in its slot: header, gap section, payload. -/
def blockImage (h : BlockHeader) (gap : Option GapSection) (payload : List Byte) : List Byte :=
  h.bytes ++ gapBytes gap ++ payload

end Sys2Proof.Machine
end

