-- ==== Sys2Proof/Machine/Operands.lean ====
section
/-! DEFINITION. The operands of the directives: parameter lengths and layouts (R170), the numbers and enumerated codes
that refuse a directive with BAD_VALUE (R154), and the clamps (R26, R155). -/

namespace Sys2Proof.Machine

/-- R169: bit 0 of the directive flags is the reply flag; bits 1 to 7 are not read. -/
def replyFlag (d : Directive) : Bool := d.flags.getLsbD 0

/-- R152: the parameter length that the frame states is the length it carries and the length the code requires. -/
def lengthOk (d : Directive) (required : Nat) : Bool :=
  d.length.toNat = d.params.length && d.params.length = required

/-- R152, R170: WRITE LAYOUT's length follows from its entry count, which is 1 to 32. -/
def layoutLengthOk (d : Directive) : Bool :=
  let count := (byteAt d.params 2).toNat
  3 ≤ d.params.length && 1 ≤ count && count ≤ 32 && lengthOk d (3 + 8 * count)

/-- R154, step 1: a stream number of 8 or above is none. -/
def streamOf (b : Byte) : Option StreamId := if h : b.toNat < 8 then some ⟨b.toNat, h⟩ else none

/-- R154, step 1: a group number of 8 or above is none. -/
def groupOf (b : Byte) : Option GroupId := if h : b.toNat < 8 then some ⟨b.toNat, h⟩ else none

/-- R154, step 1: a source of 32 or above is none. -/
def sourceOf (b : Byte) : Option (Fin 32) := if h : b.toNat < 32 then some ⟨b.toNat, h⟩ else none

/-- R154, step 1: a layout index of 512 or above is none. -/
def layoutIndexOf (n : Nat) : Option (Fin 512) := if h : n < 512 then some ⟨n, h⟩ else none

/-- R154, R170: an off-or-on field takes 0 and 1. -/
def switchOf (b : Byte) : Option Bool := if b = 0 then some false else if b = 1 then some true else none

/-- R170: the signedness codes. -/
def signednessOf (b : Byte) : Option Signedness :=
  if b = 0 then some .signed else if b = 1 then some .unsigned else none

/-- R170: the reduction mode codes. -/
def modeOf (b : Byte) : Option Mode :=
  if b = 0 then some .pass else if b = 1 then some .decimate else if b = 2 then some .envelope
  else if b = 3 then some .mean else none

/-- R155: a number brought inside a range. -/
def clampTo (low high n : Nat) : Nat := max low (min high n)

/-- R155: a size in KiB: 0 is kept; otherwise rounded down to a multiple of 4, then brought to 4 to 64. -/
def clampKib (k : Nat) : Nat := if k = 0 then 0 else clampTo 4 64 (k / 4 * 4)

/-- R170: the block size field: form 0 is a size in KiB, form 1 is SEGMENT, forms 2 and 3 name nothing. -/
def blockSizeOf (w : Nat) : Option BlockSize :=
  if w / 2 ^ 14 = 0 then some (.kib (clampKib w)) else if w / 2 ^ 14 = 1 then some .segment else none

/-- R155: 0 is kept (off), 1 to 99 µs is taken as 100, above 1,000,000 as 1,000,000. -/
def clampInterim (n : Nat) : Nat := if n = 0 then 0 else clampTo 100 1000000 n

/-- R155: a priority class above 3 is taken as 3. -/
def priorityOf (b : Byte) : Fin 4 := ⟨min 3 b.toNat, by omega⟩

/-- R155: a max level above 3 is taken as 3. -/
def levelOf (b : Byte) : Level := ⟨min 3 b.toNat, by omega⟩

/-- R1, R154, R155, R170: the configuration that CONFIGURE STREAM's parameters carry, clamped; none where a
number or a code refuses the directive with BAD_VALUE. -/
def streamConfigOf (p : List Byte) : Option StreamConfig := do
  let source ← sourceOf (byteAt p 1)
  let base ← layoutIndexOf (field p 2 2)
  let group ← groupOf (byteAt p 4)
  let signedness ← signednessOf (byteAt p 5)
  let mode ← modeOf (byteAt p 6)
  let size ← blockSizeOf (field p 7 2)
  let quota := clampTo 16 65536 (field p 15 4)
  let high := clampTo 1 quota (field p 19 4)
  return {
    source := source
    layoutBase := base
    group := group
    signedness := signedness
    mode := mode
    baseFactor := if mode = .pass then 1 else clampTo 1 4096 (field p 9 2)
    blockSize := size
    interim := clampInterim (field p 11 4)
    quota := quota
    highMark := high
    lowMark := clampTo 0 (high - 1) (field p 23 4)
    priority := priorityOf (byteAt p 27)
    weight := clampTo 1 16 (byteAt p 28).toNat
    eventMask := (byteAt p 29).setWidth 6 }

/-- R26: a FIELD's offset and width, clamped. -/
def clampField (offset width : Nat) : Nat × Nat :=
  let w := clampTo 1 16 width
  let o := min 63 offset
  (if o + w > 64 then 64 - w else o, w)

/-- R26, R170: the layout entry in 8 bytes, clamped; none where the kind names none of the four. -/
def layoutEntryOf (b : List Byte) : Option LayoutEntry :=
  match (byteAt b 0).toNat with
  | 0 => some ⟨.endCycle, b⟩
  | 1 =>
    let (o, w) := clampField (byteAt b 1).toNat (byteAt b 2).toNat
    some ⟨.field o w ((byteAt b 3).getLsbD 0), b⟩
  | 2 => some ⟨.skip (clampTo 1 4096 (field b 2 2)), b⟩
  | 3 => some ⟨.group (field b 2 2) ((byteAt b 1).getLsbD 0) (field b 4 2), b⟩
  | _ => none

/-- R170: the `n` entries of a WRITE LAYOUT, 8 bytes each from offset 3. -/
def layoutListOf (p : List Byte) (n : Nat) : List (Option LayoutEntry) :=
  (List.range n).map fun k => layoutEntryOf ((p.drop (3 + 8 * k)).take 8)

/-- R26: a GROUP whose last index is 512 or above. -/
def LayoutEntry.lastOutOfTable (e : LayoutEntry) : Bool :=
  match e.op with
  | .group _ _ last => 512 ≤ last
  | _ => false

end Sys2Proof.Machine
end

