-- ==== Sys2Proof/Machine/Ops.lean ====
section
/-! DEFINITION. The named operations over the state that every block shares: access to a stream, a group and the layout
table; the engine counters; the event pending set and the response FIFO (chapter 10); the pending-operation list (R158);
slot records; the DRAM and its code (R91, R92). -/

namespace Sys2Proof.Machine

/-- The eight stream numbers, in ascending order. -/
def streamIds : List StreamId := [0, 1, 2, 3, 4, 5, 6, 7]

/-- The eight group numbers, in ascending order. -/
def groupIds : List GroupId := [0, 1, 2, 3, 4, 5, 6, 7]

namespace State

/-! ## One write per block's state -/

/-- The context of stream `i`. -/
def stream (s : State) (i : StreamId) : Stream := s.streams.get i

/-- The state with the context of stream `i` replaced. -/
def setStream (s : State) (i : StreamId) (x : Stream) : State := { s with streams := s.streams.set i x }

/-- The record of group `g`. -/
def group (s : State) (g : GroupId) : Group := s.groups.get g

/-- The state with the record of group `g` replaced. -/
def setGroup (s : State) (g : GroupId) (x : Group) : State := { s with groups := s.groups.set g x }

def setLayout (s : State) (x : Vector LayoutEntry 512) : State := { s with layout := x }
def setReceiver (s : State) (x : Receiver) : State := { s with receiver := x }
def setCounters (s : State) (x : EngineCounters) : State := { s with counters := x }
def setSettings (s : State) (x : EngineSettings) : State := { s with settings := x }
def setOps (s : State) (x : List PendingOp) : State := { s with ops := x }
def setSpill (s : State) (x : Spill) : State := { s with spill := x }
def setAlt (s : State) (x : Transmitter) : State := { s with alt := x }
def setReport (s : State) (x : ReportUnit) : State := { s with report := x }
def setOwn (s : State) (x : Own) : State := { s with own := x }

/-- The layout entry at an index; END beyond the table, which no walk over a validated span reaches. -/
def layoutOp (s : State) (index : Nat) : LayoutOp :=
  if h : index < 512 then (s.layout.get ⟨index, h⟩).op else .endCycle

/-- The members of a group: the streams whose configured group names it (R14). -/
def members (s : State) (g : GroupId) : List StreamId :=
  streamIds.filter fun i => (s.stream i).cfg.group == g

end State

/-! ## Engine counters (R168) -/

/-- R168: a 32-bit counter increased by `n`, saturating. -/
def satAdd (c : BitVec 32) (n : Nat) : BitVec 32 := BitVec.ofNat 32 (min (c.toNat + n) (2 ^ 32 - 1))

namespace State

/-- R143: one more bad frame. -/
def countBad (s : State) : State :=
  s.setCounters { s.counters with badFrames := satAdd s.counters.badFrames 1 }

/-- R147, R41: the intake's counters for one acquisition frame. -/
def countIntake (s : State) (orphan unclaimed overlap : Bool) : State :=
  s.setCounters { s.counters with
    orphans := satAdd s.counters.orphans orphan.toNat
    unclaimed := satAdd s.counters.unclaimed unclaimed.toNat
    overlaps := satAdd s.counters.overlaps overlap.toNat }

/-- R92: lines found corrected and uncorrectable. -/
def countEcc (s : State) (corrected uncorrectable : Nat) : State :=
  s.setCounters { s.counters with
    eccCorrected := satAdd s.counters.eccCorrected corrected
    eccUncorrectable := satAdd s.counters.eccUncorrectable uncorrectable }

end State

/-! ## Events (R165) and answers (R164) -/

/-- Whether a pair's source is the link. -/
def EventPair.isLink : EventPair → Bool
  | .link _ => true
  | .stream _ _ => false

/-- Whether a pair's source is a stream. -/
def EventPair.isOf (i : StreamId) : EventPair → Bool
  | .stream j _ => j == i
  | .link _ => false

namespace State

/-- R165: the enable of a pair's class in the mask that governs it. -/
def enabled (s : State) : EventPair → Bool
  | .stream i e => (s.stream i).cfg.eventMask.getLsbD e.code
  | .link e => s.settings.linkMask.getLsbD e.code

/-- R165: an event is raised: its pair enters the pending set at the back if its class is enabled and the pair is not
already there. -/
def raise (s : State) (p : EventPair) : State :=
  if s.enabled p && !s.report.events.contains p then
    s.setReport { s.report with events := s.report.events ++ [p] }
  else s

/-- R2, R151, R165: the pairs of one source whose class its mask now disables leave the pending set without being
sent. -/
def dropDisabled (s : State) (source : EventPair → Bool) : State :=
  s.setReport { s.report with events := s.report.events.filter fun p => !source p || s.enabled p }

end State

/-- R164: the entry with its REPLIES_DROPPED mark. -/
def Answer.marked (e : Answer) (m : Bool) : Answer :=
  match e with
  | .response tag code v _ payload => .response tag code v m payload
  | .completion tag kind v _ slot hd pd => .completion tag kind v m slot hd pd

namespace State

/-- R164: an answer is offered to the response FIFO: admitted at the tail with the mark that the replies-dropped
flag gives, or dropped with the flag set when the FIFO holds 32 entries. -/
def offer (s : State) (e : Answer) : State :=
  if s.report.fifo.length < Config.fifoDepth then
    s.setReport { s.report with fifo := s.report.fifo ++ [e.marked s.report.dropped], dropped := false }
  else s.setReport { s.report with dropped := true }

end State

/-- R153: when an outcome is answered. -/
inductive AnswerKind where
  | atOnce | refused | accepted | undecoded
  deriving DecidableEq, Repr

/-- R152, R153: the kind of a directive's outcome. -/
def Verdict.answerKind : Verdict → AnswerKind
  | .done | .gone => .atOnce
  | .accepted => .accepted
  | .unknown | .malformed => .undecoded
  | _ => .refused

/-- R152, R153: whether the outcome is answered, given the reply flag and the strict mode. DESIGN CHOICE (log entry 40): a
refused or malformed query with its reply flag clear is answered in strict mode as R152 and R153 say, where R159 says that
a query whose reply flag is clear produces no response. -/
def Verdict.isAnswered (v : Verdict) (reply strict : Bool) : Bool :=
  match v.answerKind with
  | .atOnce | .accepted => reply
  | .refused | .undecoded => reply || strict

/-- What a directive answers: its outcome and the payload its row names (R163, R172). -/
structure Reply where
  verdict : Verdict
  payload : List Byte
  deriving DecidableEq, Repr

namespace State

/-- R153: the response to a directive, sent under the strict mode in force before the directive was applied
(R151). -/
def respond (s : State) (strict : Bool) (code : Byte) (d : Directive) (r : Reply) : State :=
  if r.verdict.isAnswered (replyFlag d) strict then
    s.offer (.response d.tag code r.verdict false r.payload)
  else s

/-! ## The pending-operation list (R158) -/

/-- R158: an operation enters the list. -/
def enterOp (s : State) (d : Directive) (k : OpKind) : State :=
  s.setOps (s.ops ++ [⟨d.tag, replyFlag d, k, none⟩])

/-- R151, R158: the list has no room for another operation. -/
def opsFull (s : State) : Bool := Config.opsRoom ≤ s.ops.length

end State

/-- The operation, marked as ended where it answers the description and has not ended already. -/
def PendingOp.endIf (p : OpKind → Bool) (e : OpEnd) (o : PendingOp) : PendingOp :=
  if o.ended.isNone && p o.kind then { o with ended := some e } else o

/-- R163: the COMPLETION of an ended operation. -/
def PendingOp.completion (o : PendingOp) (e : OpEnd) : Answer :=
  match o.kind with
  | .close _ => .completion o.tag .close e.verdict false 0 false false
  | .groupClose _ _ _ _ => .completion o.tag .groupClose e.verdict false 0 false false
  | .verify _ slot _ => .completion o.tag .verify e.verdict false slot e.headerDiff e.payloadDiff

namespace State

/-- The operations that answer the description end with the given outcome. -/
def endOps (s : State) (p : OpKind → Bool) (e : OpEnd) : State :=
  s.setOps (s.ops.map fun o => o.endIf p e)

/-- R158: the operations that this command has ended leave the list, and their completions are offered in list
order, each where its reply flag is set (R153). -/
def settleOps (s : State) : State :=
  (s.ops.filterMap fun o => match o.ended with
    | some e => if o.reply then some (o.completion e) else none
    | none => none).foldl offer (s.setOps (s.ops.filter fun o => o.ended.isNone))

end State

/-! ## Slot records (R83) -/

/-- The record at a key. -/
def SlotMap.find (m : SlotMap) (key : Nat) : Option SlotRecord :=
  match m with
  | [] => none
  | (k, r) :: rest => if k = key then some r else SlotMap.find rest key

/-- The map with the record at a key written. -/
def SlotMap.put (m : SlotMap) (key : Nat) (r : SlotRecord) : SlotMap :=
  match m with
  | [] => [(key, r)]
  | (k, q) :: rest =>
    if k < key then (k, q) :: SlotMap.put rest key r
    else if k = key then (key, r) :: rest
    else (key, r) :: (k, q) :: rest

/-- The map with the record at a key removed. -/
def SlotMap.erase (m : SlotMap) (key : Nat) : SlotMap :=
  match m with
  | [] => []
  | (k, q) :: rest => if k = key then rest else (k, q) :: SlotMap.erase rest key

namespace State

/-- R83: the record of a held slot. -/
def slotRecord (s : State) (slot : Nat) : Option SlotRecord := s.spill.slots.find slot

/-- R83: a held slot's record is rewritten. -/
def putRecord (s : State) (slot : Nat) (r : SlotRecord) : State :=
  s.setSpill { s.spill with slots := s.spill.slots.put slot r }

/-- A held slot's record is changed; a free slot's is not touched. -/
def changeRecord (s : State) (slot : Nat) (f : SlotRecord → SlotRecord) : State :=
  match s.slotRecord slot with
  | some r => s.putRecord slot (f r)
  | none => s

end State

/-! ## The DRAM (R91, R92) -/

/-- The byte at an address: what is listed, or zero (log entry 4). -/
def Memory.read (m : Memory) (a : Nat) : Byte :=
  match m with
  | [] => 0
  | (k, v) :: rest => if k = a then v else Memory.read rest a

/-- The DRAM with one byte written, in the same form: addresses strictly rising, no zero listed. -/
def Memory.write (m : Memory) (a : Nat) (b : Byte) : Memory :=
  match m with
  | [] => if b = 0 then [] else [(a, b)]
  | (k, v) :: rest =>
    if k < a then (k, v) :: Memory.write rest a b
    else if k = a then (if b = 0 then rest else (a, b) :: rest)
    else if b = 0 then (k, v) :: rest else (a, b) :: (k, v) :: rest

/-- The form of the memory: addresses strictly rising, no entry equal to what an unlisted address reads as. -/
abbrev Memory.wf (m : Memory) : Prop :=
  (m.map Prod.fst).Pairwise (· < ·) ∧ ∀ c ∈ m, c.2 ≠ 0

/-- Bytes written one after another from an address on. -/
def Memory.writeAll (m : Memory) (a : Nat) : List Byte → Memory
  | [] => m
  | b :: bs => Memory.writeAll (m.write a b) (a + 1) bs

/-- `n` bytes read from an address on. -/
def Memory.readAll (m : Memory) (a : Nat) : (n : Nat) → List Byte
  | 0 => []
  | n + 1 => m.read a :: Memory.readAll m (a + 1) n

/-- The address of a slot's first byte. -/
def slotAddress (slot : Nat) : Nat := slot * Config.slotBytes

/-- The number of a slot's line (R91: 1,024 lines of 64 bytes). -/
def lineNumber (slot line : Nat) : Nat := slot * 1024 + line

/-- R91: the lines that a block of a length occupies. -/
def lineCount (length : Nat) : Nat := (length + Config.lineBytes - 1) / Config.lineBytes

/-- R91: bytes made up to whole lines with zeros. -/
def padLines (bs : List Byte) : List Byte :=
  bs ++ List.replicate (lineCount bs.length * Config.lineBytes - bs.length) 0

/-- The 64 bytes of a 512-bit difference. -/
def flipBytes (flips : BitVec 512) : List Byte :=
  (List.range 64).map fun k => flips.extractLsb' (8 * k) 8

namespace State

/-- R91: whole lines are written into a slot from `line` on. A line written carries a fresh code, so it no longer
stands uncorrectable (R94). -/
def writeLines (s : State) (slot line : Nat) (bs : List Byte) : State :=
  let whole := padLines bs
  s.setSpill { s.spill with
    dram := s.spill.dram.writeAll (slotAddress slot + line * Config.lineBytes) whole
    badLines := s.spill.badLines.filter fun x =>
      x.1 < lineNumber slot line || lineNumber slot line + lineCount bs.length ≤ x.1 }

/-- The difference with which a line of a slot stands uncorrectable, if it does. -/
def standingFlips (s : State) (slot line : Nat) : Option (BitVec 512) :=
  (s.spill.badLines.find? fun x => x.1 == lineNumber slot line).map Prod.snd

/-- The first `n` bytes of a slot as stored. -/
def storedBytes (s : State) (slot n : Nat) : List Byte := s.spill.dram.readAll (slotAddress slot) n

end State

/-- R92: what the code finds on one line of a read: the read's finding, or else that the line stands
uncorrectable from an earlier read and has not been written since (R94). -/
def lineFinding (standing : Option (BitVec 512)) (checks : List LineCheck) (line : Nat) : Option LineFinding :=
  match (checks.find? fun c => c.line == line).map LineCheck.finding, standing with
  | some (.uncorrectable f), _ => some (.uncorrectable f)
  | _, some f => some (.uncorrectable f)
  | found, none => found

/-- R92: a DRAM read: the bytes as used, how many lines were corrected, and the uncorrectable lines with their
differences. -/
structure ReadResult where
  bytes     : List Byte
  corrected : Nat
  bad       : List (Nat × BitVec 512)
  deriving DecidableEq, Repr

namespace State

/-- R92: a read of `length` bytes of a slot from line 0, with the findings of its code. -/
def readBlock (s : State) (slot length : Nat) (checks : List LineCheck) : ReadResult :=
  let lines := List.range (lineCount length)
  let found := fun l => lineFinding (s.standingFlips slot l) checks l
  let stored := s.storedBytes slot (lineCount length * Config.lineBytes)
  let asRead := lines.map fun l =>
    let line := (stored.drop (l * Config.lineBytes)).take Config.lineBytes
    match found l with
    | some (.uncorrectable f) => List.zipWith (fun a b => a ^^^ b) line (flipBytes f)
    | _ => line
  { bytes := asRead.flatten.take length
    corrected := (lines.filter fun l => found l == some .corrected).length
    bad := lines.filterMap fun l => match found l with
      | some (.uncorrectable f) => some (l, f)
      | _ => none }

/-- R92, R94: a read's effect on the state: its lines are counted, and each uncorrectable line stands so until it is
written. DESIGN CHOICE (log entry 38): all its lines are counted together, as the read ends. -/
def noteRead (s : State) (slot : Nat) (r : ReadResult) : State :=
  let s := s.countEcc r.corrected r.bad.length
  s.setSpill { s.spill with
    badLines := (r.bad.map fun x => (lineNumber slot x.1, x.2)) ++
      s.spill.badLines.filter fun x => !(r.bad.any fun y => lineNumber slot y.1 == x.1) }

/-- R92, R93, R101: a DRAM read of a slot that is in flight is abandoned, or restarts from line 0. The lines it had read
have been counted; how many it had found corrected and uncorrectable are FREE VALUES within the lines it reads (log
entry 6). -/
def abandonRead (s : State) (slot : Nat) : State :=
  let lines := lineCount (((s.slotRecord slot).bind SlotRecord.length).getD 0)
  let bad := min lines (Config.abandonedUncorrectable s.own.freeCount)
  let corrected := min (lines - bad) (Config.abandonedCorrected s.own.freeCount)
  (s.countEcc corrected bad).setOwn { s.own with freeCount := s.own.freeCount + 1 }

end State

/-- R99: whether an operation is a verify of the slot. -/
def OpKind.verifiesSlot (slot : Nat) : OpKind → Bool
  | .verify _ n _ => n == slot
  | _ => false

/-- R99, R100: whether an operation is a verify whose read of the slot is in flight. -/
def OpKind.readsSlot (slot : Nat) : OpKind → Bool
  | .verify _ n reading => n == slot && reading
  | _ => false

/-- R99: an operation that waits for the close of the slot's block begins its verify read. -/
def OpKind.beginRead (slot : Nat) : OpKind → OpKind
  | .verify i n reading => .verify i n (reading || n == slot)
  | k => k

namespace State

/-- R101: how many verify reads of a slot are in flight. -/
def readsInFlight (s : State) (slot : Nat) : Nat :=
  (s.ops.filter fun o => o.ended.isNone && o.kind.readsSlot slot).length

/-- R101: the verify reads of a slot that are in flight restart from line 0, or are abandoned. -/
def abandonVerifies (s : State) (slot : Nat) : State :=
  Nat.repeat (fun s => s.abandonRead slot) (s.readsInFlight slot) s

/-- R101: every verify of a slot ends at once with outcome GONE, its read abandoned. -/
def verifiesGone (s : State) (slot : Nat) : State :=
  (s.abandonVerifies slot).endOps (OpKind.verifiesSlot slot) ⟨.gone, false, false⟩

/-- R99: the verifies that wait for the close of a slot's block begin their reads. -/
def beginVerifies (s : State) (slot : Nat) : State :=
  s.setOps (s.ops.map fun o => { o with kind := o.kind.beginRead slot })

end State

end Sys2Proof.Machine
end

