-- ==== Sys2Proof/Machine/Degrade.lean ====
section
/-! DEFINITION. The degrade controllers (R105 to R109) and the occupancy that they watch (R5). -/

namespace Sys2Proof.Machine

/-- R105: the three conditions of a capture group. -/
inductive Condition where
  | over | under | neither
  deriving DecidableEq, Repr

/-- R105: a RUNNING stream, the only kind a group's condition counts. -/
def Phase.isRunning : Phase → Bool
  | .running _ => true
  | _ => false

namespace State

/-- R105: the RUNNING members of a group. -/
def runningMembers (s : State) (g : GroupId) : List StreamId :=
  (s.members g).filter fun i => (s.stream i).phase.isRunning

/-- R105: the condition of a group. -/
def condition (s : State) (g : GroupId) : Condition :=
  let run := (s.runningMembers g).map s.stream
  if run.any fun x => x.cfg.highMark ≤ x.occupancy then .over
  else if !run.isEmpty && run.all fun x => x.occupancy < x.cfg.lowMark then .under
  else .neither

end State

/-- Whether a timer runs. -/
def Timer.isRunning : Timer → Bool
  | .running _ => true
  | .stopped => false

/-- R107: the over-timer after the group's condition has been judged. -/
def Group.judgedOver (x : Group) (c : Condition) : Timer :=
  if c = .over then
    if !x.overTimer.isRunning && !x.holdOffTimer.isRunning && x.ordered < x.maxLevel then
      .running x.degradeWait
    else x.overTimer
  else .stopped

/-- R108: the settle-timer after the group's condition has been judged. -/
def Group.judgedSettle (x : Group) (c : Condition) : Timer :=
  if c = .under then
    if !x.settleTimer.isRunning && !x.holdOffTimer.isRunning && 0 < x.ordered then
      .running x.settleTime
    else x.settleTimer
  else .stopped

/-- R105, R107, R108: the group record after its condition has been judged. -/
def Group.judged (x : Group) (c : Condition) : Group :=
  { x with overTimer := x.judgedOver c, settleTimer := x.judgedSettle c }

/-- R109: the published level, the lesser of the ordered level and the max level. -/
def Group.published (x : Group) : Level := if x.ordered ≤ x.maxLevel then x.ordered else x.maxLevel

namespace State

/-- R105: the degrade controller of a group judges its condition again. -/
def judge (s : State) (g : GroupId) : State := s.setGroup g ((s.group g).judged (s.condition g))

/-- R105: the degrade controller of a stream's group judges its condition again. -/
def judgeFor (s : State) (i : StreamId) : State := s.judge (s.stream i).cfg.group

/-- R109: the level that a stream reads from its group. -/
def publishedFor (s : State) (i : StreamId) : Level := (s.group (s.stream i).cfg.group).published

/-- R5, R85: a stream's occupancy increases by one, and its group's degrade controller is told. -/
def occupancyUp (s : State) (i : StreamId) : State :=
  (s.setStream i { s.stream i with occupancy := (s.stream i).occupancy + 1 }).judgeFor i

/-- R5, R86: a stream's occupancy decreases by one, and its group's degrade controller is told. -/
def occupancyDown (s : State) (i : StreamId) : State :=
  (s.setStream i { s.stream i with occupancy := (s.stream i).occupancy - 1 }).judgeFor i

end State

end Sys2Proof.Machine
end

