-- ==== Sys2Proof/Machine/Reduction.lean ====
section
/-! DEFINITION. The arithmetic of the reduction and timing unit (chapter 3) and of the walker's FIELD (R23): fields, windows,
points, effective factors and start times. Nothing here writes the state. -/

namespace Sys2Proof.Machine

/-- R23: the input that a FIELD takes from a word, widened by the stream's signedness. -/
def extractField (sg : Signedness) (word : SampleWord) (offset width : Nat) : Int :=
  let bits := word.toNat / 2 ^ offset % 2 ^ width
  match sg with
  | .unsigned => bits
  | .signed => if 2 ^ (width - 1) ≤ bits then (bits : Int) - 2 ^ width else bits

/-- R51: the effective factor, the lesser of 65,536 and B × 4^L; for PASS, B is 1. -/
def effectiveFactor (cfg : StreamConfig) (level : Level) : Nat :=
  min 65536 ((if cfg.mode = .pass then 1 else cfg.baseFactor) * 4 ^ level.val)

/-- R51: the effective mode. -/
def effectiveMode (m : Mode) (level : Level) : Mode :=
  if level = 0 then m
  else match m with
    | .pass | .decimate | .envelope => .envelope
    | .mean => .mean

/-- R49: a window that one input begins. -/
def Window.beginWith (cfg : StreamConfig) (level : Level) (index : Nat) (v : Int) : Window where
  mode       := effectiveMode cfg.mode level
  size       := effectiveFactor cfg level
  count      := 1
  firstIndex := index
  firstValue := v
  sum        := v
  low        := v
  high       := v

/-- R49: a window with one more input. -/
def Window.add (w : Window) (v : Int) : Window :=
  { w with count := w.count + 1, sum := w.sum + v, low := min w.low v, high := max w.high v }

/-- R54: the mean of k inputs whose sum is S, floor((S + floor(k / 2)) / k). -/
def meanPoint (sum : Int) (k : Nat) : Int := (sum + (k / 2 : Nat)).fdiv k

/-- R52 to R54: the values of a window's point, one, or the minimum and the maximum. -/
def Window.point (w : Window) : List Int :=
  match w.mode with
  | .pass | .decimate => [w.firstValue]
  | .envelope => [w.low, w.high]
  | .mean => [meanPoint w.sum w.count]

/-- R66: the bytes of a point: 16-bit values, little-endian. -/
def pointBytes (vs : List Int) : List Byte :=
  (vs.map fun v => leBytes 2 (BitVec.ofInt 16 v).toNat).flatten

/-- R60, steps 1 to 3: the exact time of input `n`, in picoseconds. -/
def exactTime (a : Anchor) (n : Nat) : Int :=
  (a.time : Int) + (((n : Int) - a.index) * a.period).fdiv 1000

/-- R60, step 4: a time brought inside the 64-bit range. -/
def saturateTime (t : Int) : Nat := if t < 0 then 0 else min t.toNat Config.timeMax

/-- R60, step 4: whether the time had to be brought inside the range. -/
def timeSaturates (t : Int) : Bool := t < 0 || (Config.timeMax : Int) < t

/-- R60, R62: the time of input `n`, saturated and not clamped. A stream that opens a block or counts a lost input has
an anchor (R60); without one the time is 0 (log entry 19). -/
def inputTime (a : Option Anchor) (n : Nat) : Nat :=
  match a with
  | some a => saturateTime (exactTime a n)
  | none => 0

/-- R60: whether the start time of a block at input `n` saturates. -/
def startSaturates (a : Option Anchor) (n : Nat) : Bool :=
  match a with
  | some a => timeSaturates (exactTime a n)
  | none => false

/-- R61: whether a start time is below the previous one. -/
def startClamps (prev : Option Nat) (t : Nat) : Bool :=
  match prev with
  | some p => t < p
  | none => false

/-- R61: the start time after the monotonic clamp. -/
def clampStart (prev : Option Nat) (t : Nat) : Nat :=
  match prev with
  | some p => max p t
  | none => t

/-- R46, R60: the index for which a block with no window computes its start time. -/
def Stream.endIndex (x : Stream) : Nat := min x.inputIndex (Config.indexLimit - 1)

/-- R59: the stream with its input index increased by one, a held resync becoming the anchor where the index has
reached its own, and inputs accepted increased (R35, R42). A resync at or above 2^56 is never reached. -/
def Stream.advanceIndex (x : Stream) : Stream :=
  let n := x.inputIndex + 1
  let y := { x with inputIndex := n, counts := { x.counts with accepted := x.counts.accepted + 1 } }
  match x.resync with
  | some r =>
    if r.index = n ∧ n < Config.indexLimit then
      { y with anchor := y.anchor.map fun a => { a with index := r.index, time := r.time }, resync := none }
    else y
  | none => y

end Sys2Proof.Machine
end

