-- ==== Sys2Proof/Machine/Blocks.lean ====
section
/-! DEFINITION. The block assembler (chapter 4), the spill buffer's slots (5.1 to 5.4), loss (6.3) and the end of a run and
of a segment, as operations on the state. -/

namespace Sys2Proof.Machine

namespace State

/-! ## Slots (R85, R86) -/

/-- R83, R85: the record a slot takes when it is allocated to a stream. -/
def newRecord (s : State) (i : StreamId) : SlotRecord :=
  ⟨.openBlock, i, (s.stream i).runNumber, false, none, none, none⟩

/-- R85: an allocation request of a stream, ordinary or END. A granted request takes the slot at the head of the
free list; a refused one is none. -/
def allocate (s : State) (i : StreamId) (ordinary : Bool) : Option (Nat × State) :=
  match s.spill.freeList with
  | [] => none
  | slot :: rest =>
    if ordinary && (s.stream i).cfg.quota ≤ (s.stream i).occupancy then none
    else some (slot, (((s.setSpill { s.spill with freeList := rest }).putRecord slot
      (s.newRecord i)).occupancyUp i))

/-! ## Opening a block (R68, R69, R63) -/

/-- R66 to R69, R63: the block that opens for stream `x`, number `i`, in a slot, with a gap section or without, for
first input index `n`. DESIGN CHOICE (log entry 37): the fields that the close writes (point count, payload CRC, header
CRC) are 0 until then, in the open block and in the header lines that its open writes. -/
def newBlock (x : Stream) (i : StreamId) (slot : Nat) (gap : Option GapSection) (n : Nat) : OpenBlock :=
  let t := inputTime x.anchor n
  let mode := effectiveMode x.cfg.mode x.level
  { slot := slot
    header := {
      stream := i
      run := x.runNumber
      source := x.cfg.source
      mode := mode
      signedness := x.cfg.signedness
      level := x.level
      firstIndex := n
      flags := Flag.when x.firstMark Flag.firstOfSegment ||| Flag.when x.lateStart Flag.lateStart
        ||| Flag.when (startSaturates x.anchor n) Flag.timeSaturated
        ||| Flag.when (startClamps x.prevStart t) Flag.timeClamped
        ||| Flag.when gap.isSome Flag.gapSection
      segment := x.segment
      sequence := x.nextSeq
      factor := effectiveFactor x.cfg x.level
      pointCount := 0
      startTime := clampStart x.prevStart t
      period := (x.anchor.map Anchor.period).getD 0
      notes := Vector.replicate 4 0
      payloadCrc := 0
      headerCrc := 0 }
    gap := gap
    target := targetCount x.cfg.blockSize (headerLength gap) mode.pointSize
    points := 0
    payload := [] }

/-- R61, R67, R68: the stream as the block opens. `timed` says whether the block may start the interim timer: an END
block and a gap carrier close as they open (R74). -/
def openedStream (x : Stream) (b : OpenBlock) (timed : Bool) : Stream :=
  { x with
    nextSeq := x.nextSeq + 1
    gaveSeq := true
    prevStart := some b.header.startTime
    firstMark := false
    lateStart := false
    openBlock := some b
    interimTimer := if timed && x.cfg.interim != 0 then .running x.cfg.interim else .stopped }

/-- R68: a block opens in a slot that the stream has been granted. DESIGN CHOICE (log entry 37): with a gap section the two
header lines end at byte 127 and the header at byte 95; bytes 96 to 127 are written as zeros, until points fill the
line. -/
def openIn (s : State) (i : StreamId) (slot : Nat) (gap : Option GapSection) (n : Nat) (timed : Bool) : State :=
  let x := s.stream i
  let b := newBlock x i slot gap n
  let s := s.setStream i (openedStream x b timed)
  let s := s.changeRecord slot fun r => { r with sequence := some x.nextSeq }
  let s := s.writeLines slot 0 (b.header.bytes ++ gapBytes gap)
  if startClamps x.prevStart (inputTime x.anchor n) then s.raise (.stream i .timeClamped) else s

/-! ## Closing a block (R71) -/

/-- R71, steps 2 to 5: the block as it closes, with its close flags and the TAIL section that it takes, if any. -/
def closedBlock (b : OpenBlock) (flags : BitVec 16) (tail : Option GapSection) : OpenBlock :=
  let gap := if tail.isSome then tail else b.gap
  let h := { b.header with
    pointCount := b.points
    flags := b.header.flags ||| flags ||| Flag.when tail.isSome Flag.gapSection }
  { b with header := h.sealed gap b.payload, gap := gap }

/-- R83, R171: the length of a block. -/
def blockLength (b : OpenBlock) : Nat := headerLength b.gap + b.points * b.header.mode.pointSize

/-- R71: the open block of a stream, if there is one, closes and joins the tail of the stream's send queue. -/
def closeOpen (s : State) (i : StreamId) (flags : BitVec 16) (tail : Option GapSection) : State :=
  let x := s.stream i
  match x.openBlock with
  | none => s
  | some b =>
    let c := closedBlock b flags tail
    let s := s.writeLines b.slot 0 (blockImage c.header c.gap c.payload)
    let s := s.changeRecord b.slot fun r =>
      { r with place := .queued, length := some (blockLength c), headLength := some (headerLength c.gap) }
    let s := s.setStream i { x with
      openBlock := none
      interimTimer := .stopped
      counts := { x.counts with closed := x.counts.closed + 1 }
      sendQueue := x.sendQueue ++ [b.slot] }
    s.beginVerifies b.slot

/-! ## Loss (R112 to R118) -/

/-- R116, R118: the stream leaves LOSSY: the loss record becomes absent and LOSS_END is raised. -/
def leaveLossy (s : State) (i : StreamId) : State :=
  (s.setStream i { s.stream i with loss := none }).raise (.stream i .lossEnd)

/-- R113: the stream enters LOSSY with a loss record, and LOSS_BEGIN is raised. The record that was awaiting is part
of it or absent. -/
def enterLossy (s : State) (i : StreamId) (r : LossRecord) : State :=
  (s.setStream i { s.stream i with loss := some r, awaiting := none, window := none }).raise (.stream i .lossBegin)

/-- R78, R116: the gap section that the next block of a stream carries at open: the loss record's NO_SLOT section,
or the awaiting record's WORD_GAP section. -/
def gapAtOpen (x : Stream) : Option GapSection :=
  match x.loss with
  | some r => some ⟨.noSlot, r.record⟩
  | none => x.awaiting.map fun r => ⟨.wordGap, r⟩

/-- R78, R116, R118: a block opens in a granted slot and carries what awaits: the end of a loss, with its event, or the
awaiting record. -/
def openCarrying (s : State) (i : StreamId) (slot n : Nat) (timed : Bool) : State :=
  let gap := gapAtOpen (s.stream i)
  let s := if (s.stream i).lossy then s.leaveLossy i else s
  let s := s.setStream i { s.stream i with awaiting := none }
  s.openIn i slot gap n timed

/-! ## The END block and the freeing of slots (R76, R86) -/

/-- R10, R76, R118: the END block opens in a slot with no point and closes at once. -/
def openEndBlock (s : State) (i : StreamId) (slot : Nat) : State :=
  (s.openCarrying i slot (s.stream i).endIndex false).closeOpen i Flag.endOfStream none

/-- R86: a slot that no longer belongs to a block goes to the END-slot wait that began first, or else to the tail of the
free list. -/
def placeFreed (s : State) (slot : Nat) : State :=
  match s.spill.endWaits with
  | [] => s.setSpill { s.spill with freeList := s.spill.freeList ++ [slot] }
  | j :: rest =>
    (((s.setSpill { s.spill with endWaits := rest }).putRecord slot (s.newRecord j)).occupancyUp j).openEndBlock j slot

/-- R86, R101: a held slot is freed: verifies of it end GONE, its stream's occupancy falls, its record is cleared, and
the slot is placed. A free slot is not freed again. -/
def freeSlot (s : State) (slot : Nat) : State :=
  match s.slotRecord slot with
  | none => s
  | some r =>
    let s := (s.verifiesGone slot).occupancyDown r.stream
    (s.setSpill { s.spill with slots := s.spill.slots.erase slot }).placeFreed slot

/-- R10, R76: a run ends at the block assembler: the open block becomes the END block, or an END block opens, or the
END-slot wait begins. -/
def endRun (s : State) (i : StreamId) : State :=
  if (s.stream i).openBlock.isSome then s.closeOpen i Flag.endOfStream none
  else match s.allocate i false with
    | some (slot, s) => s.openEndBlock i slot
    | none => s.setSpill { s.spill with endWaits := s.spill.endWaits ++ [i] }

/-! ## Points (R49, R55, R70) -/

/-- R70, R91: a block with one more point. -/
def placePoint (b : OpenBlock) (bytes : List Byte) (isPartial : Bool) : OpenBlock :=
  { b with
    points := b.points + 1
    payload := b.payload ++ bytes
    header := { b.header with flags := b.header.flags ||| Flag.when isPartial Flag.partialLast } }

/-- R91: the line of an open block that the last point has filled, if it has filled one, is written. -/
def writeFilledLine (s : State) (before after : OpenBlock) : State :=
  let image := after.header.bytes ++ gapBytes after.gap ++ after.payload
  let line := (headerLength before.gap + before.payload.length) / Config.lineBytes
  if line < image.length / Config.lineBytes then
    s.writeLines after.slot line ((image.drop (line * Config.lineBytes)).take Config.lineBytes)
  else s

/-- R49, R55, R70: the open window is emitted: its point is placed in the open block and the window is emptied. A full
point that brings the block to its target closes it. -/
def emitWindow (s : State) (i : StreamId) (isPartial : Bool) : State :=
  let x := s.stream i
  match x.window, x.openBlock with
  | some w, some b =>
    let c := placePoint b (pointBytes w.point) isPartial
    let s := s.setStream i { x with
      window := none
      openBlock := some c
      counts := { x.counts with points := x.counts.points + 1 } }
    let s := s.writeFilledLine b c
    if !isPartial && c.points == c.target then s.closeOpen i 0 none else s
  | _, _ => s.setStream i { x with window := none }

/-- R55: the open window, if it holds inputs, is emitted as a partial point. -/
def emitPartial (s : State) (i : StreamId) : State :=
  if (s.stream i).window.isSome then s.emitWindow i true else s

/-! ## Window boundaries and inputs (R49, R50, R110, R113 to R116) -/

/-- R110: at a window boundary the stream applies a changed published level: its open block closes with FACTOR_CHANGE,
the applied level becomes the published level, and LEVEL_CHANGED is raised. -/
def applyLevel (s : State) (i : StreamId) : State :=
  let level := s.publishedFor i
  if (s.stream i).level = level then s
  else
    let s := s.closeOpen i Flag.factorChange none
    (s.setStream i { s.stream i with level := level }).raise (.stream i .levelChanged)

/-- R49: an input begins a new window, which is emitted at once if it holds one input only. -/
def beginWindow (s : State) (i : StreamId) (v : Int) : State :=
  let x := s.stream i
  let w := Window.beginWith x.cfg x.level x.inputIndex v
  let s := s.setStream i { x with window := some w }
  if w.count = w.size then s.emitWindow i false else s

/-- R114: an input position is counted lost while the stream is LOSSY. -/
def countLossy (s : State) (i : StreamId) : State :=
  let x := s.stream i
  match x.loss with
  | none => s
  | some r =>
    let full := match r.factor with
      | some d => decide (d ≤ r.seen + 1)
      | none => true
    s.setStream i { x with
      counts := { x.counts with lost := x.counts.lost + 1 }
      loss := some { r with
        record := { r.record with count := min Config.indexLimit (r.record.count + 1) }
        seen := if full then 0 else r.seen + 1 } }

/-- R115, R116: a LOSSY stream at a boundary applies the published level, fixes the next would-be window's D and makes one
ordinary request; a granted one ends the loss with a block opened for the input at the boundary. Between boundaries
nothing is done. -/
def lossyRetry (s : State) (i : StreamId) : State :=
  match (s.stream i).loss with
  | none => s
  | some r =>
    if r.seen ≠ 0 then s
    else
      let s := s.applyLevel i
      let x := s.stream i
      let s := s.setStream i { x with loss := some { r with factor := some (effectiveFactor x.cfg x.level) } }
      match s.allocate i true with
      | some (slot, s) => s.openCarrying i slot (s.stream i).inputIndex true
      | none => s

/-- R113: the loss record of a stream refused a slot for a new window, whose first input it is. An awaiting record's
inputs come first (R78). -/
def lossOfInput (x : Stream) : LossRecord :=
  let d := effectiveFactor x.cfg x.level
  { record := match x.awaiting with
      | some a => { a with count := a.count + 1 }
      | none => ⟨x.inputIndex, 1, inputTime x.anchor x.inputIndex⟩
    factor := some d
    seen := if d ≤ 1 then 0 else 1 }

/-- R49, R56, R113: an input begins a window, after the boundary before it, in the open block or in one that opens for
it; if no slot can be had it is the first input of a loss run. -/
def takeFirst (s : State) (i : StreamId) (v : Int) : State :=
  let s := s.applyLevel i
  if (s.stream i).openBlock.isSome then s.beginWindow i v
  else match s.allocate i true with
    | some (slot, s) => (s.openCarrying i slot (s.stream i).inputIndex true).beginWindow i v
    | none =>
      let x := s.stream i
      (s.setStream i { x with counts := { x.counts with lost := x.counts.lost + 1 } }).enterLossy i (lossOfInput x)

/-- R49: an input joins the open window, which is emitted when it is full. -/
def takeNext (s : State) (i : StreamId) (w : Window) (v : Int) : State :=
  let w := w.add v
  let s := s.setStream i { s.stream i with window := some w }
  if w.count = w.size then s.emitWindow i false else s

/-- R35, R49, R114: the walker hands an input to the reduction and timing unit. -/
def handInput (s : State) (i : StreamId) (v : Int) : State :=
  if (s.stream i).lossy then
    let s := s.lossyRetry i
    if (s.stream i).lossy then s.countLossy i else s.beginWindow i v
  else match (s.stream i).window with
    | some w => s.takeNext i w v
    | none => s.takeFirst i v

/-! ## Inputs passed in a dry walk (R42 to R44, R47) -/

/-- R43, R78: a gap record with one more lost input, or a new one that begins with the stream's next input. -/
def extendRecord (x : Stream) (r : Option GapRecord) : GapRecord :=
  match r with
  | some r => { r with count := r.count + 1 }
  | none => ⟨x.inputIndex, 1, inputTime x.anchor x.inputIndex⟩

/-- R43: a stream that is not LOSSY passes an input in the dry walk of a word gap: the open window is emitted as a
partial point, the open block closes, and the WORD_GAP record is formed or extended. -/
def loseToGap (s : State) (i : StreamId) : State :=
  let s := (s.emitPartial i).closeOpen i 0 none
  let x := s.stream i
  s.setStream i { x with
    awaiting := some (extendRecord x x.awaiting)
    counts := { x.counts with lost := x.counts.lost + 1 } }

/-- R47: a stream that is not LOSSY passes an input in the dry walk of a tail: the TAIL record is formed or extended. -/
def loseToTail (s : State) (i : StreamId) (tail : Option GapRecord) : State × Option GapRecord :=
  let x := s.stream i
  (s.setStream i { x with counts := { x.counts with lost := x.counts.lost + 1 } }, some (extendRecord x tail))

/-- R42, R44, R47, R115: an input position is passed in a dry walk, of a tail or of a word gap. A LOSSY stream retries
at its boundaries; where the retry is granted the position is lost by a stream that is not LOSSY (log entry 7). DESIGN
CHOICE (log entry 39): a stream that is not LOSSY meets no boundary at such a position, input 0 of its segment included,
and applies no level there. -/
def passInput (s : State) (i : StreamId) (isTail : Bool) (tail : Option GapRecord) : State × Option GapRecord :=
  let s := s.lossyRetry i
  if (s.stream i).lossy then (s.countLossy i, tail)
  else if isTail then s.loseToTail i tail
  else (s.loseToGap i, tail)

/-! ## Segment ends (R73, R79, R80) -/

/-- R67, R73: the close flags of a segment end. -/
def segmentFlags (truncated : Bool) : BitVec 16 := Flag.endOfSegment ||| Flag.when truncated Flag.truncated

/-- R80, R113: a gap carrier block opens and closes at a segment end, or the stream enters LOSSY with the record's
inputs. -/
def carryGap (s : State) (i : StreamId) (g : GapSection) (truncated : Bool) : State :=
  match s.allocate i true with
  | some (slot, s) =>
    let s := s.setStream i { s.stream i with awaiting := none }
    (s.openIn i slot (some g) (s.stream i).endIndex false).closeOpen i (segmentFlags truncated) none
  | none => s.enterLossy i ⟨g.record, none, 0⟩

/-- R79: whether the open block has room for a TAIL section. -/
def tailFits (b : OpenBlock) : Bool :=
  b.gap.isNone && b.points * b.header.mode.pointSize + 96 ≤ Config.slotBytes

/-- R73, R79: the block assembler's part in a segment end. -/
def endSegmentBlock (s : State) (i : StreamId) (truncated : Bool) (tail : Option GapRecord) : State :=
  let x := s.stream i
  if x.lossy then s
  else match x.openBlock, tail with
    | some _, none => s.closeOpen i (segmentFlags truncated) none
    | some b, some r =>
      if tailFits b then s.closeOpen i (segmentFlags truncated) (some ⟨.tail, r⟩)
      else (s.closeOpen i (segmentFlags truncated) none).carryGap i ⟨.tail, r⟩ truncated
    | none, tail =>
      match x.awaiting, tail with
      | some a, some r => s.carryGap i ⟨.wordGap, { a with count := a.count + r.count }⟩ truncated
      | some a, none => s.carryGap i ⟨.wordGap, a⟩ truncated
      | none, some r => s.carryGap i ⟨.tail, r⟩ truncated
      | none, none => s

/-- R114: the would-be window in progress is abandoned, and its count becomes 0. -/
def abandonWouldBe (x : Stream) : Stream :=
  { x with loss := x.loss.map fun r => { r with seen := 0 } }

/-- R8, R40, R45 to R47, R148: a segment ends, in this order: the window, the block, the event of a truncation, the
walk and the timing. -/
def endSegment (s : State) (i : StreamId) (truncated : Bool) (tail : Option GapRecord) : State :=
  let s := (s.emitPartial i).endSegmentBlock i truncated tail
  let s := if truncated then s.raise (.stream i .segmentTruncated) else s
  let x := abandonWouldBe (s.stream i)
  s.setStream i { x with
    phase := .running .betweenSegments
    walker := { x.walker with stack := [] }
    resync := none }

/-! ## The interim flush (R56, R74, R75) -/

/-- R56, R113: the loss record of a stream refused a slot after a SHORT close with a window in progress. -/
def lossOfWindow (x : Stream) (w : Window) : LossRecord :=
  { record := ⟨w.firstIndex, w.count, inputTime x.anchor w.firstIndex⟩
    factor := some w.size
    seen := w.count }

/-- R56, R74, R75: the open block closes with SHORT, and where a window is in progress the next block opens at once for
it, or the stream enters LOSSY with the window's inputs. -/
def closeShort (s : State) (i : StreamId) : State :=
  let s := s.closeOpen i Flag.short none
  match (s.stream i).window with
  | none => s
  | some w =>
    match s.allocate i true with
    | some (slot, s) => s.openCarrying i slot w.firstIndex true
    | none =>
      let x := s.stream i
      (s.setStream i { x with counts := { x.counts with lost := x.counts.lost + BitVec.ofNat 64 w.count } }).enterLossy i
        (lossOfWindow x w)

end State

end Sys2Proof.Machine
end

