-- ==== Sys2Proof/Machine/Walker.lean ====
section
/-! DEFINITION. The layout walker (2.4, 2.5): the walk over received words, the dry walk over missing ones, and the
classification of a SAMPLES frame. -/

namespace Sys2Proof.Machine

/-- R36, R38: the walker after the entry at its current index has been executed: the next entry, and the stack. -/
def Walker.stepPast (w : Walker) : Walker :=
  match w.stack with
  | [] => { w with entry := w.entry + 1 }
  | c :: rest =>
    if w.entry = c.last then
      if c.forever then { w with entry := c.first }
      else if 1 < c.remaining then
        { w with entry := c.first, stack := { c with remaining := c.remaining - 1 } :: rest }
      else { w with entry := c.last + 1, stack := rest }
    else { w with entry := w.entry + 1 }

/-- R37: the walker after a GROUP entry. -/
def Walker.enterGroup (w : Walker) (count : Nat) (forever : Bool) (last : Nat) : Walker :=
  if forever || 1 ≤ count then
    { w with entry := w.entry + 1, stack := ⟨w.entry + 1, last, count, forever⟩ :: w.stack }
  else { w with entry := last + 1 }

/-- What a walk passes over: received words, of which the first stands at the given word index, or missing words, of a
word gap or of a tail. -/
inductive WalkOver where
  | words (first : Nat) (words : List SampleWord)
  | gap
  | tail
  deriving DecidableEq, Repr

namespace State

/-- R40: whether a stream is in a segment, so that its walker executes entries. -/
def inSegment (s : State) (i : StreamId) : Bool := (s.stream i).phase == .running .inSegment

/-- R35, R42: one FIELD's input is handed over, or passed in a dry walk and counted lost. -/
def fieldInput (s : State) (i : StreamId) (way : WalkOver) (tail : Option GapRecord) (offset width : Nat) :
    State × Option GapRecord :=
  match way with
  | .words first words =>
    let x := s.stream i
    (s.handInput i (extractField x.cfg.signedness (words.getD (x.walker.position - first) 0) offset width), tail)
  | .gap => s.passInput i false tail
  | .tail => s.passInput i true tail

/-- R35, R42, R59: the input index moves on by one, with what that brings about. -/
def advanceInput (s : State) (i : StreamId) : State := s.setStream i (s.stream i).advanceIndex

/-- R35, R46: a FIELD is executed: its input, the advance of the input index, and then the walker's own advance; or, where
the index has reached 2^56, the truncation of the segment. DESIGN CHOICE (log entry 35): the FIELD whose increase brings
the index to 2^56 makes neither its ADVANCE nor its step, so that the walker rests on it. -/
def execField (s : State) (i : StreamId) (way : WalkOver) (tail : Option GapRecord)
    (offset width : Nat) (advance : Bool) : State × Option GapRecord :=
  let (s, tail) := s.fieldInput i way tail offset width
  let s := s.advanceInput i
  let x := s.stream i
  if Config.indexLimit ≤ x.inputIndex then (s.endSegment i true tail, none)
  else
    (s.setStream i { x with
      walker := { x.walker with position := x.walker.position + advance.toNat }.stepPast }, tail)

/-- R24, R35 to R38: the walker executes the entry at its current index. -/
def execEntry (s : State) (i : StreamId) (way : WalkOver) (tail : Option GapRecord) : State × Option GapRecord :=
  let x := s.stream i
  let w := x.walker
  match s.layoutOp w.entry with
  | .field offset width advance => s.execField i way tail offset width advance
  | .skip count =>
    (s.setStream i { x with walker := { w with position := w.position + count }.stepPast }, tail)
  | .group count forever last => (s.setStream i { x with walker := w.enterGroup count forever last }, tail)
  | .endCycle => (s.setStream i { x with walker := { w with entry := x.cfg.layoutBase, stack := [] } }, tail)

/-- R39, R42: the walker executes entries while its word position is below the limit and its segment lasts. `fuel`
bounds the recursion (log entry 10). The second component is the TAIL record formed so far (R47). -/
def walk (i : StreamId) (limit : Nat) (way : WalkOver) :
    (fuel : Nat) → State → Option GapRecord → State × Option GapRecord
  | 0, s, tail => (s, tail)
  | fuel + 1, s, tail =>
    if s.inSegment i && (s.stream i).walker.position < limit then
      let (s, tail) := s.execEntry i way tail
      walk i limit way fuel s tail
    else (s, tail)

/-- R39, R41, R42: the expected word index of a stream's walker. -/
def setExpected (s : State) (i : StreamId) (n : Nat) : State :=
  let x := s.stream i
  s.setStream i { x with walker := { x.walker with expected := n } }

/-- R39: received words are taken: the expected word index moves past the last, and the walker resumes. -/
def takeWords (s : State) (i : StreamId) (first : Nat) (words : List SampleWord) : State :=
  let limit := first + words.length
  ((walk i limit (.words first words) Config.walkFuel (s.setExpected i limit) none)).1

/-- R42, R47, R149: the dry walk up to a word index. Where the segment lasts, the expected word index is then that index
after a word gap; a SEGMENT_END's final word index does not move it (R149; log entry 36). -/
def dryWalk (s : State) (i : StreamId) (limit : Nat) (isTail : Bool) : State × Option GapRecord :=
  let (s, tail) := walk i limit (if isTail then .tail else .gap) Config.walkFuel s none
  (if s.inSegment i && !isTail then s.setExpected i limit else s, tail)

end State

/-- R145, R147: how a stream disposed of a frame it was offered. -/
inductive Disposal where
  | notTaken | taken | overlap | orphan
  deriving DecidableEq, Repr

namespace State

/-- R41 to R46: a SAMPLES frame of the current segment, by its first word index. -/
def takeSamples (s : State) (i : StreamId) (first : Nat) (words : List SampleWord) : State × Disposal :=
  let x := (s.stream i).walker.expected
  if first + words.length ≤ x then (s, .overlap)
  else if first < x then (s.takeWords i x (words.drop (x - first)), .taken)
  else if first - x ≤ Config.gapLimit then
    let s := if x < first then (s.dryWalk i first false).1 else s
    (if s.inSegment i then s.takeWords i first words else s, .taken)
  else (s.endSegment i true none, .orphan)

/-- R47: the SEGMENT_END of the current segment, by its final word index. -/
def takeSegmentEnd (s : State) (i : StreamId) (final : Nat) : State :=
  let x := (s.stream i).walker.expected
  if final - x ≤ Config.gapLimit then
    let (s, tail) := if x < final then s.dryWalk i final true else (s, none)
    if s.inSegment i then s.endSegment i false tail else s
  else s.endSegment i true none

end State

end Sys2Proof.Machine
end

