-- ==== Sys2Proof/Machine/Runs.lean ====
section
/-! DEFINITION. The life of a run (chapter 1): starting, beginning a segment, entering RUNNING, closing, aborting and
returning to IDLE, with the pending operations these end (R158). -/

namespace Sys2Proof.Machine

/-- R6, R48: the stream as START arms it. -/
def Stream.started (x : Stream) (arming : Arming) : Stream :=
  { x with
    runNumber  := x.runNumber + 1
    nextSeq    := 0
    gaveSeq    := false
    counts     := .zero
    inputIndex := 0
    anchor     := none
    resync     := none
    prevStart  := none
    loss       := none
    lateStart  := false
    level      := 0
    phase      := .armed arming }

/-- R7, R8, R40, R57, R67: the stream as a segment begins: walker at its base, anchor (0, T0), period P with 0 taken as
1 fs, input index 0, empty window, no pending resync, first-of-segment mark set. -/
def Stream.atSegment (x : Stream) (segment : BitVec 32) (t0 : BitVec 64) (period : BitVec 32) : Stream :=
  { x with
    phase      := .running .inSegment
    segment    := segment
    walker     := .atBase x.cfg.layoutBase
    inputIndex := 0
    window     := none
    anchor     := some ⟨0, t0.toNat, if period = 0 then 1 else period.toNat⟩
    resync     := none
    firstMark  := true }

/-- R12: a RUNNING or CLOSING stream's own context after ABORT, but for its state: the walker stops with an empty stack,
the open window's inputs are lost, and what was open, held, awaiting or LOSSY is dropped. -/
def Stream.dropped (x : Stream) : Stream :=
  { x with
    walker       := { x.walker with stack := [] }
    counts       := { x.counts with
      lost := x.counts.lost + BitVec.ofNat 64 ((x.window.map Window.count).getD 0) }
    window       := none
    resync       := none
    awaiting     := none
    openBlock    := none
    interimTimer := .stopped
    loss         := none
    lateStart    := false
    firstMark    := false
    sendQueue    := [] }

/-- R18: a group-close operation after a stream has entered IDLE, by ABORT or not. -/
def PendingOp.sawIdle (i : StreamId) (byAbort : Bool) (o : PendingOp) : PendingOp :=
  match o.kind with
  | .groupClose g members waiting aborted =>
    if members.contains i && o.ended.isNone then
      let aborted := aborted || byAbort
      let waiting := waiting.filter fun j => j != i
      { o with
        kind := .groupClose g members waiting aborted
        ended := if waiting.isEmpty then some ⟨if aborted then .aborted else .done, false, false⟩ else none }
    else o
  | _ => o

/-- Whether an operation is the CLOSE of a stream. -/
def OpKind.closes (i : StreamId) : OpKind → Bool
  | .close j => j == i
  | _ => false

/-- R12: whether ABORT of a stream ends an operation: its CLOSE and its VERIFY operations. -/
def OpKind.belongsTo (i : StreamId) : OpKind → Bool
  | .close j => j == i
  | .verify j _ _ => j == i
  | .groupClose _ _ _ _ => false

namespace State

/-- R6: a stream is started. -/
def startRun (s : State) (i : StreamId) (arming : Arming) : State := s.setStream i ((s.stream i).started arming)

/-- R9, R10, R12, R13, R18: a stream enters IDLE, by ABORT or not; a group-close that recorded it is told. -/
def enterIdle (s : State) (i : StreamId) (byAbort : Bool) : State :=
  let s := s.setStream i { s.stream i with phase := .idle }
  s.setOps (s.ops.map fun o => o.sawIdle i byAbort)

/-- R8: a segment begins. -/
def beginSegment (s : State) (i : StreamId) (segment : BitVec 32) (t0 : BitVec 64) (period : BitVec 32) : State :=
  s.setStream i ((s.stream i).atSegment segment t0 period)

/-- R7, R105: an ARMED stream enters RUNNING: it takes its group's published level and begins the segment, and its
group's condition is judged. -/
def enterRunning (s : State) (i : StreamId) (late : Bool) (segment : BitVec 32) (t0 : BitVec 64)
    (period : BitVec 32) : State :=
  let s := s.setStream i { s.stream i with level := s.publishedFor i, lateStart := late }
  (s.beginSegment i segment t0 period).judgeFor i

/-- R7, R16: a SEGMENT_START reaches an ARMED stream, which may stay ARMED if it was armed by START GROUP. -/
def takeArmedStart (s : State) (i : StreamId) (arming : Arming) (segment : BitVec 32) (t0 : BitVec 64)
    (period : BitVec 32) : State :=
  match arming with
  | .alone => s.enterRunning i false segment t0 period
  | .group =>
    let g := (s.stream i).cfg.group
    match (s.group g).startSegment with
    | none => (s.setGroup g { s.group g with startSegment := some segment }).enterRunning i false segment t0 period
    | some first =>
      if segment < first then s else s.enterRunning i (first < segment) segment t0 period

/-- R10, R59, R105: a RUNNING stream enters CLOSING and its run ends at the block assembler. -/
def closeRun (s : State) (i : StreamId) : State :=
  let s := (s.setStream i { s.stream i with phase := .closing false, resync := none }).judgeFor i
  (s.emitPartial i).endRun i

/-- R10: a CLOSING stream whose blocks are all committed, the END block among them, enters IDLE and its CLOSE completes.
The END block carries the last sequence given, so that e + 1 is the next stream sequence (log entry 24). -/
def testRunEnd (s : State) (i : StreamId) : State :=
  let x := s.stream i
  if x.phase == .closing false && !s.spill.endWaits.contains i && x.openBlock.isNone
      && x.counts.committed == x.nextSeq then
    (s.enterIdle i false).endOps (OpKind.closes i) ⟨.done, false, false⟩
  else s

/-- R5, R128: the commit of a block is reported to the stream table. -/
def reportCommit (s : State) (r : SlotRecord) : State :=
  if r.aborted then s
  else
    let x := s.stream r.stream
    (s.setStream r.stream { x with counts := { x.counts with committed := x.counts.committed + 1 } }).testRunEnd r.stream

/-- Whether a block in SENDING belongs to a stream. -/
def sendsFor (s : State) (i : StreamId) : Bool :=
  match s.alt.sending with
  | some b => (s.slotRecord b.slot).any fun r => r.stream == i
  | none => false

/-- Whether STAGED holds a block of a stream, and which slot it is. -/
def stagedFor (s : State) (i : StreamId) : List Nat :=
  match s.alt.staged with
  | some b => if (s.slotRecord b.slot).any fun r => r.stream == i then [b.slot] else []
  | none => []

/-- R93, R133: STAGED becomes empty; a read or re-read in flight is abandoned. -/
def dropStaged (s : State) : State :=
  match s.alt.staged with
  | none => s
  | some b =>
    let s := if b.copy = .ready then s else s.abandonRead b.slot
    s.setAlt { s.alt with staged := none }

/-- R12: the aborted mark is set on a stream's blocks in SENDING and on the outstanding list. -/
def markAborted (s : State) (i : StreamId) : State :=
  s.setSpill { s.spill with
    slots := s.spill.slots.map fun x =>
      if x.2.stream == i && (x.2.place == .sending || x.2.place == .outstanding) then
        (x.1, { x.2 with aborted := true })
      else x }

/-- R12, R101: the pending CLOSE and VERIFY operations of a stream end ABORTED, and verify reads in flight are
abandoned. -/
def abortOps (s : State) (i : StreamId) : State :=
  let reads := s.ops.filterMap fun o => match o.kind with
    | .verify j slot true => if j == i && o.ended.isNone then some slot else none
    | _ => none
  (reads.foldl abandonRead s).endOps (OpKind.belongsTo i) ⟨.aborted, false, false⟩

/-- R12, R86: the slots that ABORT of a stream frees, in order: its STAGED block, its send queue from front to back, its
open block. -/
def abortedSlots (s : State) (i : StreamId) : List Nat :=
  s.stagedFor i ++ (s.stream i).sendQueue ++
    (match (s.stream i).openBlock with | some b => [b.slot] | none => [])

/-- R12: ABORT of a RUNNING or CLOSING stream (not one already ABORTING). -/
def abortRun (s : State) (i : StreamId) : State :=
  let slots := s.abortedSlots i
  let s := s.abortOps i
  let s := if (s.stagedFor i).isEmpty then s else s.dropStaged
  let busy := s.sendsFor i
  let s := s.setSpill { s.spill with endWaits := s.spill.endWaits.filter fun j => j != i }
  let s := (s.setStream i { (s.stream i).dropped with phase := .closing true }).judgeFor i
  let s := slots.foldl freeSlot (s.markAborted i)
  if busy then s else s.enterIdle i true

end State

end Sys2Proof.Machine
end

