-- ==== Sys2Proof/Machine/Transmit.lean ====
section
/-! DEFINITION. The archive link transmitter's operations (chapter 7): the sequence window, commits, returns, the commit timer
and the arbiter's choice; and the marking of a damaged block (R94). -/

namespace Sys2Proof.Machine

/-! ## The sequence window (R127) -/

/-- R127: how a link sequence stands to the outstanding list. -/
inductive Relation where
  | outstanding (position : Nat)
  | next
  | stale
  | beyond
  deriving DecidableEq, Repr

/-- R127: the oldest outstanding link sequence, or the next link sequence when the list is empty. -/
def Transmitter.oldest (t : Transmitter) : BitVec 32 :=
  match t.outstanding with
  | b :: _ => b.link
  | [] => t.nextLink

/-- R127: the relation of a link sequence to the outstanding list, modulo 2^32. -/
def Transmitter.relation (t : Transmitter) (n : BitVec 32) : Relation :=
  let ahead := (n - t.oldest).toNat
  let behind := (t.oldest - n).toNat
  if ahead < t.outstanding.length then .outstanding ahead
  else if ahead = t.outstanding.length then .next
  else if 1 ≤ behind && behind ≤ 64 then .stale
  else .beyond

/-! ## Credits and the commit timer (R124, R126) -/

/-- R126: `k` credits are added, so that credits and outstanding blocks stay within 64. -/
def Transmitter.addCredits (t : Transmitter) (k : Nat) : Transmitter :=
  { t with credits := min (t.credits + k) (Config.creditLimit - t.outstanding.length) }

/-- R124: an accepted COMMIT or REWIND restarts the commit timer, or stops it where the list is empty, and returns a
STALLED link to UP. -/
def Transmitter.accepted (t : Transmitter) : Transmitter :=
  { t with
    commitTimer := if t.outstanding.isEmpty then .stopped else .running t.commitTimeout
    linkState := if t.linkState = .stalled then .up else t.linkState }

/-- R131, R134: the link state is UP or STALLED, or the ALT is in loopback. -/
def State.linkUsable (s : State) : Bool := s.settings.loopback || s.alt.linkState != .down

/-- 7.3, R137: inbound frames are taken while the archive link has sync and the ALT is not in loopback. -/
def State.takesInbound (s : State) : Bool := s.alt.archiveSync && !s.settings.loopback

namespace State

/-- R125: a protocol violation is counted and LINK_PROTOCOL is raised. -/
def violation (s : State) : State :=
  (s.setCounters { s.counters with linkProtocol := satAdd s.counters.linkProtocol 1 }).raise (.link .linkProtocol)

/-! ## Commits (R128) -/

/-- R128: the entry at the head of the outstanding list is committed: reported to the stream table, and its slot
freed. -/
def commitHead (s : State) : State :=
  match s.alt.outstanding with
  | [] => s
  | b :: rest =>
    let s := s.setAlt { s.alt with outstanding := rest }
    let s := match s.slotRecord b.slot with
      | some r => s.reportCommit r
      | none => s
    s.freeSlot b.slot

/-- R128: the first `n` entries of the outstanding list are committed, in ascending link sequence. -/
def commitMany (s : State) (n : Nat) : State := Nat.repeat commitHead n s

/-- R128, R124: an accepted COMMIT of the entry at a position of the outstanding list. -/
def acceptCommit (s : State) (position : Nat) : State :=
  let s := s.commitMany (position + 1)
  s.setAlt s.alt.accepted

/-! ## Returns (R130) -/

/-- R130, R172: a send in progress is abandoned; outside loopback its frame ends with the abandon symbol. -/
def abandonSend (s : State) : State :=
  match s.alt.sending with
  | none => s
  | some b =>
    let s := if s.settings.loopback then s
      else s.setOwn { s.own with archiveOut := s.own.archiveOut ++ [⟨b.link, b.bytes, .abandoned⟩] }
    s.setAlt { s.alt with sending := none }

/-- R130: the slots that a return concerns, in order: the outstanding list, SENDING, STAGED. -/
def heldByLink (s : State) : List Nat :=
  s.alt.outstanding.map SentBlock.slot ++
    (match s.alt.sending with | some b => [b.slot] | none => []) ++
    (match s.alt.staged with | some b => [b.slot] | none => [])

/-- R88, R130: a block without the aborted mark goes to the front of its stream's send queue. -/
def requeue (s : State) (slot : Nat) : State :=
  match s.slotRecord slot with
  | none => s
  | some r =>
    if r.aborted then s
    else
      let x := s.stream r.stream
      (s.setStream r.stream { x with sendQueue := slot :: x.sendQueue }).putRecord slot { r with place := .queued }

/-- R13, R86, R130: a block with the aborted mark is freed; a stream that is CLOSING with ABORTING set and whose block
in SENDING is freed this way enters IDLE. -/
def freeIfAborted (sending : Option Nat) (s : State) (slot : Nat) : State :=
  match s.slotRecord slot with
  | none => s
  | some r =>
    if r.aborted then
      let s := s.freeSlot slot
      if sending = some slot && (s.stream r.stream).phase == .closing true then s.enterIdle r.stream true else s
    else s

/-- R130: a return, by REWIND or by link loss, with nothing committed. The blocks without the mark go to the fronts of
their queues so that each queue keeps the order of the list above; the marked ones are freed in that order. -/
def returnAll (s : State) : State :=
  let slots := s.heldByLink
  let sending := s.alt.sending.map SendingBlock.slot
  let s := s.abandonSend.dropStaged
  let s := s.setAlt { s.alt with outstanding := [] }
  let s := slots.reverse.foldl requeue s
  slots.foldl (freeIfAborted sending) s

/-! ## The arbiter (R131, R132) -/

/-- R132, step 1: the streams of a class whose send queues are not empty. -/
def queuedIn (s : State) (c : Fin 4) : List StreamId :=
  streamIds.filter fun i => !(s.stream i).sendQueue.isEmpty && (s.stream i).cfg.priority == c

/-- R132, step 1: the highest class with a queued block. -/
def highestClass (s : State) : Option (Fin 4) :=
  [3, 2, 1, 0].find? fun c => !(s.queuedIn c).isEmpty

/-- R132, step 2: the streams in the order in which the pointer steps: after the current stream, which comes last, or
from stream 0. -/
def stepOrder : Option StreamId → List StreamId
  | none => streamIds
  | some i => (streamIds.map fun k => i + 1 + k)

/-- R132, step 2: the stream of a class that the arbiter grants, with the pointer after the grant. -/
def pick (s : State) (c : Fin 4) : Option (StreamId × Pointer) :=
  let p := s.alt.pointers.get c
  let queued := s.queuedIn c
  match p.current.filter fun i => queued.contains i && p.grants < (s.stream i).cfg.weight with
  | some i => some (i, { p with grants := p.grants + 1 })
  | none => ((stepOrder p.current).find? fun i => queued.contains i).map fun i => (i, ⟨some i, 1⟩)

/-- R131: whether the arbiter makes a grant. -/
def mayGrant (s : State) : Bool := s.alt.staged.isNone && 0 < s.alt.credits && s.linkUsable

/-- R88, R131: the block at the front of a stream's send queue moves into STAGED and its staging read begins. -/
def grantTo (s : State) (c : Fin 4) (i : StreamId) (p : Pointer) : State :=
  let x := s.stream i
  match x.sendQueue with
  | [] => s
  | slot :: rest =>
    let s := (s.setStream i { x with sendQueue := rest }).changeRecord slot fun r => { r with place := .staged }
    s.setAlt { s.alt with staged := some ⟨slot, .reading, []⟩, pointers := s.alt.pointers.set c p }

/-! ## Staging (R93, R94, R133) -/

/-- R68, R83, R91: the header lines of a closed block: line 0, and line 1 where its header length is 96. The extent comes
from the slot's record and not from the header in the DRAM (log entry 8). -/
def headerLines (s : State) (slot : Nat) : Nat :=
  lineCount (((s.slotRecord slot).bind SlotRecord.headLength).getD 64)

/-- R94: the bytes of a block read with an uncorrectable line, marked DAMAGED: the flag is set in the header as read,
and the header CRC is recomputed where no header line was uncorrectable. -/
def damagedImage (image : List Byte) (headerBad : Bool) : List Byte :=
  let marked := setImageFlag image Flag.damaged
  if headerBad then marked else recrcHeader marked

/-- R94: a staging read met an uncorrectable line: the block is marked in the DRAM, the verify reads of it restart
(R101), and DAMAGED_BLOCK is raised for its stream. -/
def markDamaged (s : State) (slot : Nat) (i : StreamId) (image : List Byte) : State :=
  ((s.writeLines slot 0 (image.take Config.lineBytes)).abandonVerifies slot).raise (.stream i .damagedBlock)

/-- R93, R94, R133: the staging read or re-read of the STAGED block ends, and its copy is ready. -/
def finishStaging (s : State) (b : StagedBlock) (r : SlotRecord) (checks : List LineCheck) : State :=
  let read := s.readBlock b.slot (r.length.getD 0) checks
  let headerBad := read.bad.any fun x => x.1 < s.headerLines b.slot
  let s := s.noteRead b.slot read
  if read.bad.isEmpty then s.setAlt { s.alt with staged := some { b with copy := .ready, bytes := read.bytes } }
  else
    let image := damagedImage read.bytes headerBad
    let s := s.markDamaged b.slot r.stream image
    s.setAlt { s.alt with staged := some { b with copy := .ready, bytes := image } }

/-! ## Sending (R134, R135) -/

/-- R134: whether the STAGED block moves to SENDING. -/
def mayMove (s : State) : Bool :=
  (s.alt.staged.any fun b => b.copy == .ready) && s.alt.sending.isNone && 0 < s.alt.credits && s.linkUsable

/-- R135: the transmitter as a send is done. -/
def sentAlt (t : Transmitter) (b : SendingBlock) (loopback : Bool) : Transmitter :=
  { t with
    outstanding := t.outstanding ++ [⟨b.link, b.slot⟩]
    nextLink := t.nextLink + 1
    credits := t.credits - 1
    commitTimer := if t.outstanding.isEmpty then .running t.commitTimeout else t.commitTimer
    sending := none
    checking := if loopback then t.checking ++ [⟨b.link, b.bytes⟩] else t.checking }

/-! ## The loopback checker (R138) -/

/-- R138, step 3: the sequence the checker expects of a block of a run. -/
def expectedSequence (record : Option CheckRecord) (run : BitVec 8) : BitVec 32 :=
  match record with
  | some c => if c.run = run then c.sequence + 1 else 0
  | none => 0

/-- R138: the stream that a block's header names (R171). DESIGN CHOICE (log entry 42): a stream byte of 8 or above, which
no block is written with, is taken modulo 8. -/
def imageStream (image : List Byte) : StreamId := Fin.ofNat 8 (byteAt image 0).toNat
/-- R138: the run that a block's header names (R171). -/
def imageRun (image : List Byte) : BitVec 8 := byteAt image 1
/-- R138: the stream sequence that a block's header names (R171). -/
def imageSequence (image : List Byte) : BitVec 32 := BitVec.ofNat 32 (field image 20 4)

/-- R138, step 1: the block's header checks. -/
def headerChecks (image : List Byte) : Bool := imageHeaderCrc image == storedHeaderCrc image
/-- R138, step 2: the block's payload checks. -/
def payloadChecks (image : List Byte) : Bool := imagePayloadCrc image == storedPayloadCrc image

/-- R138: whether the block passes the checker. -/
def passesCheck (t : Transmitter) (image : List Byte) : Bool :=
  headerChecks image && payloadChecks image &&
    imageSequence image == expectedSequence (t.checkRecords.get (imageStream image)) (imageRun image)

/-- R138, step 3: the checker's records after a block: the block's own, where its header checks. -/
def checkedRecords (t : Transmitter) (image : List Byte) : Vector (Option CheckRecord) 8 :=
  if headerChecks image then
    t.checkRecords.set (imageStream image) (some ⟨imageRun image, imageSequence image⟩)
  else t.checkRecords

/-- R138: a block that fails is counted and CHECK_FAIL is raised. -/
def checkFailed (s : State) : State :=
  (s.setCounters { s.counters with checkFail := satAdd s.counters.checkFail 1 }).raise (.link .checkFail)

end State

end Sys2Proof.Machine
end

