-- ==== Sys2Proof/Machine/Snapshots.lean ====
section
/-! DEFINITION. The snapshots of queries and events as lists of items (R159, R166, R172). An item's number is a base plus the
position of the field in the list of its owning rule; the readings this takes are in log entry 12. -/

namespace Sys2Proof.Machine

/-- R172: a number in a fixed count of bytes. -/
def numItem (number size value : Nat) : SnapItem := ⟨number, leBytes size value⟩

/-- R172: an absent value has length 0. -/
def optItem (number size : Nat) (value : Option Nat) : SnapItem :=
  ⟨number, match value with | some v => leBytes size v | none => []⟩

/-- A flag or a switch, 0 for clear or off and 1 for set or on. -/
def flagItem (number : Nat) (b : Bool) : SnapItem := numItem number 1 b.toNat

/-- The position of a stream's state in R3's list. -/
def Phase.code : Phase → Nat
  | .idle => 0
  | .armed _ => 1
  | .running _ => 2
  | .closing _ => 3

def Phase.subCode : Phase → Option Nat
  | .running .inSegment => some 0
  | .running .betweenSegments => some 1
  | _ => none

def Phase.armingCode : Phase → Option Nat
  | .armed .alone => some 0
  | .armed .group => some 1
  | _ => none

def Phase.isAborting : Phase → Bool
  | .closing aborting => aborting
  | _ => false

/-- R170: the block size as its configuration field carries it. -/
def BlockSize.encoded : BlockSize → Nat
  | .kib k => k
  | .segment => 2 ^ 14

/-- Base 0x0100: the configuration, in the order of R1. -/
def configItems (c : StreamConfig) : List SnapItem :=
  [ numItem 0x0100 1 c.source, numItem 0x0101 2 c.layoutBase, numItem 0x0102 1 c.group,
    numItem 0x0103 1 c.signedness.code.toNat, numItem 0x0104 1 c.mode.code.toNat,
    numItem 0x0105 2 c.baseFactor, numItem 0x0106 2 c.blockSize.encoded, numItem 0x0107 3 c.interim,
    numItem 0x0108 3 c.quota, numItem 0x0109 3 c.highMark, numItem 0x010A 2 c.lowMark,
    numItem 0x010B 1 c.priority, numItem 0x010C 1 c.weight, numItem 0x010D 1 c.eventMask.toNat ]

/-- Base 0x0200: the run state, in the order of R3. -/
def runItems (x : Stream) : List SnapItem :=
  [ numItem 0x0200 1 x.phase.code, optItem 0x0201 1 x.phase.subCode, optItem 0x0202 1 x.phase.armingCode,
    flagItem 0x0203 x.phase.isAborting, numItem 0x0204 1 x.runNumber.toNat,
    optItem 0x0205 2 (x.span.map Prod.fst), optItem 0x0205 2 (x.span.map Prod.snd),
    numItem 0x0206 4 x.segment.toNat, numItem 0x0207 4 x.nextSeq.toNat, numItem 0x0208 1 x.level,
    flagItem 0x0209 x.lossy, flagItem 0x020A x.lateStart,
    numItem 0x020B 8 x.counts.accepted.toNat, numItem 0x020B 8 x.counts.lost.toNat,
    numItem 0x020B 8 x.counts.points.toNat, numItem 0x020B 4 x.counts.closed.toNat,
    numItem 0x020B 4 x.counts.committed.toNat, numItem 0x020C 3 x.occupancy ]

/-- Base 0x0300: the walker, in the order of R34; one item for each context of the stack, top first. DESIGN CHOICE (log
entry 34): a word index takes 6 bytes, as in a frame, so that the low 48 bits of a larger one are shown. -/
def walkerItems (w : Walker) : List SnapItem :=
  [numItem 0x0300 2 w.entry] ++
    (w.stack.map fun c => ⟨0x0301, leBytes 2 c.first ++ leBytes 2 c.last ++ leBytes 2 c.remaining
      ++ leBytes 1 c.forever.toNat⟩) ++
    [numItem 0x0302 6 w.position, numItem 0x0303 6 w.expected]

/-- R64: the count shown for the window: m, or while LOSSY the inputs of the current would-be window. -/
def shownCount (x : Stream) : Nat :=
  match x.loss with
  | some r => r.seen
  | none => (x.window.map Window.count).getD 0

/-- Base 0x0400: the reduction and timing unit, in the order of R64. DESIGN CHOICE (log entry 41): while the open window is
empty, LOSSY included, its first index, mode and factor are shown as absent. -/
def unitItems (x : Stream) : List SnapItem :=
  [ numItem 0x0400 8 x.inputIndex,
    numItem 0x0401 2 (shownCount x), optItem 0x0401 7 (x.window.map Window.firstIndex),
    optItem 0x0401 1 (x.window.map fun w => w.mode.code.toNat), optItem 0x0401 3 (x.window.map Window.size),
    optItem 0x0402 7 (x.anchor.map Anchor.index), optItem 0x0402 8 (x.anchor.map Anchor.time),
    optItem 0x0402 4 (x.anchor.map Anchor.period),
    optItem 0x0403 8 (x.resync.map HeldResync.index), optItem 0x0403 8 (x.resync.map HeldResync.time),
    optItem 0x0404 8 x.prevStart ]

/-- Base 0x0500: the block assembler, what R65 says a snapshot shows. -/
def assemblerItems (x : Stream) (waits : Bool) : List SnapItem :=
  [ optItem 0x0500 4 (x.openBlock.map fun b => b.header.sequence.toNat),
    optItem 0x0500 2 (x.openBlock.map OpenBlock.slot),
    optItem 0x0500 1 (x.openBlock.map fun b => headerLength b.gap),
    optItem 0x0500 2 (x.openBlock.map OpenBlock.points), optItem 0x0500 2 (x.openBlock.map OpenBlock.target),
    optItem 0x0502 8 (x.awaiting.map GapRecord.count), optItem 0x0502 7 (x.awaiting.map GapRecord.first),
    flagItem 0x0504 waits ]

/-- Base 0x0700: the loss record, in the order of R112. -/
def lossItems (x : Stream) : List SnapItem :=
  [ optItem 0x0700 7 (x.loss.map fun r => r.record.first), optItem 0x0701 8 (x.loss.map fun r => r.record.time),
    optItem 0x0702 8 (x.loss.map fun r => r.record.count), optItem 0x0703 3 (x.loss.bind LossRecord.factor),
    optItem 0x0703 2 (x.loss.map LossRecord.seen) ]

/-- The time that remains on a running timer. -/
def Timer.left : Timer → Option Nat
  | .running n => some n
  | .stopped => none

/-- R14's list gives a timer's values as running, then stopped. -/
def Timer.code : Timer → Nat
  | .running _ => 0
  | .stopped => 1

/-- R105's list of the conditions. -/
def Condition.code : Condition → Nat
  | .over => 0
  | .under => 1
  | .neither => 2

/-- R121's list of the link states. -/
def LinkState.code : LinkState → Nat
  | .down => 0
  | .up => 1
  | .stalled => 2

/-- R121's list of the copy states. -/
def CopyState.code : CopyState → Nat
  | .reading => 0
  | .ready => 1
  | .stale => 2

/-- R121's list of the commit timer's states. -/
def CommitTimer.code : CommitTimer → Nat
  | .stopped => 0
  | .running _ => 1
  | .expired => 2

def CommitTimer.left : CommitTimer → Option Nat
  | .running n => some n
  | _ => none

/-- R158's list of the operation kinds, as R172 numbers them. -/
def OpKind.code : OpKind → Nat
  | .close _ => 0
  | .groupClose _ _ _ _ => 1
  | .verify _ _ _ => 2

/-- The stream or group of an operation. -/
def OpKind.subject : OpKind → Nat
  | .close i => i
  | .groupClose g _ _ _ => g
  | .verify i _ _ => i

/-- R168: the counters, in the order of its table. -/
def EngineCounters.list (c : EngineCounters) : List (BitVec 32) :=
  [c.badFrames, c.unclaimed, c.orphans, c.overlaps, c.eccCorrected, c.eccUncorrectable, c.linkProtocol, c.checkFail]

namespace State

/-- The number of a stream's slots in a place (R90). -/
def slotsIn (s : State) (i : StreamId) (p : SlotPlace) : Nat :=
  (s.spill.slots.filter fun x => x.2.stream == i && x.2.place == p).length

/-- The stream sequence of the block in a slot. -/
def sequenceIn (s : State) (slot : Nat) : Option Nat :=
  (s.slotRecord slot).bind fun r => r.sequence.map BitVec.toNat

/-- The stream of the block in a slot. -/
def ownerOf (s : State) (slot : Nat) : Option Nat := (s.slotRecord slot).map fun r => r.stream.val

/-- Base 0x0600: the slots by place, in the order of R90; the send queue's front and length (R87). -/
def placeItems (s : State) (i : StreamId) : List SnapItem :=
  let x := s.stream i
  [ numItem 0x0600 3 x.occupancy, numItem 0x0601 3 x.cfg.quota, numItem 0x0602 1 (s.slotsIn i .openBlock),
    optItem 0x0603 4 (x.sendQueue.head?.bind s.sequenceIn), numItem 0x0603 3 x.sendQueue.length,
    numItem 0x0604 1 (s.slotsIn i .staged), numItem 0x0605 1 (s.slotsIn i .sending),
    numItem 0x0606 1 (s.slotsIn i .outstanding) ]

/-- R159: the QUERY STREAM snapshot. -/
def streamSnapshot (s : State) (i : StreamId) : List SnapItem :=
  let x := s.stream i
  configItems x.cfg ++ runItems x ++ walkerItems x.walker ++ unitItems x
    ++ assemblerItems x (s.spill.endWaits.contains i) ++ s.placeItems i ++ lossItems x

/-- R159: the QUERY GROUP snapshot: base 0x0800, in the order of R14, then the published level and condition of R109,
then the members with their states. -/
def groupSnapshot (s : State) (g : GroupId) : List SnapItem :=
  let x := s.group g
  [ numItem 0x0800 1 x.maxLevel, numItem 0x0801 3 x.degradeWait, numItem 0x0802 4 x.settleTime,
    numItem 0x0803 3 x.holdOff, numItem 0x0804 1 x.ordered,
    numItem 0x0805 1 x.overTimer.code, optItem 0x0805 3 x.overTimer.left,
    numItem 0x0805 1 x.settleTimer.code, optItem 0x0805 4 x.settleTimer.left,
    numItem 0x0805 1 x.holdOffTimer.code, optItem 0x0805 3 x.holdOffTimer.left,
    optItem 0x0806 4 (x.startSegment.map BitVec.toNat), numItem 0x0807 1 x.published,
    numItem 0x0808 1 (s.condition g).code ] ++
    (s.members g).map fun i => ⟨0x0809, leBytes 1 i ++ leBytes 1 (s.stream i).phase.code⟩

/-- Base 0x0900: the transmitter, in the order of R139, with the counts of R90. -/
def altItems (s : State) : List SnapItem :=
  let t := s.alt
  [ numItem 0x0900 1 t.linkState.code, flagItem 0x0900 t.archiveSync, flagItem 0x0900 s.settings.loopback,
    numItem 0x0901 1 t.credits, numItem 0x0902 1 t.outstanding.length,
    optItem 0x0902 4 (t.outstanding.head?.map fun b => b.link.toNat),
    optItem 0x0902 4 (t.outstanding.getLast?.map fun b => b.link.toNat),
    numItem 0x0903 4 t.nextLink.toNat,
    optItem 0x0904 1 (t.staged.bind fun b => s.ownerOf b.slot),
    optItem 0x0904 4 (t.staged.bind fun b => s.sequenceIn b.slot),
    optItem 0x0904 1 (t.staged.map fun b => b.copy.code),
    optItem 0x0904 1 (t.sending.bind fun b => s.ownerOf b.slot),
    optItem 0x0904 4 (t.sending.bind fun b => s.sequenceIn b.slot),
    optItem 0x0904 4 (t.sending.map fun b => b.link.toNat),
    numItem 0x0905 1 t.commitTimer.code, optItem 0x0905 3 t.commitTimer.left, numItem 0x0906 3 t.commitTimeout ] ++
    (t.pointers.toList.flatMap fun p => [optItem 0x0907 1 (p.current.map Fin.val), numItem 0x0907 1 p.grants]) ++
    (t.checkRecords.toList.flatMap fun c =>
      [optItem 0x0908 1 (c.map fun r => r.run.toNat), optItem 0x0908 4 (c.map fun r => r.sequence.toNat)]) ++
    [numItem 0x0909 3 s.spill.freeList.length, numItem 0x0909 1 s.spill.endWaits.length]

/-- R159: the QUERY LINK snapshot: transmitter, engine settings (R151), pending operations (R158), engine counters
(R168). -/
def linkSnapshot (s : State) : List SnapItem :=
  s.altItems ++
    [ flagItem 0x0A00 s.settings.strict, flagItem 0x0A01 s.settings.loopback,
      numItem 0x0A02 1 s.settings.linkMask.toNat, numItem 0x0B00 1 s.ops.length ] ++
    (s.ops.map fun o => ⟨0x0B01, leBytes 1 o.kind.code ++ leBytes 2 o.tag.toNat ++ leBytes 1 o.kind.subject⟩) ++
    s.counters.list.zipIdx.map fun c => numItem (0x0C00 + c.2) 4 c.1.toNat

/-- R166: the snapshot of a stream EVENT. -/
def streamEventSnapshot (s : State) (i : StreamId) : List SnapItem :=
  let x := s.stream i
  [ numItem 0x0D00 1 x.phase.code, optItem 0x0D01 1 x.phase.subCode, numItem 0x0D02 4 x.segment.toNat,
    numItem 0x0D03 1 x.runNumber.toNat, numItem 0x0D04 4 x.nextSeq.toNat, numItem 0x0D05 1 x.level,
    flagItem 0x0D06 x.lossy, numItem 0x0D07 3 x.occupancy, numItem 0x0D07 3 x.cfg.quota,
    numItem 0x0D08 8 x.counts.lost.toNat, numItem 0x0D09 4 x.counts.closed.toNat,
    numItem 0x0D0A 4 x.counts.committed.toNat ]

/-- R166: the snapshot of a link EVENT. -/
def linkEventSnapshot (s : State) : List SnapItem :=
  [ numItem 0x0E00 1 s.alt.linkState.code, flagItem 0x0E01 s.alt.archiveSync, flagItem 0x0E02 s.settings.loopback,
    numItem 0x0E03 1 s.alt.credits, numItem 0x0E04 1 s.alt.outstanding.length,
    numItem 0x0E05 4 s.alt.nextLink.toNat, numItem 0x0E06 4 s.counters.linkProtocol.toNat,
    numItem 0x0E07 4 s.counters.checkFail.toNat ]

/-- R166: the snapshot of an EVENT, taken as its send begins. -/
def eventSnapshot (s : State) : EventPair → List SnapItem
  | .stream i _ => s.streamEventSnapshot i
  | .link _ => s.linkEventSnapshot

end State

/-- R172: an item as bytes: its number, the length of its value, and the value. -/
def SnapItem.bytes (x : SnapItem) : List Byte := leBytes 2 x.number ++ leBytes 1 x.value.length ++ x.value

/-- R172: a snapshot as bytes. -/
def snapshotBytes (xs : List SnapItem) : List Byte := (xs.map SnapItem.bytes).flatten

end Sys2Proof.Machine
end

