-- ==== Sys2Proof/Machine/Frames.lean ====
section
/-! DEFINITION. The frames of the two links as bytes: what an assembled capture frame or inbound archive frame commands (R143,
R169, R170, R172), and the bytes of the frames that go out (R172). -/

namespace Sys2Proof.Machine

/-! ## Inbound frames -/

/-- The bytes of a frame before its CRC, which is its last four bytes. -/
def frameBody (bytes : List Byte) : List Byte := bytes.take (bytes.length - 4)

/-- R143, R172: the frame's stored CRC equals the CRC of the bytes before it. -/
def frameCrcOk (bytes : List Byte) : Bool :=
  4 ≤ bytes.length && BitVec.ofNat 32 (field bytes (bytes.length - 4) 4) == crc (frameBody bytes)

/-- R170: the command that a directive code names, or the unknown directive (R152). `checks` are the findings of the DRAM
reads that the command makes. -/
def directiveOf (code : Byte) (d : Directive) (checks : List LineCheck) : Instr :=
  match code.toNat with
  | 0x01 => .setEngine d
  | 0x02 => .setLink d
  | 0x03 => .writeLayout d
  | 0x04 => .configureStream d
  | 0x05 => .configureGroup d
  | 0x10 => .startStream d
  | 0x11 => .startGroup d
  | 0x12 => .closeStream d
  | 0x13 => .closeGroup d
  | 0x14 => .abortStream d
  | 0x15 => .flushStream d
  | 0x16 => .amend d checks
  | 0x17 => .verify d
  | 0x20 => .queryStream d
  | 0x21 => .queryGroup d
  | 0x22 => .queryLink d
  | 0x30 => .clearCounts d
  | 0x31 => .resetEngine d
  | _ => .unknownDirective code d

/-- R143, R169: a SAMPLES frame's counts: 1 to 512 words, the last of them at a word index that 48 bits hold. -/
def samplesShapeOk (first : BitVec 48) (count : Nat) : Bool :=
  1 ≤ count && count ≤ 512 && first.toNat + count - 1 ≤ 2 ^ 48 - 1

/-- R169: the sample words of a body, from offset 12. -/
def sampleWords (body : List Byte) (count : Nat) : List SampleWord :=
  (List.range count).map fun k => BitVec.ofNat 64 (field body (12 + 8 * k) 8)

/-- R143, R169: what the body of a frame of a kind commands, or none where the shape is bad. -/
def captureBody (kind source : Byte) (body : List Byte) (checks : List LineCheck) : Option Instr :=
  let segment := BitVec.ofNat 32 (field body 0 4)
  match kind.toNat with
  | 0x01 =>
    let count := field body 10 2
    let first := BitVec.ofNat 48 (field body 4 6)
    if 12 ≤ body.length && body.length = 12 + 8 * count && samplesShapeOk first count && source.toNat < 32 then
      some (.samples source segment first (sampleWords body count))
    else none
  | 0x02 =>
    if body.length = 16 && source.toNat < 32 then
      some (.segmentStart source segment (BitVec.ofNat 64 (field body 4 8)) (BitVec.ofNat 32 (field body 12 4)))
    else none
  | 0x03 =>
    if body.length = 10 && source.toNat < 32 then
      some (.segmentEnd source segment (BitVec.ofNat 48 (field body 4 6)))
    else none
  | 0x04 =>
    if body.length = 20 && source.toNat < 32 then
      some (.resync source segment (BitVec.ofNat 64 (field body 4 8)) (BitVec.ofNat 64 (field body 12 8)))
    else none
  | 0x10 =>
    if 6 ≤ body.length then
      some (directiveOf (byteAt body 3)
        ⟨BitVec.ofNat 16 (field body 0 2), byteAt body 2, BitVec.ofNat 16 (field body 4 2), body.drop 6⟩ checks)
    else none
  | _ => none

/-- R143, R169: what an assembled capture frame, head to CRC, commands; none where it is a bad frame. -/
def decodeCapture (bytes : List Byte) (checks : List LineCheck) : Option Instr :=
  if frameCrcOk bytes && 8 ≤ bytes.length && field bytes 2 2 + 8 = bytes.length then
    captureBody (byteAt bytes 0) (byteAt bytes 1) ((frameBody bytes).drop 4) checks
  else none

/-- R143: whether an assembled capture frame is dropped as a bad frame. -/
def isBadCapture (bytes : List Byte) : Bool := (decodeCapture bytes []).isNone

/-- R125, R172: what an inbound archive frame, kind to CRC, commands; none where it is a protocol violation for its CRC,
its kind or its length. -/
def decodeArchive (bytes : List Byte) : Option Instr :=
  if frameCrcOk bytes then
    match (byteAt bytes 0).toNat, bytes.length with
    | 0x81, 6 => some (.credit (byteAt bytes 1))
    | 0x82, 9 => some (.commit (BitVec.ofNat 32 (field bytes 1 4)))
    | 0x83, 9 => some (.rewind (BitVec.ofNat 32 (field bytes 1 4)))
    | _, _ => none
  else none

/-- R125: whether an inbound archive frame is a protocol violation for its CRC, its kind or its length. -/
def isBadArchive (bytes : List Byte) : Bool := (decodeArchive bytes).isNone

/-! ## Outbound frames (R172) -/

/-- Bytes with their CRC behind them. -/
def withCrc (bs : List Byte) : List Byte := bs ++ leBytes 4 (crc bs).toNat

/-- R172: a block frame. -/
def blockFrame (link : BitVec 32) (block : List Byte) : List Byte :=
  withCrc ([0x01] ++ leBytes 4 link.toNat ++ leBytes 4 block.length ++ block)

/-- R172: a return-lane frame of a kind. -/
def laneFrame (kind : Byte) (body : List Byte) : List Byte := withCrc ([kind] ++ leBytes 2 body.length ++ body)

def OpTag.code : OpTag → Byte
  | .close => 0
  | .groupClose => 1
  | .verify => 2

/-- R172: the source and class bytes of an EVENT. -/
def EventPair.bytes : EventPair → List Byte
  | .stream i e => leBytes 1 i ++ leBytes 1 e.code
  | .link e => 0x80 :: leBytes 1 e.code

/-- R172: the frame of a RESPONSE or a COMPLETION. -/
def Answer.frame : Answer → List Byte
  | .response tag code v marked payload =>
    laneFrame 0x41 (leBytes 2 tag.toNat ++ [code, v.code] ++ leBytes 1 marked.toNat
      ++ leBytes 2 payload.length ++ payload)
  | .completion tag kind v marked slot headerDiff payloadDiff =>
    laneFrame 0x42 (leBytes 2 tag.toNat ++ [kind.code, v.code] ++ leBytes 1 marked.toNat ++ leBytes 2 slot
      ++ leBytes 1 (headerDiff.toNat + 2 * payloadDiff.toNat))

/-- R172: the bytes of a report frame. -/
def ReportFrame.bytes : ReportFrame → List Byte
  | .answer e => e.frame
  | .event p snapshot => laneFrame 0x43 (p.bytes ++ snapshotBytes snapshot)

end Sys2Proof.Machine
end

