-- ==== Sys2Proof/Machine/Layouts.lean ====
section
/-! DEFINITION. The validation of a layout (R28 to R33). It reads the table statically, as a function from index to
entry. -/

namespace Sys2Proof.Machine

/-- A GROUP of the span, at its index. -/
structure GroupAt where
  index   : Nat
  count   : Nat
  forever : Bool
  last    : Nat
  deriving DecidableEq, Repr

/-- R30: a GROUP encloses every entry from the one after it through its last index. -/
def GroupAt.encloses (g : GroupAt) (j : Nat) : Bool := g.index < j && j ≤ g.last

/-- R29: the first END at or after the layout base, if the table holds one. -/
def findEnd (table : Nat → LayoutOp) (base : Nat) : Option Nat :=
  (List.range' base (512 - base)).find? fun i => table i == .endCycle

/-- The GROUPs of the span, in index order. -/
def groupsOf (table : Nat → LayoutOp) (base last : Nat) : List GroupAt :=
  (List.range' base (last + 1 - base)).filterMap fun i =>
    match table i with
    | .group count forever l => some ⟨i, count, forever, l⟩
    | _ => none

/-- R30: the group that encloses entry `j` most closely, the one with the highest index. -/
def innermost (groups : List GroupAt) (j : Nat) : Option GroupAt :=
  (groups.filter fun g => g.encloses j).getLast?

/-- R30: whether the NESTING check fails at a GROUP. -/
def badNesting (groups : List GroupAt) (endIndex : Nat) (g : GroupAt) : Bool :=
  g.last ≤ g.index || endIndex ≤ g.last ||
    (match innermost groups g.index with
     | some outer => outer.last ≤ g.last
     | none => false)

/-- R31: one, plus the number of groups that enclose the GROUP. -/
def depthOf (groups : List GroupAt) (g : GroupAt) : Nat :=
  1 + (groups.filter fun o => o.encloses g.index).length

/-- R32: an entry is live, given the live FOREVER groups that stand before it. -/
def liveUnder (groups liveForever : List GroupAt) (j : Nat) : Bool :=
  !(groups.any fun g => g.encloses j && g.count == 0 && !g.forever) &&
    !(liveForever.any fun g => g.last < j)

/-- R32: the live FOREVER groups, found in index order. -/
def liveForevers (groups : List GroupAt) : List GroupAt :=
  groups.foldl (fun acc g => if g.forever && liveUnder groups acc g.index then acc ++ [g] else acc) []

/-- R32: whether entry `j` of the span is live. -/
def live (groups : List GroupAt) (j : Nat) : Bool :=
  liveUnder groups ((liveForevers groups).filter fun g => g.index < j) j

/-- R33: the words one execution of an entry consumes. -/
def LayoutOp.words : LayoutOp → Nat
  | .field _ _ advance => if advance then 1 else 0
  | .skip count => count
  | _ => 0

/-- R33: the product of the counts of the groups that enclose entry `j` and lie after index `outer`. -/
def repeats (groups : List GroupAt) (outer j : Nat) : Nat :=
  ((groups.filter fun g => outer < g.index && g.encloses j).map GroupAt.count).prod

/-- R33: the words one pass of a FOREVER group's body consumes. A live FOREVER group inside the body is taken to
consume words. -/
def passWords (table : Nat → LayoutOp) (groups : List GroupAt) (g : GroupAt) : Nat :=
  if (liveForevers groups).any fun h => g.encloses h.index then 1
  else (((List.range' (g.index + 1) (g.last - g.index)).filter fun j => live groups j).map fun j =>
    (table j).words * repeats groups g.index j).sum

/-- R33: the words one cycle of a span without a live FOREVER group consumes. -/
def cycleWords (table : Nat → LayoutOp) (groups : List GroupAt) (base endIndex : Nat) : Nat :=
  (((List.range' base (endIndex + 1 - base)).filter fun j => live groups j).map fun j =>
    (table j).words * ((groups.filter fun g => g.encloses j).map GroupAt.count).prod).sum

/-- R28: the outcome of validation: the span's END, or the refusal's reason and the index it reports. -/
inductive Validation where
  | valid (endIndex : Nat)
  | refused (reason : Verdict) (index : Nat)
  deriving DecidableEq, Repr

/-- R28 to R33: the five checks, in order. -/
def validate (table : Nat → LayoutOp) (base : Nat) : Validation :=
  match findEnd table base with
  | none => .refused .outOfTable 511
  | some e =>
    let groups := groupsOf table base e
    match groups.find? fun g => badNesting groups e g with
    | some g => .refused .nesting g.index
    | none =>
      match groups.find? fun g => 5 ≤ depthOf groups g with
      | some g => .refused .depth g.index
      | none =>
        if !((List.range' base (e + 1 - base)).any fun j =>
            live groups j && (match table j with | .field _ _ _ => true | _ => false)) then
          .refused .noField base
        else
          match (liveForevers groups).find? fun g => passWords table groups g == 0 with
          | some g => .refused .noAdvance g.index
          | none =>
            if (liveForevers groups).isEmpty && cycleWords table groups base e == 0 then
              .refused .noAdvance base
            else .valid e

end Sys2Proof.Machine
end

