-- ==== Sys2Proof/Machine/ConfigDirectives.lean ====
section
/-! DEFINITION. The configuration directives (9.3, R151 to R156): SET ENGINE, SET LINK, WRITE LAYOUT, CONFIGURE STREAM,
CONFIGURE GROUP; and what every directive shares: its intake (R142, R144), its length check (R152) and its answer
(R153). -/

namespace Sys2Proof.Machine

/-- What every meaning answers: the next state. No meaning of this model faults or refuses. -/
abbrev Answered := Host.Outcome State Fault Refusal

/-- A refusal or an outcome without payload. -/
def plain (v : Verdict) : Reply := ⟨v, []⟩

namespace State

/-- R142, R144, R152, R153: a directive frame is applied. While the capture link has no sync no frame is assembled. A
directive of the wrong length has no effect. Any other has the effect given and is answered, under the strict mode
that was in force before it. -/
def directive (s : State) (code : Byte) (d : Directive) (lengthOk : Bool) (effect : State × Reply) : State :=
  if !s.receiver.inSync then s
  else if !lengthOk then s.respond s.settings.strict code d (plain .malformed)
  else effect.1.respond s.settings.strict code d effect.2

/-- R2, R137: every stream is IDLE. -/
def allIdle (s : State) : Bool := streamIds.all fun i => (s.stream i).phase == .idle

end State

/-! ## SET ENGINE -/

/-- R137: the transmitter on entry into loopback. -/
def Transmitter.enterLoopback (t : Transmitter) : Transmitter :=
  { t with
    checkRecords := Vector.replicate 8 none
    credits := Config.creditLimit
    linkState := .up
    commitTimer := .stopped }

/-- R137: the transmitter on leaving loopback. -/
def Transmitter.leaveLoopback (t : Transmitter) : Transmitter :=
  { t with
    credits := 0
    linkState := if t.archiveSync then .up else .down
    commitTimer := .stopped }

/-- R137: the transmitter after SET ENGINE has written the loopback setting. -/
def Transmitter.withLoopback (t : Transmitter) (old new : Bool) : Transmitter :=
  if old = new then t else if new then t.enterLoopback else t.leaveLoopback

/-- R137, R151, R154, R156: SET ENGINE's effect and answer. -/
def setEngineEffect (p : List Byte) (s : State) : State × Reply :=
  match switchOf (byteAt p 0), switchOf (byteAt p 1) with
  | some strict, some loopback =>
    if loopback != s.settings.loopback && !(s.allIdle && s.alt.outstanding.isEmpty) then (s, plain .busy)
    else
      let s := s.setAlt (s.alt.withLoopback s.settings.loopback loopback)
      let s := s.setSettings ⟨strict, loopback, (byteAt p 2).setWidth 5⟩
      (s.dropDisabled EventPair.isLink, plain .done)
  | _, _ => (s, plain .badValue)

/-- SET ENGINE (R151). -/
def execSetEngine (d : Directive) (s : State) : Answered :=
  .next (s.directive 0x01 d (lengthOk d 3) (setEngineEffect d.params s))

/-! ## SET LINK -/

/-- R124, R155, R156: SET LINK's effect and answer: the commit timeout takes effect at the next start or restart of the
commit timer. -/
def setLinkEffect (p : List Byte) (s : State) : State × Reply :=
  (s.setAlt { s.alt with commitTimeout := clampTo 1000 10000000 (field p 0 4) }, plain .done)

/-- SET LINK (R156). -/
def execSetLink (d : Directive) (s : State) : Answered :=
  .next (s.directive 0x02 d (lengthOk d 4) (setLinkEffect d.params s))

/-! ## WRITE LAYOUT -/

/-- R27: whether a span holds an index that `n` entries written from `first` on take. -/
def spanTouched (span : Option (Nat × Nat)) (first n : Nat) : Bool :=
  match span with
  | some (low, high) => first ≤ high && low < first + n
  | none => false

namespace State

/-- R27: the streams that are not IDLE and whose span the write touches, in ascending order. -/
def spanUsers (s : State) (first n : Nat) : List StreamId :=
  streamIds.filter fun i => (s.stream i).phase != .idle && spanTouched (s.stream i).span first n

/-- R27: an IDLE stream whose span the write touches has its span withdrawn. -/
def withdrawSpan (first n : Nat) (s : State) (i : StreamId) : State :=
  if (s.stream i).phase == .idle && spanTouched (s.stream i).span first n then
    s.setStream i { s.stream i with span := none }
  else s

/-- R26: entries are written to consecutive indexes. -/
def writeEntries (first : Nat) (entries : List LayoutEntry) (table : Vector LayoutEntry 512) :
    Vector LayoutEntry 512 :=
  Vector.ofFn fun k : Fin 512 =>
    if first ≤ k.val then (entries[k.val - first]?).getD (table.get k) else table.get k

end State

/-- R26, R27, R154, R156: WRITE LAYOUT's effect and answer. -/
def writeLayoutEffect (p : List Byte) (s : State) : State × Reply :=
  let first := field p 0 2
  let n := (byteAt p 2).toNat
  let list := layoutListOf p n
  if 512 ≤ first then (s, plain .badValue)
  else match list.findIdx? Option.isNone with
    | some k => (s, ⟨.badValue, leBytes 2 (first + k)⟩)
    | none =>
      let entries := list.filterMap id
      if 512 < first + n || entries.any LayoutEntry.lastOutOfTable then (s, plain .badValue)
      else match s.spanUsers first n with
        | i :: _ => (s, ⟨.inUse, leBytes 1 i⟩)
        | [] =>
          let s := s.setLayout (State.writeEntries first entries s.layout)
          (streamIds.foldl (State.withdrawSpan first n) s, plain .done)

/-- WRITE LAYOUT (R26). -/
def execWriteLayout (d : Directive) (s : State) : Answered :=
  .next (s.directive 0x03 d (layoutLengthOk d) (writeLayoutEffect d.params s))

/-! ## CONFIGURE STREAM -/

/-- R2: the stream as a CONFIGURE STREAM that is taken leaves it. -/
def Stream.configured (x : Stream) (cfg : StreamConfig) (endIndex : Nat) : Stream :=
  { x with cfg := cfg, span := some (cfg.layoutBase, endIndex) }

/-- R2: CONFIGURE STREAM's checks of the state, and its effect and answer. -/
def configureChecked (i : StreamId) (cfg : StreamConfig) (s : State) : State × Reply :=
  let x := s.stream i
  if x.phase != .idle then (s, plain .badState)
  else if cfg.quota < x.occupancy then (s, plain .badState)
  else match validate s.layoutOp cfg.layoutBase with
    | .refused reason index => (s, ⟨reason, leBytes 2 index⟩)
    | .valid e =>
      ((s.setStream i (x.configured cfg e)).dropDisabled (EventPair.isOf i),
        ⟨.done, leBytes 2 cfg.layoutBase ++ leBytes 2 e⟩)

/-- R2, R154, R156: CONFIGURE STREAM's effect and answer. -/
def configureStreamEffect (p : List Byte) (s : State) : State × Reply :=
  match streamOf (byteAt p 0), streamConfigOf p with
  | some i, some cfg => configureChecked i cfg s
  | _, _ => (s, plain .badValue)

/-- CONFIGURE STREAM (R2). -/
def execConfigureStream (d : Directive) (s : State) : Answered :=
  .next (s.directive 0x04 d (lengthOk d 30) (configureStreamEffect d.params s))

/-! ## CONFIGURE GROUP -/

/-- R14, R155: the group record with its configuration written; the ordered level, the timers and S* stay (R173). -/
def Group.configured (x : Group) (p : List Byte) : Group :=
  { x with
    maxLevel := levelOf (byteAt p 1)
    degradeWait := clampTo 1000 10000000 (field p 2 4)
    settleTime := clampTo 1000 60000000 (field p 6 4)
    holdOff := min 10000000 (field p 10 4) }

/-- R14, R156: CONFIGURE GROUP's effect and answer. -/
def configureGroupEffect (p : List Byte) (s : State) : State × Reply :=
  match groupOf (byteAt p 0) with
  | none => (s, plain .badValue)
  | some g =>
    if (s.members g).all fun i => (s.stream i).phase == .idle then
      (s.setGroup g ((s.group g).configured p), plain .done)
    else (s, plain .badState)

/-- CONFIGURE GROUP (R14). -/
def execConfigureGroup (d : Directive) (s : State) : Answered :=
  .next (s.directive 0x05 d (lengthOk d 14) (configureGroupEffect d.params s))

end Sys2Proof.Machine
end

