-- ==== Sys2Proof/Machine/RunDirectives.lean ====
section
/-! DEFINITION. The operation directives (9.4, R157): START, CLOSE, ABORT, FLUSH, AMEND, VERIFY. -/

namespace Sys2Proof.Machine

/-- R154: a directive whose first parameter is a stream number, refused with BAD_VALUE where that is 8 or above. -/
def withStream (p : List Byte) (s : State) (f : StreamId → State × Reply) : State × Reply :=
  match streamOf (byteAt p 0) with
  | some i => f i
  | none => (s, plain .badValue)

/-- R154: a directive whose first parameter is a group number, refused with BAD_VALUE where that is 8 or above. -/
def withGroup (p : List Byte) (s : State) (f : GroupId → State × Reply) : State × Reply :=
  match groupOf (byteAt p 0) with
  | some g => f g
  | none => (s, plain .badValue)

/-! ## START STREAM, START GROUP -/

/-- R6, R15: a stream that START may arm: IDLE, with a validated span. ABORTING is set only while CLOSING. -/
def Stream.startable (x : Stream) : Bool := x.phase == .idle && x.span.isSome

/-- R6: START STREAM of a stream. -/
def startStreamEffect (i : StreamId) (s : State) : State × Reply :=
  if (s.stream i).startable then
    let s := s.startRun i .alone
    (s, ⟨.done, leBytes 1 (s.stream i).runNumber.toNat⟩)
  else (s, plain .badState)

/-- START STREAM (R6). -/
def execStartStream (d : Directive) (s : State) : Answered :=
  .next (s.directive 0x10 d (lengthOk d 1) (withStream d.params s fun i => startStreamEffect i s))

/-- R172: a member's disposition in the answer to START GROUP. -/
def disposition (x : Stream) : Nat :=
  if x.startable then 0
  else match x.phase with
    | .idle => 1
    | .armed _ => 2
    | .running _ => 3
    | .closing _ => 4

/-- R15, R172: the member list of START GROUP's answer: dispositions as the directive found them, run numbers as it
leaves them. -/
def memberList (before after : State) (g : GroupId) : List Byte :=
  leBytes 1 (before.members g).length ++ ((before.members g).map fun (i : StreamId) =>
    leBytes 1 i.val ++ leBytes 1 (disposition (before.stream i)) ++
      leBytes 1 (after.stream i).runNumber.toNat).flatten

/-- R15, R106: the group record as START GROUP leaves it. -/
def Group.started (x : Group) : Group :=
  { x with
    ordered := 0
    overTimer := .stopped
    settleTimer := .stopped
    holdOffTimer := if x.holdOff = 0 then .stopped else .running x.holdOff
    startSegment := none }

/-- R15, R106: START GROUP of a group. -/
def startGroupEffect (g : GroupId) (s : State) : State × Reply :=
  let eligible := (s.members g).filter fun i => (s.stream i).startable
  if eligible.isEmpty then (s, ⟨.badState, memberList s s g⟩)
  else
    let t := eligible.foldl (fun s i => s.startRun i .group) s
    let t := (t.setGroup g (t.group g).started).judge g
    (t, ⟨.done, memberList s t g⟩)

/-- START GROUP (R15). -/
def execStartGroup (d : Directive) (s : State) : Answered :=
  .next (s.directive 0x11 d (lengthOk d 1) (withGroup d.params s fun g => startGroupEffect g s))

/-! ## CLOSE STREAM, CLOSE GROUP -/

/-- R9: CLOSE STREAM of a stream. -/
def closeStreamEffect (i : StreamId) (d : Directive) (s : State) : State × Reply :=
  match (s.stream i).phase with
  | .idle | .closing _ => (s, plain .badState)
  | .armed _ => (s.enterIdle i false, plain .done)
  | .running _ =>
    if s.opsFull then (s, plain .busy)
    else ((s.enterOp d (.close i)).closeRun i, plain .accepted)

/-- CLOSE STREAM (R9). -/
def execCloseStream (d : Directive) (s : State) : Answered :=
  .next (s.directive 0x12 d (lengthOk d 1) (withStream d.params s fun i => closeStreamEffect i d s))

namespace State

/-- R18: the members of a group that a group-close operation records: those RUNNING or CLOSING. -/
def closingMembers (s : State) (g : GroupId) : List StreamId :=
  (s.members g).filter fun i => match (s.stream i).phase with
    | .running _ | .closing _ => true
    | _ => false

/-- R18: CLOSE GROUP's act on one member. -/
def closeMember (s : State) (i : StreamId) : State :=
  match (s.stream i).phase with
  | .armed _ => s.enterIdle i false
  | .running _ => s.closeRun i
  | _ => s

end State

/-- R18: CLOSE GROUP of a group. -/
def closeGroupEffect (g : GroupId) (d : Directive) (s : State) : State × Reply :=
  let members := s.members g
  let recorded := s.closingMembers g
  if recorded.isEmpty then (members.foldl State.closeMember s, plain .done)
  else if s.opsFull then (s, plain .busy)
  else
    let aborted := recorded.any fun i => (s.stream i).phase == .closing true
    (members.foldl State.closeMember (s.enterOp d (.groupClose g recorded recorded aborted)), plain .accepted)

/-- CLOSE GROUP (R18). -/
def execCloseGroup (d : Directive) (s : State) : Answered :=
  .next (s.directive 0x13 d (lengthOk d 1) (withGroup d.params s fun g => closeGroupEffect g d s))

/-! ## ABORT STREAM -/

/-- R12, R13, R153: ABORT of a stream, with the completions it causes before its own answer. -/
def abortStreamEffect (i : StreamId) (s : State) : State × Reply :=
  let t := match (s.stream i).phase with
    | .idle | .closing true => s
    | .armed _ => s.enterIdle i true
    | .running _ | .closing false => s.abortRun i
  (t.settleOps, plain .done)

/-- ABORT STREAM (R12). -/
def execAbortStream (d : Directive) (s : State) : Answered :=
  .next (s.directive 0x14 d (lengthOk d 1) (withStream d.params s fun i => abortStreamEffect i s))

/-! ## FLUSH STREAM -/

/-- R75: the open block that FLUSH STREAM closes: one that holds a point. -/
def Stream.flushable (x : Stream) : Option OpenBlock := x.openBlock.filter fun b => 1 ≤ b.points

/-- R75: FLUSH STREAM of a stream. -/
def flushStreamEffect (i : StreamId) (s : State) : State × Reply :=
  if (s.stream i).phase.isRunning then
    match (s.stream i).flushable with
    | some b => (s.closeShort i, ⟨.done, leBytes 1 1 ++ leBytes 4 b.header.sequence.toNat⟩)
    | none => (s, ⟨.done, leBytes 1 0 ++ leBytes 4 0⟩)
  else (s, plain .badState)

/-- FLUSH STREAM (R75). -/
def execFlushStream (d : Directive) (s : State) : Answered :=
  .next (s.directive 0x15 d (lengthOk d 1) (withStream d.params s fun i => flushStreamEffect i s))

/-! ## AMEND, VERIFY -/

/-- R95: a sequence has been given in the current run: the run has given one, and the difference from the next lies from
1 to 2^31. R95's test by itself would take sequences of 2^31 and above as given while the next is 0, where R95 says that
none is; the model's choice is log entry 33. -/
def Stream.given (x : Stream) (seq : BitVec 32) : Bool :=
  let d := (x.nextSeq - seq).toNat
  x.gaveSeq && 1 ≤ d && d ≤ 2 ^ 31

namespace State

/-- R95: the held slots that carry a stream's sequence under its current run number. -/
def carriers (s : State) (i : StreamId) (seq : BitVec 32) : List (Nat × SlotRecord) :=
  s.spill.slots.filter fun x =>
    x.2.stream == i && x.2.run == (s.stream i).runNumber && x.2.sequence == some seq

/-- The slots whose blocks' sends have begun, the most recent first. -/
def sendOrder (s : State) : List Nat :=
  (match s.alt.sending with | some b => [b.slot] | none => []) ++ (s.alt.outstanding.map SentBlock.slot).reverse

/-- R95: the block that AMEND or VERIFY names: the one without the aborted mark, or else the one whose send began most
recently. -/
def findBlock (s : State) (i : StreamId) (seq : BitVec 32) : Option (Nat × SlotRecord) :=
  let found := s.carriers i seq
  match found.find? fun x => !x.2.aborted with
  | some x => some x
  | none => (s.sendOrder.filterMap fun slot => found.find? fun x => x.1 == slot).head?

/-- R96: an annotation word is written into an open block's header, in the slot. -/
def amendOpen (s : State) (i : StreamId) (slot : Nat) (word : Fin 4) (value : BitVec 32) : State :=
  let x := s.stream i
  match x.openBlock with
  | none => s
  | some b =>
    let h := { b.header with notes := b.header.notes.set word value }
    (s.setStream i { x with openBlock := some { b with header := h } }).writeLines slot 0 h.bytes

/-- R93, R96, R133: a header rewrite of the STAGED block: its read or re-read restarts, or its ready copy becomes stale
and is re-read. -/
def staleStaged (s : State) (slot : Nat) : State :=
  match s.alt.staged with
  | none => s
  | some b =>
    if b.slot ≠ slot then s
    else if b.copy = .ready then s.setAlt { s.alt with staged := some { b with copy := .stale } }
    else s.abandonRead slot

end State

/-- R98: the header lines of a closed block with an annotation word written, AMENDED set and the header CRC
recomputed. -/
def amendedHeader (lines : List Byte) (word : Fin 4) (value : BitVec 32) : List Byte :=
  recrcHeader (setImageFlag (setImageNote lines word value) Flag.amended)

/-- R96, R98, R101: the header rewrite of a closed block; a header read that meets an uncorrectable line writes
nothing. -/
def amendClosed (s : State) (slot : Nat) (word : Fin 4) (value : BitVec 32) (checks : List LineCheck) :
    State × Reply :=
  let read := s.readBlock slot (s.headerLines slot * Config.lineBytes) checks
  let s := s.noteRead slot read
  if read.bad.isEmpty then
    (((s.writeLines slot 0 (amendedHeader read.bytes word value)).abandonVerifies slot).staleStaged slot, plain .done)
  else (s, plain .damaged)

/-- R95, R96: AMEND of a stream's sequence. -/
def amendEffect (i : StreamId) (seq : BitVec 32) (word : Fin 4) (value : BitVec 32) (checks : List LineCheck)
    (s : State) : State × Reply :=
  match s.findBlock i seq with
  | none => (s, plain (if (s.stream i).given seq then .tooLate else .noBlock))
  | some (slot, r) =>
    match r.place with
    | .openBlock => (s.amendOpen i slot word value, plain .done)
    | .queued | .staged => amendClosed s slot word value checks
    | .sending | .outstanding => (s, plain .tooLate)

/-- R154: an annotation word number of 4 or above is none. -/
def noteOf (b : Byte) : Option (Fin 4) := if h : b.toNat < 4 then some ⟨b.toNat, h⟩ else none

/-- AMEND (R96). -/
def execAmend (d : Directive) (checks : List LineCheck) (s : State) : Answered :=
  .next (s.directive 0x16 d (lengthOk d 10) (withStream d.params s fun i =>
    match noteOf (byteAt d.params 1) with
    | some word =>
      amendEffect i (BitVec.ofNat 32 (field d.params 2 4)) word (BitVec.ofNat 32 (field d.params 6 4)) checks s
    | none => (s, plain .badValue)))

/-- R99: VERIFY of a stream's sequence. -/
def verifyEffect (i : StreamId) (seq : BitVec 32) (d : Directive) (s : State) : State × Reply :=
  match s.findBlock i seq with
  | none => (s, plain (if (s.stream i).given seq then .gone else .noBlock))
  | some (slot, r) =>
    if s.opsFull then (s, plain .busy)
    else (s.enterOp d (.verify i slot (r.place != .openBlock)), plain .accepted)

/-- VERIFY (R99). -/
def execVerify (d : Directive) (s : State) : Answered :=
  .next (s.directive 0x17 d (lengthOk d 5) (withStream d.params s fun i =>
    verifyEffect i (BitVec.ofNat 32 (field d.params 1 4)) d s))

end Sys2Proof.Machine
end

