-- ==== Sys2Proof/Machine/QueryDirectives.lean ====
section
/-! DEFINITION. The queries, CLEAR COUNTS, RESET ENGINE and the unknown directive (9.5, R152, R159 to R162), and the power-on
reset (R20). -/

namespace Sys2Proof.Machine

/-! ## Queries (R159) -/

/-- QUERY STREAM (R159): answered with a snapshot, and no state changes. -/
def execQueryStream (d : Directive) (s : State) : Answered :=
  .next (s.directive 0x20 d (lengthOk d 1) (withStream d.params s fun i =>
    (s, ⟨.done, snapshotBytes (s.streamSnapshot i)⟩)))

/-- QUERY GROUP (R159). -/
def execQueryGroup (d : Directive) (s : State) : Answered :=
  .next (s.directive 0x21 d (lengthOk d 1) (withGroup d.params s fun g =>
    (s, ⟨.done, snapshotBytes (s.groupSnapshot g)⟩)))

/-- QUERY LINK (R159). -/
def execQueryLink (d : Directive) (s : State) : Answered :=
  .next (s.directive 0x22 d (lengthOk d 0) (s, ⟨.done, snapshotBytes s.linkSnapshot⟩))

/-! ## CLEAR COUNTS (R160) -/

/-- CLEAR COUNTS (R160): the eight engine counters become 0. -/
def execClearCounts (d : Directive) (s : State) : Answered :=
  .next (s.directive 0x30 d (lengthOk d 0) (s.setCounters .zero, plain .done))

/-! ## RESET ENGINE (R161) -/

/-- R21, R109: a group after RESET ENGINE: its configuration kept, the ordered level 0, the timers stopped, S* absent. -/
def Group.resetEngine (x : Group) : Group :=
  { x with
    ordered := 0
    overTimer := .stopped
    settleTimer := .stopped
    holdOffTimer := .stopped
    startSegment := none }

/-- R121, R138, R140: the transmitter after RESET ENGINE. -/
def Transmitter.resetEngine (t : Transmitter) (loopback : Bool) : Transmitter :=
  { Transmitter.powerOn with
    linkState := if loopback || t.archiveSync then .up else .down
    archiveSync := t.archiveSync
    credits := if loopback then Config.creditLimit else 0
    commitTimeout := t.commitTimeout }

namespace State

/-- What the return lane is sending, as its frame's content (R163). -/
def laneContent (s : State) : Option ReportFrame :=
  match s.report.lane with
  | none => none
  | some .head => s.report.fifo.head?.map .answer
  | some (.event p snapshot) => some (.event p snapshot)

/-- A report frame ends, in one of the three ways. -/
def endReport (s : State) (e : Ending) : State :=
  match s.laneContent with
  | none => s
  | some f => s.setOwn { s.own with reportOut := s.own.reportOut ++ [⟨f, e⟩] }

/-- R161, R162: every block carries out its part of RESET ENGINE; configuration, layout table, DRAM contents, sync states
and settings are kept. -/
def resetBlocks (s : State) : State :=
  let s := s.abandonSend.endReport .abandoned
  { s with
    streams := s.streams.map fun x => Stream.cleared x.cfg x.span
    groups := s.groups.map Group.resetEngine
    counters := .zero
    ops := []
    spill := .allFree s.spill.dram s.spill.badLines
    alt := s.alt.resetEngine s.settings.loopback
    report := .empty }

end State

/-- RESET ENGINE (R161): its own DONE is queued whether or not its reply flag is set, as the only entry of the FIFO
(R162). -/
def execResetEngine (d : Directive) (s : State) : Answered :=
  .next (
    if !s.receiver.inSync then s
    else if !lengthOk d 0 then s.respond s.settings.strict 0x31 d (plain .malformed)
    else s.resetBlocks.offer (.response d.tag 0x31 .done false []))

/-- An unknown directive (R152): no effect; answered UNKNOWN in strict mode or with the reply flag set. -/
def execUnknownDirective (code : Byte) (d : Directive) (s : State) : Answered :=
  .next (if !s.receiver.inSync then s else s.respond s.settings.strict code d (plain .unknown))

/-! ## Power-on (R20) -/

/-- The power-on reset (R20, R22, R34, R48, R65, R102, R109, R121, R141, R151, R162): the part as after reset. The
queue and the model's own fields are kept (log entry 14). -/
def execPowerOn (s : State) : Answered :=
  .next { State.reset with own := s.own, pending := s.pending }

end Sys2Proof.Machine
end

