-- ==== Sys2Proof/Machine/Capture.lean ====
section
/-! DEFINITION. Capture link intake (chapter 8): bad frames, the four acquisition frames and their fan-out, and the capture
link's sync. -/

namespace Sys2Proof.Machine

/-! ## Bad frames (R143) -/

/-- R142, R143: while the link is in sync, a frame that fails its CRC or its shape check is dropped and counted. -/
def execBadFrame (bytes : List Byte) (s : State) : Answered :=
  .next (if s.receiver.inSync && isBadCapture bytes then s.countBad else s)

/-! ## Fan-out (R145, R147) -/

namespace State

/-- R145: an acquisition frame is offered to every stream whose configured source is the frame's, in ascending stream
number, each acting in full before the next. -/
def fanOut (source : Byte) (offer : State → StreamId → State × Disposal) (s : State) : State × List Disposal :=
  streamIds.foldl (fun acc i =>
    if (acc.1.stream i).cfg.source.val = source.toNat then
      let r := offer acc.1 i
      (r.1, acc.2 ++ [r.2])
    else acc) (s, [])

/-- R143, R145, R147: an acquisition frame of good shape is fanned out and counted; one of bad shape is a bad frame.
`samples` says that the frame can be unclaimed. -/
def intake (s : State) (source : Byte) (shapeOk samples : Bool) (offer : State → StreamId → State × Disposal) :
    State :=
  if !s.receiver.inSync then s
  else if !(shapeOk && source.toNat < 32) then s.countBad
  else
    let (s, ds) := s.fanOut source offer
    s.countIntake (ds.contains .orphan) (samples && !(ds.contains .taken || ds.contains .overlap))
      (ds.contains .overlap)

/-- R145: a frame of the current segment is acted on by `take`; of another segment, or between segments, it is an
orphan; in any other state it is not taken. -/
def ofSegment (s : State) (i : StreamId) (segment : BitVec 32) (take : State × Disposal) : State × Disposal :=
  match (s.stream i).phase with
  | .running .inSegment => if (s.stream i).segment = segment then take else (s, .orphan)
  | .running .betweenSegments => (s, .orphan)
  | _ => (s, .notTaken)

/-- R145, R146: a SAMPLES frame is offered to a stream. -/
def offerSamples (segment : BitVec 32) (first : Nat) (words : List SampleWord) (s : State) (i : StreamId) :
    State × Disposal :=
  s.ofSegment i segment (s.takeSamples i first words)

/-- R7, R8, R145, R148: a SEGMENT_START is offered to a stream. -/
def offerSegmentStart (segment : BitVec 32) (t0 : BitVec 64) (period : BitVec 32) (s : State) (i : StreamId) :
    State × Disposal :=
  match (s.stream i).phase with
  | .armed arming => (s.takeArmedStart i arming segment t0 period, .taken)
  | .running .inSegment => ((s.endSegment i true none).beginSegment i segment t0 period, .taken)
  | .running .betweenSegments => (s.beginSegment i segment t0 period, .taken)
  | _ => (s, .notTaken)

/-- R47, R145, R149: a SEGMENT_END is offered to a stream. -/
def offerSegmentEnd (segment : BitVec 32) (final : Nat) (s : State) (i : StreamId) : State × Disposal :=
  s.ofSegment i segment (s.takeSegmentEnd i final, .taken)

end State

/-- R58: the stream as a RESYNC of its current segment leaves it. -/
def Stream.resynced (x : Stream) (index time : Nat) : Stream :=
  if index ≤ x.inputIndex then
    { x with anchor := x.anchor.map fun a => { a with index := index, time := time }, resync := none }
  else { x with resync := some ⟨index, time⟩ }

namespace State

/-- R58, R145: a RESYNC is offered to a stream. -/
def offerResync (segment : BitVec 32) (index time : Nat) (s : State) (i : StreamId) : State × Disposal :=
  s.ofSegment i segment (s.setStream i ((s.stream i).resynced index time), .taken)

end State

/-- SAMPLES (R146). -/
def execSamples (source : Byte) (segment : BitVec 32) (first : BitVec 48) (words : List SampleWord) (s : State) :
    Answered :=
  .next (s.intake source (samplesShapeOk first words.length) true (State.offerSamples segment first.toNat words))

/-- SEGMENT_START (R145). -/
def execSegmentStart (source : Byte) (segment : BitVec 32) (t0 : BitVec 64) (period : BitVec 32) (s : State) :
    Answered :=
  .next (s.intake source true false (State.offerSegmentStart segment t0 period))

/-- SEGMENT_END (R149). -/
def execSegmentEnd (source : Byte) (segment : BitVec 32) (final : BitVec 48) (s : State) : Answered :=
  .next (s.intake source true false (State.offerSegmentEnd segment final.toNat))

/-- RESYNC (R58). -/
def execResync (source : Byte) (segment : BitVec 32) (index time : BitVec 64) (s : State) : Answered :=
  .next (s.intake source true false (State.offerResync segment index.toNat time.toNat))

/-! ## The capture link's sync (R142, R167) -/

namespace State

/-- R167: the event pending set after an EVENT is cut off: the pair goes back as the oldest, unless its class is disabled
or the same pair has entered again. -/
def putBack (s : State) (p : EventPair) : List EventPair :=
  if s.enabled p && !s.report.events.contains p then p :: s.report.events else s.report.events

/-- R167: the frame on the return lane is cut off; an answer stays at the FIFO's head. -/
def cutLane (s : State) : State :=
  let t := s.endReport .cutOff
  match s.report.lane with
  | some (.event p _) => t.setReport { t.report with events := s.putBack p, lane := none }
  | _ => t.setReport { t.report with lane := none }

end State

/-- CAPTURE_SYNC_LOSS (R142). -/
def execCaptureSyncLoss (s : State) : Answered := .next (s.cutLane.setReceiver ⟨false, none⟩)

/-- CAPTURE_SYNC_GAIN (R142): assembly begins at the next start delimiter. -/
def execCaptureSyncGain (s : State) : Answered := .next (s.setReceiver { s.receiver with inSync := true })

end Sys2Proof.Machine
end

