-- ==== Sys2Proof/Machine/ArchiveLink.lean ====
section
/-! DEFINITION. The archive link's sync and the frames from the archive (7.2, 7.3). -/

namespace Sys2Proof.Machine

/-- LINK_UP (R122): the archive link gains sync. -/
def execLinkUp (s : State) : Answered :=
  let t := s.setAlt { s.alt with archiveSync := true }
  .next (
    if s.settings.loopback || s.alt.linkState != .down then t
    else (t.setAlt { t.alt with linkState := .up }).raise (.link .linkUp))

/-- LINK_DOWN (R123): the archive link loses sync. The engine counters stay as they are (R104, R168; log entry 6). -/
def execLinkDown (s : State) : Answered :=
  let t := s.setAlt { s.alt with archiveSync := false }
  .next (
    if s.settings.loopback || s.alt.linkState == .down then t
    else
      let t := (t.setAlt { t.alt with linkState := .down, credits := 0 }).returnAll
      let t := (t.setAlt { t.alt with commitTimer := .stopped }).setCounters s.counters
      (t.raise (.link .linkDown)).settleOps)

/-- CREDIT (R126). -/
def execCredit (count : Byte) (s : State) : Answered :=
  .next (
    if !s.takesInbound then s
    else if 1 ≤ count.toNat && count.toNat ≤ 64 then s.setAlt (s.alt.addCredits count.toNat)
    else s.violation)

/-- COMMIT (R128). -/
def execCommit (link : BitVec 32) (s : State) : Answered :=
  .next (
    if !s.takesInbound then s
    else match s.alt.relation link with
      | .outstanding position => (s.acceptCommit position).settleOps
      | .stale => s
      | .next | .beyond => s.violation)

namespace State

/-- R129: an accepted REWIND that commits the first `n` entries of the outstanding list and returns the rest. -/
def acceptRewind (s : State) (n : Nat) : State :=
  let s := (s.commitMany n).returnAll
  let s := s.setAlt (s.alt.addCredits 0)
  (s.setAlt s.alt.accepted).settleOps

end State

/-- REWIND (R129). -/
def execRewind (link : BitVec 32) (s : State) : Answered :=
  .next (
    if !s.takesInbound then s
    else match s.alt.relation link with
      | .outstanding position => s.acceptRewind position
      | .next => s.acceptRewind s.alt.outstanding.length
      | .stale | .beyond => s.violation)

/-- PROTOCOL_VIOLATION (R125): an inbound frame that fails its CRC, or whose kind or length is none of the three, is
ignored and counted. -/
def execProtocolViolation (bytes : List Byte) (s : State) : Answered :=
  .next (if s.takesInbound && isBadArchive bytes then s.violation else s)

end Sys2Proof.Machine
end

