-- ==== Sys2Proof/Machine/Timers.lean ====
section
/-! DEFINITION. The expiries of the timers (R74, R106 to R108, R124), and the 1 µs timebase (00_scope). An expiry takes
place where its timer runs with no time left: not of a stopped timer, and not of one that an event taken first has started
again (R74, R106 to R108, R124; log entry 2). -/

namespace Sys2Proof.Machine

/-- Whether a timer's duration has run out, so that its expiry takes place (log entry 2). -/
def Timer.ranOut : Timer → Bool
  | .running n => n == 0
  | .stopped => false

/-- R124: whether the commit timer's duration has run out. -/
def CommitTimer.ranOut : CommitTimer → Bool
  | .running n => n == 0
  | .stopped | .expired => false

/-- INTERIM_TIMER_EXPIRY (R74). -/
def execInterimTimerExpiry (i : StreamId) (s : State) : Answered :=
  let x := s.stream i
  .next (
    if !x.interimTimer.ranOut then s
    else match x.openBlock with
      | some b =>
        if 1 ≤ b.points then s.closeShort i
        else s.setStream i { x with interimTimer := .running x.cfg.interim }
      | none => s)

/-- R107: the group record after its over-timer expires. -/
def Group.overExpired (x : Group) : Group :=
  let level := if x.ordered < x.maxLevel then x.ordered + 1 else x.ordered
  { x with ordered := level, overTimer := if level < x.maxLevel then .running x.degradeWait else .stopped }

/-- OVER_TIMER_EXPIRY (R107). -/
def execOverTimerExpiry (g : GroupId) (s : State) : Answered :=
  .next (if (s.group g).overTimer.ranOut then s.setGroup g (s.group g).overExpired else s)

/-- R108: the group record after its settle-timer expires. -/
def Group.settleExpired (x : Group) : Group :=
  let level := if 0 < x.ordered then x.ordered - 1 else x.ordered
  { x with ordered := level, settleTimer := if 0 < level then .running x.settleTime else .stopped }

/-- SETTLE_TIMER_EXPIRY (R108). -/
def execSettleTimerExpiry (g : GroupId) (s : State) : Answered :=
  .next (if (s.group g).settleTimer.ranOut then s.setGroup g (s.group g).settleExpired else s)

/-- HOLD_OFF_TIMER_EXPIRY (R106): the timer is stopped and the group's condition is judged. -/
def execHoldOffTimerExpiry (g : GroupId) (s : State) : Answered :=
  .next (
    if (s.group g).holdOffTimer.ranOut then
      (s.setGroup g { s.group g with holdOffTimer := .stopped }).judge g
    else s)

/-- COMMIT_TIMER_EXPIRY (R124): a COMMIT or REWIND taken first has started the timer again, or stopped it, and the expiry
does not take place. -/
def execCommitTimerExpiry (s : State) : Answered :=
  let t := s.setAlt { s.alt with commitTimer := .expired }
  .next (
    if !s.alt.commitTimer.ranOut then s
    else if s.alt.linkState = .up then (t.setAlt { t.alt with linkState := .stalled }).raise (.link .linkStalled)
    else t)

/-! ## The timebase -/

/-- One µs passes on a timer. -/
def Timer.tick : Timer → Timer
  | .running n => .running (n - 1)
  | .stopped => .stopped

/-- One µs passes on the commit timer. -/
def CommitTimer.tick : CommitTimer → CommitTimer
  | .running n => .running (n - 1)
  | t => t

/-- One µs passes (log entry 2): the time that remains on each running timer falls by one, to no less than 0. The
expiries themselves are commands. -/
def State.tick (s : State) : State :=
  { s with
    streams := s.streams.map fun x => { x with interimTimer := x.interimTimer.tick }
    groups := s.groups.map fun x =>
      { x with
        overTimer := x.overTimer.tick
        settleTimer := x.settleTimer.tick
        holdOffTimer := x.holdOffTimer.tick }
    alt := { s.alt with commitTimer := s.alt.commitTimer.tick } }

end Sys2Proof.Machine
end

