-- ==== Sys2Proof/Machine/Transmitter.lean ====
section
/-! DEFINITION. The transmitter's own events (7.4 to 7.6), the end of a verify read (R100), and the return lane (R167). An event
whose operation is not in progress does not take place. -/

namespace Sys2Proof.Machine

/-- ARBITER_GRANT (R131, R132). -/
def execArbiterGrant (s : State) : Answered :=
  .next (
    if !s.mayGrant then s
    else match s.highestClass with
      | none => s
      | some c =>
        match s.pick c with
        | some (i, p) => s.grantTo c i p
        | none => s)

/-- STAGING_DONE (R93, R94, R133). -/
def execStagingDone (checks : List LineCheck) (s : State) : Answered :=
  .next (match s.alt.staged with
    | some b =>
      if b.copy = .ready then s
      else match s.slotRecord b.slot with
        | some r => s.finishStaging b r checks
        | none => s
    | none => s)

/-- MOVE_TO_SENDING (R134). -/
def execMoveToSending (s : State) : Answered :=
  .next (
    if !s.mayMove then s
    else match s.alt.staged with
      | some b =>
        let t := s.changeRecord b.slot fun r => { r with place := .sending }
        t.setAlt { t.alt with staged := none, sending := some ⟨b.slot, t.alt.nextLink, b.bytes⟩ }
      | none => s)

/-- SEND_DONE (R135, R13): the block joins the outstanding list; a stream that is CLOSING with ABORTING set enters IDLE as
its block leaves SENDING. In loopback the frame goes to the checker (R138). -/
def execSendDone (s : State) : Answered :=
  .next (match s.alt.sending with
    | none => s
    | some b =>
      let owner := s.slotRecord b.slot
      let t := s.changeRecord b.slot fun r => { r with place := .outstanding }
      let t := t.setAlt (State.sentAlt t.alt b s.settings.loopback)
      let t := if s.settings.loopback then t
        else t.setOwn { t.own with archiveOut := t.own.archiveOut ++ [⟨b.link, b.bytes, .complete⟩] }
      match owner with
      | some r =>
        if (t.stream r.stream).phase == .closing true then (t.enterIdle r.stream true).settleOps else t
      | none => t)

namespace State

/-- R138: the commit that follows a check: a COMMIT of the block's link sequence, then one credit. -/
def checkCommit (s : State) (link : BitVec 32) : State :=
  let t := match s.alt.relation link with
    | .outstanding position => s.acceptCommit position
    | _ => s
  (t.setAlt (t.alt.addCredits 1)).settleOps

end State

/-- CHECK_DONE (R138). -/
def execCheckDone (s : State) : Answered :=
  .next (match s.alt.checking with
    | [] => s
    | x :: rest =>
      let t := s.setAlt { s.alt with checking := rest, checkRecords := State.checkedRecords s.alt x.bytes }
      let t := if State.passesCheck s.alt x.bytes then t else t.checkFailed
      t.checkCommit x.link)

/-! ## The end of a verify read (R100) -/

/-- R100: the outcome of a verify read. -/
def verifyOutcome (read : ReadResult) : OpEnd :=
  let headerDiff := !State.headerChecks read.bytes
  let payloadDiff := !State.payloadChecks read.bytes
  if !read.bad.isEmpty then ⟨.damaged, false, false⟩
  else if headerDiff || payloadDiff then ⟨.mismatch, headerDiff, payloadDiff⟩
  else ⟨.isMatch, false, false⟩

namespace State

/-- R100: the verify read of a slot ends for the operation at a position of the list. -/
def finishVerify (s : State) (position slot : Nat) (length : Nat) (checks : List LineCheck) : State :=
  let read := s.readBlock slot length checks
  let s := s.noteRead slot read
  (s.setOps (s.ops.modify position fun o => { o with ended := some (verifyOutcome read) })).settleOps

end State

/-- VERIFY_READ_END (R100). -/
def execVerifyReadEnd (position : Nat) (checks : List LineCheck) (s : State) : Answered :=
  .next (match (s.ops[position]?).map PendingOp.kind with
    | some (.verify _ slot true) =>
      match (s.slotRecord slot).bind SlotRecord.length with
      | some length => s.finishVerify position slot length checks
      | none => s
    | _ => s)

/-! ## The return lane (R167) -/

/-- REPORT_SEND_BEGIN (R166, R167). -/
def execReportSendBegin (s : State) : Answered :=
  .next (
    if !s.receiver.inSync || s.report.lane.isSome then s
    else if !s.report.fifo.isEmpty then s.setReport { s.report with lane := some .head }
    else match s.report.events with
      | p :: rest =>
        s.setReport { s.report with events := rest, lane := some (.event p (s.eventSnapshot p)) }
      | [] => s)

/-- REPORT_SEND_DONE (R164, R167): an answer leaves the FIFO when its last byte has been sent. -/
def execReportSendDone (s : State) : Answered :=
  let t := s.endReport .complete
  .next (match s.report.lane with
    | none => s
    | some .head => t.setReport { t.report with fifo := t.report.fifo.tail, lane := none }
    | some (.event _ _) => t.setReport { t.report with lane := none })

end Sys2Proof.Machine
end

