-- ==== Sys2Proof/Machine/Dispatch.lean ====
section
/-! DEFINITION. One arm for each command of the FG-832: the call of its meaning. -/

namespace Sys2Proof.Machine

def exec (i : Instr) (s : State) : Host.Outcome State Fault Refusal :=
  match i with
  | .powerOn => Sys2Proof.Machine.execPowerOn s
  | .setEngine d => Sys2Proof.Machine.execSetEngine d s
  | .setLink d => Sys2Proof.Machine.execSetLink d s
  | .writeLayout d => Sys2Proof.Machine.execWriteLayout d s
  | .configureStream d => Sys2Proof.Machine.execConfigureStream d s
  | .configureGroup d => Sys2Proof.Machine.execConfigureGroup d s
  | .startStream d => Sys2Proof.Machine.execStartStream d s
  | .startGroup d => Sys2Proof.Machine.execStartGroup d s
  | .closeStream d => Sys2Proof.Machine.execCloseStream d s
  | .closeGroup d => Sys2Proof.Machine.execCloseGroup d s
  | .abortStream d => Sys2Proof.Machine.execAbortStream d s
  | .flushStream d => Sys2Proof.Machine.execFlushStream d s
  | .amend d checks => Sys2Proof.Machine.execAmend d checks s
  | .verify d => Sys2Proof.Machine.execVerify d s
  | .queryStream d => Sys2Proof.Machine.execQueryStream d s
  | .queryGroup d => Sys2Proof.Machine.execQueryGroup d s
  | .queryLink d => Sys2Proof.Machine.execQueryLink d s
  | .clearCounts d => Sys2Proof.Machine.execClearCounts d s
  | .resetEngine d => Sys2Proof.Machine.execResetEngine d s
  | .unknownDirective code d => Sys2Proof.Machine.execUnknownDirective code d s
  | .badFrame bytes => Sys2Proof.Machine.execBadFrame bytes s
  | .samples source segment first words => Sys2Proof.Machine.execSamples source segment first words s
  | .segmentStart source segment t0 period => Sys2Proof.Machine.execSegmentStart source segment t0 period s
  | .segmentEnd source segment final => Sys2Proof.Machine.execSegmentEnd source segment final s
  | .resync source segment index time => Sys2Proof.Machine.execResync source segment index time s
  | .captureSyncLoss => Sys2Proof.Machine.execCaptureSyncLoss s
  | .captureSyncGain => Sys2Proof.Machine.execCaptureSyncGain s
  | .linkUp => Sys2Proof.Machine.execLinkUp s
  | .linkDown => Sys2Proof.Machine.execLinkDown s
  | .credit count => Sys2Proof.Machine.execCredit count s
  | .commit link => Sys2Proof.Machine.execCommit link s
  | .rewind link => Sys2Proof.Machine.execRewind link s
  | .protocolViolation bytes => Sys2Proof.Machine.execProtocolViolation bytes s
  | .interimTimerExpiry stream => Sys2Proof.Machine.execInterimTimerExpiry stream s
  | .overTimerExpiry group => Sys2Proof.Machine.execOverTimerExpiry group s
  | .settleTimerExpiry group => Sys2Proof.Machine.execSettleTimerExpiry group s
  | .holdOffTimerExpiry group => Sys2Proof.Machine.execHoldOffTimerExpiry group s
  | .commitTimerExpiry => Sys2Proof.Machine.execCommitTimerExpiry s
  | .arbiterGrant => Sys2Proof.Machine.execArbiterGrant s
  | .stagingDone checks => Sys2Proof.Machine.execStagingDone checks s
  | .moveToSending => Sys2Proof.Machine.execMoveToSending s
  | .sendDone => Sys2Proof.Machine.execSendDone s
  | .checkDone => Sys2Proof.Machine.execCheckDone s
  | .verifyReadEnd position checks => Sys2Proof.Machine.execVerifyReadEnd position checks s
  | .reportSendBegin => Sys2Proof.Machine.execReportSendBegin s
  | .reportSendDone => Sys2Proof.Machine.execReportSendDone s

end Sys2Proof.Machine
end

