-- ==== Sys2Proof/Safety.lean ====
section
/-! DEFINITION. What claims about the FG-832 are stated in: how a directive reaches the part and is answered, and the
conditions that every step is claimed to keep. Nothing here is used by the model. -/

namespace Sys2Proof.Safety

open Machine

/-! ## Directives and their answers (R152, R153, R164) -/

/-- A directive frame reaches the decoder (the capture link is in sync) and carries the `n` parameter bytes that it
states. -/
def Carries (s : State) (d : Directive) (n : Nat) : Prop :=
  s.receiver.inSync = true ∧ d.length.toNat = n ∧ d.params.length = n

/-- R169: the reply flag of a directive. -/
def wantsReply (d : Directive) : Bool := d.flags.getLsbD 0

/-- R164: the report unit after an answer, given its REPLIES_DROPPED mark, has been offered. -/
def admitted (r : ReportUnit) (e : Bool → Answer) : ReportUnit :=
  if r.fifo.length < 32 then { r with fifo := r.fifo ++ [e r.dropped], dropped := false }
  else { r with dropped := true }

/-- R153: the report unit after a directive's response, where it is due. -/
def answered (r : ReportUnit) (due : Bool) (code : Byte) (d : Directive) (v : Verdict) (payload : List Byte) :
    ReportUnit :=
  if due then admitted r fun mark => .response d.tag code v mark payload else r

/-- R153: a done or accepted outcome is answered where the reply flag is set. -/
def answeredDone (r : ReportUnit) (code : Byte) (d : Directive) (v : Verdict) (payload : List Byte) : ReportUnit :=
  answered r (wantsReply d) code d v payload

/-- R152, R153: a refusal, UNKNOWN or MALFORMED is answered where the reply flag is set or strict mode is on. -/
def answeredRefused (s : State) (code : Byte) (d : Directive) (v : Verdict) (payload : List Byte) : ReportUnit :=
  answered s.report (wantsReply d || s.settings.strict) code d v payload

/-- R165: the event pending set after a pair has been raised, given whether its class is enabled. -/
def raisedIn (r : ReportUnit) (enabled : Bool) (p : EventPair) : ReportUnit :=
  if enabled = true ∧ p ∉ r.events then { r with events := r.events ++ [p] } else r

/-- R168: an engine counter increased by one, saturating. -/
def bumped (c : BitVec 32) : BitVec 32 := if c = 0xFFFFFFFF#32 then c else c + 1

/-- R132, step 2: how many streams the arbiter's pointer passes over from the stream after `current` up to `i`; the
current stream itself comes last. -/
def turnDistance (current i : StreamId) : Nat := (i.val + 7 - current.val) % 8

/-! ## Layouts, in the terms of R29 to R33 -/

/-- The last index of a GROUP entry; any other entry has none. -/
def lastIndex : LayoutOp → Option Nat
  | .group _ _ last => some last
  | _ => none

/-- A GROUP with a count of 0 and FOREVER clear. -/
def runsNever : LayoutOp → Bool
  | .group count forever _ => count == 0 && !forever
  | _ => false

/-- A GROUP with FOREVER set. -/
def runsForever : LayoutOp → Bool
  | .group _ forever _ => forever
  | _ => false

/-- A FIELD entry. -/
def isField : LayoutOp → Bool
  | .field _ _ _ => true
  | _ => false

/-- R33: an entry whose execution consumes no word. -/
def consumesNone : LayoutOp → Bool
  | .field _ _ advance => !advance
  | .skip count => count == 0
  | _ => true

/-- R29: the span of a base ends at `e`, the first END at or after it. -/
abbrev SpanEnds (table : Nat → LayoutOp) (base e : Nat) : Prop :=
  base ≤ e ∧ e < 512 ∧ table e = .endCycle ∧ ∀ k < e, base ≤ k → table k ≠ .endCycle

/-- R30: the entry at `g` is a GROUP of the span and encloses entry `j`: `j` lies after it, through its last index. -/
def encloses (table : Nat → LayoutOp) (base g j : Nat) : Bool :=
  base ≤ g && g < j && (lastIndex (table g)).any fun last => j ≤ last

/-- R30: the GROUP at `g` fails the NESTING check of the span that ends at `e`: its last index is at or before it, or at or
past the END, or at or past the last index of the group that encloses it most closely, which is the one with the highest
index. -/
abbrev NestingFails (table : Nat → LayoutOp) (base e g : Nat) : Prop :=
  base ≤ g ∧ ∃ last ∈ lastIndex (table g), last ≤ g ∨ e ≤ last ∨
    ∃ o < g, encloses table base o g = true ∧ (∀ p < g, encloses table base p g = true → p ≤ o) ∧
      ∃ outer ∈ lastIndex (table o), outer ≤ last

/-- R31: the GROUP at `g` fails the DEPTH check: one, plus the number of groups that enclose it, is 5 or more. -/
abbrev DepthFails (table : Nat → LayoutOp) (base g : Nat) : Prop :=
  base ≤ g ∧ lastIndex (table g) ≠ none ∧ 5 ≤ 1 + ((List.range g).filter fun o => encloses table base o g).length

/-- R32: the entry at `g` is a GROUP with FOREVER set that does not enclose entry `j` and whose last index is below it. -/
def shutsOff (table : Nat → LayoutOp) (base g j : Nat) : Bool :=
  runsForever (table g) && !encloses table base g j && (lastIndex (table g)).any fun last => last < j

/-- R32: `live` holds of the entries of the span that are live and of no other: those that no group with a count of 0 and
FOREVER clear encloses, and that no live FOREVER group shuts off. -/
abbrev Liveness (table : Nat → LayoutOp) (base e : Nat) (live : Nat → Prop) : Prop :=
  ∀ j ≤ e, base ≤ j → (live j ↔
    (∀ g < j, encloses table base g j = true → runsNever (table g) = false) ∧
    ∀ g ≤ e, base ≤ g → live g → shutsOff table base g j = false)

/-- R33: the live FOREVER group at `g` fails the NO_ADVANCE check: it holds no live FOREVER group of its own, and no live
entry of its body consumes a word. (A group that encloses a live entry and is not FOREVER has a count of 1 or more, so that
the counts of R33 make no such sum 0 and none of it more than 0.) -/
abbrev PassFails (table : Nat → LayoutOp) (base e : Nat) (live : Nat → Prop) (g : Nat) : Prop :=
  base ≤ g ∧ live g ∧ runsForever (table g) = true ∧
    ∀ j ≤ e, encloses table base g j = true → live j → runsForever (table j) = false ∧ consumesNone (table j) = true

/-- R33: a cycle of the span fails the NO_ADVANCE check: it holds no live FOREVER group, and no live entry of it consumes a
word. -/
abbrev CycleFails (table : Nat → LayoutOp) (base e : Nat) (live : Nat → Prop) : Prop :=
  ∀ j ≤ e, base ≤ j → live j → runsForever (table j) = false ∧ consumesNone (table j) = true

/-! ## Snapshots (R172) -/

/-- The values that a snapshot shows under an item number, in their order; an absent value is empty. -/
def shown (items : List SnapItem) (number : Nat) : List (List Byte) :=
  (items.filter fun x => x.number == number).map SnapItem.value

/-- The bytes of a value that may be absent. -/
def valueBytes (size : Nat) : Option Nat → List Byte
  | none => []
  | some n => leBytes size n

/-! ## The findings of a DRAM read (R92) -/

/-- R91, R92: the findings of a read of `lines` lines of a slot, which has 1,024: each on a line that is read, and at most
one to a line. -/
def FindingsFit (checks : List LineCheck) (lines : Nat) : Prop :=
  lines ≤ 1024 ∧ (checks.map LineCheck.line).Nodup ∧ ∀ c ∈ checks, c.line < lines

/-- How many findings are corrected lines. -/
def correctedIn (checks : List LineCheck) : Nat := (checks.filter fun c => c.finding = .corrected).length

/-- How many findings are uncorrectable lines. -/
def uncorrectableIn (checks : List LineCheck) : Nat := (checks.filter fun c => c.finding ≠ .corrected).length

/-- R168: an engine counter increased by a number of lines, saturating. -/
def bumpedBy (c : BitVec 32) (n : Nat) : BitVec 32 := BitVec.ofNat 32 (min 0xFFFFFFFF (c.toNat + n))

/-- R92: the ECC counters after a read with these findings. -/
def eccCounted (k : EngineCounters) (checks : List LineCheck) : EngineCounters :=
  { k with
    eccCorrected := bumpedBy k.eccCorrected (correctedIn checks)
    eccUncorrectable := bumpedBy k.eccUncorrectable (uncorrectableIn checks) }

/-- No line of a slot stands uncorrectable from an earlier read. -/
def NoneStands (s : State) (slot : Nat) : Prop := ∀ x ∈ s.spill.badLines, x.1 / 1024 ≠ slot

/-- Log entry 5: the lines that stand uncorrectable are those of before and the uncorrectable findings of a read of a slot,
with their differences, from a line on. -/
def StandAfter (s t : State) (slot : Nat) (checks : List LineCheck) (first : Nat) : Prop :=
  ∀ x, x ∈ t.spill.badLines ↔
    x ∈ s.spill.badLines ∨ ∃ line flips, ⟨line, .uncorrectable flips⟩ ∈ checks ∧ first ≤ line ∧
      x = (slot * 1024 + line, flips)

/-- R92: a byte of a block as a read with these findings takes it: as stored where its line is clean or corrected, and with
the line's difference where it is uncorrectable. -/
def ByteAsRead (s : State) (slot : Nat) (checks : List LineCheck) (a : Nat) (v : Byte) : Prop :=
  (∀ flips, ⟨a / 64, .uncorrectable flips⟩ ∈ checks →
    v = s.spill.dram.read (slot * 65536 + a) ^^^ flips.extractLsb' (8 * (a % 64)) 8) ∧
  ((∀ flips, ⟨a / 64, .uncorrectable flips⟩ ∉ checks) → v = s.spill.dram.read (slot * 65536 + a))

/-! ## Slots -/

/-- R83: a slot is held: it has a record. -/
def Held (s : State) (slot : Nat) : Prop := (s.spill.slots.find slot).isSome = true

/-- R95: a held slot's record carries a stream, the stream's current run number and a sequence. -/
def Carrier (s : State) (i : StreamId) (seq : BitVec 32) (slot : Nat) (r : SlotRecord) : Prop :=
  (slot, r) ∈ s.spill.slots ∧ r.stream = i ∧ r.run = (s.stream i).runNumber ∧ r.sequence = some seq

/-- The number of slots whose record names a stream (R5). -/
def slotsOf (s : State) (i : StreamId) : Nat := (s.spill.slots.filter fun x => x.2.stream == i).length

/-- The addresses of a slot's bytes (R82, R91). -/
def InSlot (slot a : Nat) : Prop := slot * 65536 ≤ a ∧ a < (slot + 1) * 65536

/-- Two memories agree on every byte outside a slot. -/
def SameOutside (slot : Nat) (m n : Memory) : Prop := ∀ a, ¬ InSlot slot a → n.read a = m.read a

/-- R99: the pending operations after the block of a slot has closed: the verifies of it have begun their reads. -/
def verifiesBegun (slot : Nat) (ops : List PendingOp) : List PendingOp :=
  ops.map fun o => match o.kind with
    | .verify i n reading => { o with kind := .verify i n (reading || n == slot) }
    | _ => o

/-- R130: the blocks of the slots `back` have returned from the link, in that order. Those without the aborted mark stand
at the fronts of their streams' queues; the slots of those with it are free, behind the slots `free`, and no verify of
one is pending. No byte of memory has changed. -/
def ReturnedFrom (s t : State) (back free : List Nat) : Prop :=
  t.spill.freeList = free ++ (back.filter fun n => (s.spill.slots.find n).any fun r => r.aborted) ∧
  t.spill.endWaits = [] ∧ t.spill.dram = s.spill.dram ∧
  (∀ i, (t.stream i).sendQueue =
    (back.filter fun n => (s.spill.slots.find n).any fun r => r.stream == i && !r.aborted) ++ (s.stream i).sendQueue) ∧
  ∀ n ∈ back, ∀ r, s.spill.slots.find n = some r →
    (r.aborted = false → t.spill.slots.find n = some { r with place := .queued }) ∧
    (r.aborted = true → ¬ Held t n ∧ ∀ o ∈ t.ops, ∀ i reading, o.kind ≠ .verify i n reading)

/-! ## Conditions that every step keeps -/

/-- R126, R135: credits and outstanding blocks together never exceed 64, and a block in SENDING holds one of them. -/
def CreditsBounded (s : State) : Prop :=
  s.alt.outstanding.length + max s.alt.credits (if s.alt.sending.isSome then 1 else 0) ≤ 64

/-- R121: the outstanding list holds consecutive link sequences that end one below the next link sequence, and the frame
in SENDING carries the next link sequence (R134). -/
def LinkSequenced (s : State) : Prop :=
  (s.alt.outstanding.map SentBlock.link =
    (List.range s.alt.outstanding.length).map fun k =>
      s.alt.nextLink - BitVec.ofNat 32 s.alt.outstanding.length + BitVec.ofNat 32 k) ∧
  ∀ b, s.alt.sending = some b → b.link = s.alt.nextLink

/-- R151, R164, R165: the pending-operation list holds at most 4 operations and the response FIFO at most 32 entries; the
event pending set holds no pair twice and none whose class is disabled. -/
def ReportsBounded (s : State) : Prop :=
  s.ops.length ≤ 4 ∧ s.report.fifo.length ≤ 32 ∧ s.report.events.Nodup ∧
    ∀ p ∈ s.report.events, s.enabled p = true

/-- The stacked DRAM keeps its canonical form. -/
def MemoryCanonical (s : State) : Prop := s.spill.dram.wf

/-- R106 to R108: a group's over-timer and settle-timer never both run, and neither runs while its hold-off timer does. -/
def TimersExclusive (s : State) : Prop :=
  ∀ g, ¬ ((s.group g).overTimer.isRunning = true ∧ (s.group g).settleTimer.isRunning = true) ∧
    ((s.group g).holdOffTimer.isRunning = true →
      (s.group g).overTimer = .stopped ∧ (s.group g).settleTimer = .stopped)

/-- R1, R155: a stream's configuration lies within its ranges. -/
def StreamInRange (c : StreamConfig) : Prop :=
  1 ≤ c.baseFactor ∧ c.baseFactor ≤ 4096 ∧ (c.mode = .pass → c.baseFactor = 1) ∧
  (∀ k, c.blockSize = .kib k → k = 0 ∨ (4 ≤ k ∧ k ≤ 64 ∧ k % 4 = 0)) ∧
  (c.interim = 0 ∨ (100 ≤ c.interim ∧ c.interim ≤ 1000000)) ∧
  16 ≤ c.quota ∧ c.quota ≤ 65536 ∧ 1 ≤ c.highMark ∧ c.highMark ≤ c.quota ∧ c.lowMark < c.highMark ∧
  1 ≤ c.weight ∧ c.weight ≤ 16

/-- R14, R155: a group's configuration lies within its ranges. -/
def GroupInRange (x : Group) : Prop :=
  1000 ≤ x.degradeWait ∧ x.degradeWait ≤ 10000000 ∧ 1000 ≤ x.settleTime ∧ x.settleTime ≤ 60000000 ∧
    x.holdOff ≤ 10000000

/-- R1, R14, R121: every stored setting lies within its range. -/
def SettingsInRange (s : State) : Prop :=
  (∀ i, StreamInRange (s.stream i).cfg) ∧ (∀ g, GroupInRange (s.group g)) ∧
    1000 ≤ s.alt.commitTimeout ∧ s.alt.commitTimeout ≤ 10000000

/-- R82, R84, R5: every slot number below 65,536 is either on the free list or held, never both, and no other number is;
the free list holds no number twice, each held slot has one record, and each stream's occupancy is the number of the
records that name it. -/
def SlotsPartitioned (s : State) : Prop :=
  s.spill.freeList.Nodup ∧ (s.spill.slots.map Prod.fst).Pairwise (· < ·) ∧
  (∀ n, n < 65536 ↔ (n ∈ s.spill.freeList ∨ Held s n)) ∧ (∀ n, n ∈ s.spill.freeList → ¬ Held s n) ∧
  ∀ i, (s.stream i).occupancy = slotsOf s i

/-- R82, R87: the place a held slot's record gives is where the slot stands. -/
def StandsAt (s : State) (n : Nat) (r : SlotRecord) : Prop :=
  match r.place with
  | .openBlock => ∃ b, (s.stream r.stream).openBlock = some b ∧ b.slot = n
  | .queued => n ∈ (s.stream r.stream).sendQueue
  | .staged => ∃ b, s.alt.staged = some b ∧ b.slot = n
  | .sending => ∃ b, s.alt.sending = some b ∧ b.slot = n
  | .outstanding => n ∈ s.alt.outstanding.map SentBlock.slot

/-- A slot is held with a place, by any stream. -/
def HeldIn (s : State) (n : Nat) (p : SlotPlace) : Prop := ∃ r, s.spill.slots.find n = some r ∧ r.place = p

/-- R82, R87: every held slot stands where its record says, and every slot of a send queue, STAGED, SENDING, the
outstanding list or an open block has a record of that place, in a queue or an open block of that stream; no queue and
no list holds a slot twice. -/
def PlacesAgree (s : State) : Prop :=
  (∀ n r, s.spill.slots.find n = some r → StandsAt s n r) ∧
  (∀ i, ∀ n ∈ (s.stream i).sendQueue, ∃ r, s.spill.slots.find n = some r ∧ r.place = .queued ∧ r.stream = i) ∧
  (∀ i b, (s.stream i).openBlock = some b →
    ∃ r, s.spill.slots.find b.slot = some r ∧ r.place = .openBlock ∧ r.stream = i) ∧
  (∀ b, s.alt.staged = some b → HeldIn s b.slot .staged) ∧
  (∀ b, s.alt.sending = some b → HeldIn s b.slot .sending) ∧
  (∀ b ∈ s.alt.outstanding, HeldIn s b.slot .outstanding) ∧
  (∀ i, (s.stream i).sendQueue.Nodup) ∧ (s.alt.outstanding.map SentBlock.slot).Nodup

/-- R48, R74, R76, R112, R113: a stream without an open block has an empty window and no interim timer running; a
LOSSY stream has no open block and no awaiting record; and the END-slot waits are of distinct CLOSING streams without an
open block. -/
def AssemblersConsistent (s : State) : Prop :=
  (∀ i, (s.stream i).openBlock = none → (s.stream i).window = none ∧ (s.stream i).interimTimer = .stopped) ∧
  (∀ i, (s.stream i).lossy = true → (s.stream i).openBlock = none ∧ (s.stream i).awaiting = none) ∧
  s.spill.endWaits.Nodup ∧
  ∀ i ∈ s.spill.endWaits, (s.stream i).phase = .closing false ∧ (s.stream i).openBlock = none

/-! ## What only some commands write -/

/-- The part of a group record that CONFIGURE GROUP writes (R14). -/
def groupSettings (x : Group) : Level × Nat × Nat × Nat := (x.maxLevel, x.degradeWait, x.settleTime, x.holdOff)

/-- R168: every engine counter of `a` is at most that of `b`. -/
def CountersAtMost (a b : EngineCounters) : Prop :=
  a.badFrames ≤ b.badFrames ∧ a.unclaimed ≤ b.unclaimed ∧ a.orphans ≤ b.orphans ∧ a.overlaps ≤ b.overlaps ∧
  a.eccCorrected ≤ b.eccCorrected ∧ a.eccUncorrectable ≤ b.eccUncorrectable ∧ a.linkProtocol ≤ b.linkProtocol ∧
  a.checkFail ≤ b.checkFail

end Sys2Proof.Safety
end

