-- ==== Sys2Proof/Certificates/Slice0/Obligations.lean ====
section
/-! DEFINITION. The statements about the FG-832 for the provers: the machine and its resets, the directives, the capture
link, levels and losses, the archive link and the transmitter, the timers, the reports, the arithmetic and the formats, and
the conditions that every step keeps. -/

section

open Sys2Proof Sys2Proof.Machine Sys2Proof.Safety

/-! ## The machine -/

/-- The command at the front of the queue is executed on the state with the queue's rest (the model's reading of a block
that takes commands, log entry 1). -/
def Obligations.StepRunsTheFrontCommand : Prop :=
  ∀ (s : State) (c : Instr) (rest : List Instr),
    step { s with pending := c :: rest } = exec c { s with pending := rest }

/-- Log entry 2 (a DESIGN CHOICE): on an empty queue one µs of the timebase passes: what remains on each running timer falls
by one, to no less than 0, and nothing else changes. -/
def Obligations.EmptyQueueStepLowersRunningTimers : Prop :=
  ∀ s : State, s.pending = [] → ∃ t, step s = .next t ∧
    (∀ i, t.stream i = { s.stream i with interimTimer := (s.stream i).interimTimer.tick }) ∧
    (∀ g, t.group g = { s.group g with
      overTimer := (s.group g).overTimer.tick
      settleTimer := (s.group g).settleTimer.tick
      holdOffTimer := (s.group g).holdOffTimer.tick }) ∧
    t = { s with
      streams := t.streams
      groups := t.groups
      alt := { s.alt with commitTimer := s.alt.commitTimer.tick } } ∧
    (∀ n, (Timer.running (n + 1)).tick = .running n) ∧ (Timer.running 0).tick = .running 0 ∧
    Timer.stopped.tick = .stopped ∧
    (∀ n, (CommitTimer.running (n + 1)).tick = .running n) ∧ (CommitTimer.running 0).tick = .running 0 ∧
    CommitTimer.stopped.tick = .stopped ∧ CommitTimer.expired.tick = .expired

/-- Every command runs to a next state, and leaves the queue of waiting commands as it is: no command of the part ends in a
fault or a refusal. That an event whose operation is not in progress leaves everything as it is, is the model's choice (log
entry 1). -/
def Obligations.EveryCommandRunsAndKeepsTheQueue : Prop :=
  ∀ (c : Instr) (s : State), ∃ t, exec c s = .next t ∧ t.pending = s.pending

/-! ## Resets -/

/-- Power-on brings the part, whatever its state, to the state after reset, in which the spec's power-on values stand: every
stream IDLE, unconfigured and empty, on the source and the group of its own number; every group at its defaults; every
layout entry END; every slot free, in ascending order; no operation, no report; the link DOWN without credits; the counters
0; the settings off, with every link event enabled. That the queue and the model's own traces are kept is the model's
choice (log entry 14). -/
def Obligations.PowerOnGivesTheResetState : Prop :=
  (∀ s : State, exec .powerOn s = .next { State.reset with own := s.own, pending := s.pending }) ∧
  (∀ i, State.reset.stream i = Stream.cleared
    { source := i.castLE (by decide), layoutBase := 0, group := i, signedness := .signed, mode := .pass, baseFactor := 1,
      blockSize := .kib 16, interim := 0, quota := 8192, highMark := 6144, lowMark := 2048, priority := 0, weight := 1,
      eventMask := 0b111111#6 } none) ∧
  (∀ i, (State.reset.stream i).phase = .idle ∧ (State.reset.stream i).runNumber = 0 ∧
    (State.reset.stream i).counts = ⟨0, 0, 0, 0, 0⟩ ∧ (State.reset.stream i).occupancy = 0 ∧
    (State.reset.stream i).walker = ⟨0, [], 0, 0⟩ ∧ (State.reset.stream i).sendQueue = []) ∧
  (∀ g, State.reset.group g = ⟨3, 500000, 5000000, 0, 0, .stopped, .stopped, .stopped, none⟩) ∧
  (∀ n, State.reset.layoutOp n = .endCycle) ∧
  State.reset.spill.freeList = List.range' 0 65536 ∧ State.reset.spill.slots = [] ∧ State.reset.spill.endWaits = [] ∧
  State.reset.ops = [] ∧ State.reset.report = ⟨[], [], false, none⟩ ∧
  State.reset.alt.linkState = .down ∧ State.reset.alt.credits = 0 ∧ State.reset.alt.outstanding = [] ∧
  State.reset.alt.nextLink = 0 ∧ State.reset.alt.commitTimer = .stopped ∧ State.reset.alt.commitTimeout = 100000 ∧
  State.reset.counters = ⟨0, 0, 0, 0, 0, 0, 0, 0⟩ ∧ State.reset.settings = ⟨false, false, 0b11111#5⟩ ∧
  State.reset.receiver = ⟨false, none⟩

/-- RESET ENGINE clears all activity and keeps all configuration: the next state is given
whole, but for the model's own trace of frames gone out; the frames the checker has yet to judge are the model's field (log
entry 23). Its own DONE is the only
entry of the response FIFO, with or without the reply flag. -/
def Obligations.ResetEngineClearsActivityAndKeepsConfiguration : Prop :=
  ∀ (s : State) (d : Directive), Carries s d 0 → ∃ t, exec (.resetEngine d) s = .next t ∧
    (∀ i, t.stream i = Stream.cleared (s.stream i).cfg (s.stream i).span) ∧
    (∀ g, t.group g = { s.group g with
      ordered := 0, overTimer := .stopped, settleTimer := .stopped, holdOffTimer := .stopped, startSegment := none }) ∧
    t.layout = s.layout ∧ t.receiver = s.receiver ∧ t.settings = s.settings ∧ t.pending = s.pending ∧
    t.counters = ⟨0, 0, 0, 0, 0, 0, 0, 0⟩ ∧ t.ops = [] ∧
    t.spill = { s.spill with slots := [], freeList := List.range' 0 65536, endWaits := [] } ∧
    t.alt = {
      linkState := if s.settings.loopback = true ∨ s.alt.archiveSync = true then .up else .down
      archiveSync := s.alt.archiveSync
      credits := if s.settings.loopback = true then 64 else 0
      outstanding := [], nextLink := 0, staged := none, sending := none
      pointers := Vector.replicate 4 ⟨none, 0⟩
      commitTimer := .stopped, commitTimeout := s.alt.commitTimeout
      checkRecords := Vector.replicate 8 none, checking := [] } ∧
    t.report = ⟨[.response d.tag 0x31 .done false []], [], false, none⟩

/-! ## Configuration directives -/

/-- SET ENGINE writes its three settings together; entering and leaving loopback act on the transmitter; a pending link
event whose class the new mask disables leaves the set unsent. -/
def Obligations.SetEngineWritesTheThreeSettings : Prop :=
  ∀ (s : State) (d : Directive) (strict loopback : Bool) (mask : BitVec 5),
    Carries s d 3 → byteAt d.params 0 = BitVec.ofNat 8 strict.toNat → byteAt d.params 1 = BitVec.ofNat 8 loopback.toNat →
    mask = (byteAt d.params 2).setWidth 5 →
    (loopback = s.settings.loopback ∨ ((∀ i, (s.stream i).phase = .idle) ∧ s.alt.outstanding = [])) →
    exec (.setEngine d) s = .next { s with
      settings := ⟨strict, loopback, mask⟩
      alt :=
        if loopback = s.settings.loopback then s.alt
        else if loopback = true then
          { s.alt with credits := 64, linkState := .up, commitTimer := .stopped, checkRecords := Vector.replicate 8 none }
        else
          { s.alt with
            credits := 0
            linkState := if s.alt.archiveSync = true then .up else .down
            commitTimer := .stopped }
      report := answeredDone
        { s.report with events := s.report.events.filter fun p => match p with
            | .link e => mask.getLsbD e.code
            | .stream _ _ => true } 0x01 d .done [] }

/-- SET LINK writes the clamped commit timeout, and CONFIGURE GROUP of a group whose members are all IDLE writes its four
clamped settings; the timers that run, the ordered level and S* stay. -/
def Obligations.SetLinkAndConfigureGroupWriteClampedSettings : Prop :=
  (∀ (s : State) (d : Directive), Carries s d 4 →
    exec (.setLink d) s = .next { s with
      alt := { s.alt with commitTimeout := max 1000 (min 10000000 (field d.params 0 4)) }
      report := answeredDone s.report 0x02 d .done [] }) ∧
  ∀ (s : State) (d : Directive) (g : GroupId), Carries s d 14 → byteAt d.params 0 = BitVec.ofNat 8 g.val →
    (∀ i, (s.stream i).cfg.group = g → (s.stream i).phase = .idle) →
    exec (.configureGroup d) s = .next { s with
      groups := s.groups.set g { s.group g with
        maxLevel := ⟨min 3 (byteAt d.params 1).toNat, by omega⟩
        degradeWait := max 1000 (min 10000000 (field d.params 2 4))
        settleTime := max 1000 (min 60000000 (field d.params 6 4))
        holdOff := min 10000000 (field d.params 10 4) }
      report := answeredDone s.report 0x05 d .done [] }

/-- WRITE LAYOUT writes its entries to consecutive indexes, withdraws the span of every IDLE stream that it touches, and
changes nothing else. -/
def Obligations.WriteLayoutWritesItsEntries : Prop :=
  ∀ (s : State) (d : Directive) (first : Nat) (entries : List LayoutEntry),
    Carries s d (3 + 8 * entries.length) → field d.params 0 2 = first →
    (byteAt d.params 2).toNat = entries.length → 1 ≤ entries.length → entries.length ≤ 32 →
    first + entries.length ≤ 512 →
    (∀ k (h : k < entries.length), layoutEntryOf ((d.params.drop (3 + 8 * k)).take 8) = some entries[k]) →
    (∀ e ∈ entries, ∀ count forever last, e.op = .group count forever last → last < 512) →
    (∀ i low high, (s.stream i).span = some (low, high) → (s.stream i).phase ≠ .idle →
      high < first ∨ first + entries.length ≤ low) →
    ∃ t, exec (.writeLayout d) s = .next t ∧
      (∀ k : Fin 512, first ≤ k.val → k.val < first + entries.length →
        some (t.layout.get k) = entries[k.val - first]?) ∧
      (∀ k : Fin 512, (k.val < first ∨ first + entries.length ≤ k.val) → t.layout.get k = s.layout.get k) ∧
      (∀ i low high, (s.stream i).phase = .idle → (s.stream i).span = some (low, high) → first ≤ high →
        low < first + entries.length → t.stream i = { s.stream i with span := none }) ∧
      (∀ i, ((s.stream i).phase ≠ .idle ∨ (s.stream i).span = none ∨
          ∃ low high, (s.stream i).span = some (low, high) ∧ (high < first ∨ first + entries.length ≤ low)) →
        t.stream i = s.stream i) ∧
      t = { s with
        layout := t.layout, streams := t.streams, report := answeredDone s.report 0x03 d .done [] }

/-- The bytes of a layout entry, with its numeric fields brought inside their ranges: a FIELD's width to 1 to 16, its offset
to 0 to 63 and then down until the field lies within the word, a SKIP's count to 1 to 4,096; a kind above 3 names
nothing. -/
def Obligations.LayoutEntriesAreReadAndClamped : Prop :=
  ∀ b : List Byte,
    (byteAt b 0 = 0 → layoutEntryOf b = some ⟨.endCycle, b⟩) ∧
    (byteAt b 0 = 1 → ∃ offset width, layoutEntryOf b = some ⟨.field offset width ((byteAt b 3).getLsbD 0), b⟩ ∧
      1 ≤ width ∧ width ≤ 16 ∧ offset + width ≤ 64 ∧
      ((byteAt b 2).toNat = 0 → width = 1) ∧ (16 < (byteAt b 2).toNat → width = 16) ∧
      (1 ≤ (byteAt b 2).toNat → (byteAt b 2).toNat ≤ 16 → width = (byteAt b 2).toNat) ∧
      ((byteAt b 1).toNat + width ≤ 64 → offset = (byteAt b 1).toNat) ∧
      (64 < (byteAt b 1).toNat + width → offset = 64 - width)) ∧
    (byteAt b 0 = 2 → layoutEntryOf b = some ⟨.skip (max 1 (min 4096 (field b 2 2))), b⟩) ∧
    (byteAt b 0 = 3 → layoutEntryOf b = some ⟨.group (field b 2 2) ((byteAt b 1).getLsbD 0) (field b 4 2), b⟩) ∧
    (4 ≤ (byteAt b 0).toNat → layoutEntryOf b = none)

/-- CONFIGURE STREAM of an IDLE stream whose layout validates replaces the whole configuration and records the span; a
pending event of the stream whose class the new mask disables leaves the set unsent. The configuration is read from the 30
parameter bytes, field by field, with each numeric field brought inside its range; the number 0 as a block size stays, and
means 16 KiB. -/
def Obligations.ConfigureStreamReplacesTheConfiguration : Prop :=
  (∀ (p : List Byte) (source : Fin 32) (base : Fin 512) (group : GroupId) (signedness : Signedness) (mode : Mode)
      (size : BlockSize) (quota high : Nat),
    byteAt p 1 = BitVec.ofNat 8 source.val → field p 2 2 = base.val → byteAt p 4 = BitVec.ofNat 8 group.val →
    byteAt p 5 = (match signedness with | .signed => 0#8 | .unsigned => 1#8) →
    byteAt p 6 = (match mode with | .pass => 0#8 | .decimate => 1#8 | .envelope => 2#8 | .mean => 3#8) →
    ((field p 7 2 < 16384 ∧
        size = .kib (if field p 7 2 = 0 then 0 else max 4 (min 64 (field p 7 2 / 4 * 4)))) ∨
      (16384 ≤ field p 7 2 ∧ field p 7 2 < 32768 ∧ size = .segment)) →
    quota = max 16 (min 65536 (field p 15 4)) → high = max 1 (min quota (field p 19 4)) →
    streamConfigOf p = some {
      source := source, layoutBase := base, group := group, signedness := signedness, mode := mode
      baseFactor := if mode = .pass then 1 else max 1 (min 4096 (field p 9 2))
      blockSize := size
      interim := if field p 11 4 = 0 then 0 else max 100 (min 1000000 (field p 11 4))
      quota := quota, highMark := high, lowMark := min (high - 1) (field p 23 4)
      priority := ⟨min 3 (byteAt p 27).toNat, by omega⟩
      weight := max 1 (min 16 (byteAt p 28).toNat)
      eventMask := (byteAt p 29).setWidth 6 }) ∧
  ∀ (s : State) (d : Directive) (i : StreamId) (cfg : StreamConfig) (last : Nat),
    Carries s d 30 → byteAt d.params 0 = BitVec.ofNat 8 i.val → streamConfigOf d.params = some cfg →
    (s.stream i).phase = .idle → (s.stream i).occupancy ≤ cfg.quota →
    validate s.layoutOp cfg.layoutBase = .valid last →
    exec (.configureStream d) s = .next { s with
      streams := s.streams.set i { s.stream i with cfg := cfg, span := some (cfg.layoutBase.val, last) }
      report := answeredDone
        { s.report with events := s.report.events.filter fun p => match p with
            | .stream j e => if j = i then cfg.eventMask.getLsbD e.code else true
            | .link _ => true } 0x04 d .done (leBytes 2 cfg.layoutBase.val ++ leBytes 2 last) }

/-- The five checks of validation, each with the index it reports. OUT_OF_TABLE: no entry from the base through 511 is an END,
and 511 is reported; otherwise the first END ends the span, and the later checks consider the span alone. NESTING: at the
lowest GROUP whose last index is at or before it, at or past the END, or at or past the last index of the group that
encloses it most closely. DEPTH: at the lowest GROUP with four or more groups around it, those with a count of 0 and those
never reached among them. NO_FIELD: no live entry is a FIELD, and the base is reported. NO_ADVANCE: at the lowest live
FOREVER group one pass of whose body consumes no word, or, without a live FOREVER group, at the base where a cycle consumes
none. A layout that passes all five is valid, with the span through that END: no entry of the span before the last is an
END, every GROUP in it lies, with its body, strictly before that END and strictly inside the body of a group around it, the
entry at its last index is a FIELD or a SKIP, and the span holds a FIELD. -/
def Obligations.ValidatedSpansEndAtTheFirstEnd : Prop :=
  ∀ (table : Nat → LayoutOp) (base : Nat),
    ((∀ e, ¬ SpanEnds table base e) → validate table base = .refused .outOfTable 511) ∧
    (∀ e, SpanEnds table base e →
      (∀ g ≤ e, NestingFails table base e g → (∀ k < g, ¬ NestingFails table base e k) →
        validate table base = .refused .nesting g) ∧
      ((∀ g ≤ e, ¬ NestingFails table base e g) →
        (∀ g ≤ e, DepthFails table base g → (∀ k < g, ¬ DepthFails table base k) →
          validate table base = .refused .depth g) ∧
        ((∀ g ≤ e, ¬ DepthFails table base g) → ∀ live, Liveness table base e live →
          ((∀ j ≤ e, base ≤ j → live j → isField (table j) = false) → validate table base = .refused .noField base) ∧
          (∀ f ≤ e, base ≤ f → live f → isField (table f) = true →
            (∀ g ≤ e, PassFails table base e live g → (∀ k < g, ¬ PassFails table base e live k) →
              validate table base = .refused .noAdvance g) ∧
            (CycleFails table base e live → validate table base = .refused .noAdvance base) ∧
            ((∀ g ≤ e, ¬ PassFails table base e live g) → ¬ CycleFails table base e live →
              validate table base = .valid e))))) ∧
    ∀ last, validate table base = .valid last →
      base ≤ last ∧ last < 512 ∧ table last = .endCycle ∧ (∀ k, base ≤ k → k < last → table k ≠ .endCycle) ∧
      (∀ k count forever l, base ≤ k → k < last → table k = .group count forever l →
        k < l ∧ l < last ∧ ((∃ o w a, table l = .field o w a) ∨ ∃ n, table l = .skip n) ∧
        ∀ j c f m, k < j → j ≤ l → table j = .group c f m → m < l) ∧
      ∃ k, base ≤ k ∧ k < last ∧ ∃ o w a, table k = .field o w a

/-! ## Operation directives and queries -/

/-- START STREAM of an IDLE stream with a validated span arms it, with the fields it sets given one by one, and answers with
the new run number; in any other state, or without a span, it is refused with BAD_STATE. Nothing else changes: no group
record is touched. That the run has given no sequence yet is noted in a field of the model's own (log entry 33). -/
def Obligations.StartStreamArmsAnIdleStream : Prop :=
  ∀ (s : State) (d : Directive) (i : StreamId), Carries s d 1 → byteAt d.params 0 = BitVec.ofNat 8 i.val →
    ((s.stream i).phase = .idle → (s.stream i).span ≠ none →
      exec (.startStream d) s = .next { s with
        streams := s.streams.set i { s.stream i with
          runNumber := (s.stream i).runNumber + 1, nextSeq := 0, gaveSeq := false, counts := ⟨0, 0, 0, 0, 0⟩, inputIndex := 0
          anchor := none, resync := none, prevStart := none, loss := none, lateStart := false, level := 0
          phase := .armed .alone }
        report := answeredDone s.report 0x10 d .done (leBytes 1 ((s.stream i).runNumber + 1).toNat) }) ∧
    (((s.stream i).phase ≠ .idle ∨ (s.stream i).span = none) →
      exec (.startStream d) s = .next { s with report := answeredRefused s 0x10 d .badState [] })

/-- START GROUP arms every IDLE member with a validated span, leaves the other streams alone, and starts the group over: the
ordered level 0, S* absent, the hold-off timer running for a hold-off that is not 0. With a hold-off of 0 the over-timer
starts at once where the group is over. The answer carries the member list: how many members the group has, and for each in
stream order its number, its disposition as the directive found it (0 armed by it, 1 IDLE without a span, 2 ARMED, 3
RUNNING, 4 CLOSING) and its run number as the directive leaves it. That a run has given no sequence yet is noted in a field
of the model's own (log entry 33). -/
def Obligations.StartGroupArmsEveryEligibleMember : Prop :=
  (∀ (s : State) (d : Directive) (g : GroupId) (i : StreamId),
    Carries s d 1 → byteAt d.params 0 = BitVec.ofNat 8 g.val →
    (s.stream i).cfg.group = g → (s.stream i).phase = .idle → (s.stream i).span ≠ none →
    ∃ t, exec (.startGroup d) s = .next t ∧
      (∀ j, t.stream j =
        if (s.stream j).cfg.group = g ∧ (s.stream j).phase = .idle ∧ (s.stream j).span ≠ none then
          { s.stream j with
            runNumber := (s.stream j).runNumber + 1, nextSeq := 0, gaveSeq := false, counts := ⟨0, 0, 0, 0, 0⟩, inputIndex := 0
            anchor := none, resync := none, prevStart := none, loss := none, lateStart := false, level := 0
            phase := .armed .group }
        else s.stream j) ∧
      t = { s with
        streams := t.streams
        groups := s.groups.set g { s.group g with
          ordered := 0, startSegment := none, settleTimer := .stopped
          overTimer :=
            if (s.group g).holdOff = 0 ∧ s.condition g = .over ∧ 0 < (s.group g).maxLevel then
              .running (s.group g).degradeWait
            else .stopped
          holdOffTimer := if (s.group g).holdOff = 0 then .stopped else .running (s.group g).holdOff }
        report := answeredDone s.report 0x11 d .done (memberList s t g) }) ∧
  ∀ (s t : State) (g : GroupId) (members : List StreamId) (found : StreamId → Byte),
    members = ([0, 1, 2, 3, 4, 5, 6, 7] : List StreamId).filter (fun j => (s.stream j).cfg.group = g) →
    (∀ j, found j = match (s.stream j).phase with
      | .idle => if (s.stream j).span = none then 1 else 0
      | .armed _ => 2
      | .running _ => 3
      | .closing _ => 4) →
    memberList s t g =
      BitVec.ofNat 8 members.length :: members.flatMap fun j => [BitVec.ofNat 8 j.val, found j, (t.stream j).runNumber]

/-- CLOSE STREAM of an ARMED stream returns it to IDLE at once, and of a RUNNING stream, with room in the pending-operation
list, ends its run: the window is emptied, a CLOSE operation enters the list, and the run's last block joins the send
queue, but where no block is open and the free list is empty: there the END-slot wait begins. The block's stored header
carries END_OF_STREAM, and no byte of memory outside the block's slot changes, where the open block's bytes lie within its
slot with room for a partial point. The CLOSE operation stands at the list's end with the directive's tag and reply flag,
and the verifies of the closed slot have begun their reads. The memory is in its canonical form, which every step keeps. -/
def Obligations.CloseStreamEndsTheRun : Prop :=
  ∀ (s : State) (d : Directive) (i : StreamId), Carries s d 1 → byteAt d.params 0 = BitVec.ofNat 8 i.val →
    (∀ how, (s.stream i).phase = .armed how → ∃ t, exec (.closeStream d) s = .next t ∧
      t.ops.length = s.ops.length ∧
      t = { s with
        streams := s.streams.set i { s.stream i with phase := .idle }
        ops := t.ops
        report := answeredDone s.report 0x12 d .done [] }) ∧
    (∀ sub, (s.stream i).phase = .running sub → s.ops.length < 4 → ∃ t slot, exec (.closeStream d) s = .next t ∧
      (t.stream i).phase = .closing false ∧ (t.stream i).window = none ∧ (t.stream i).openBlock = none ∧
      (t.stream i).resync = none ∧ (t.stream i).runNumber = (s.stream i).runNumber ∧
      (t.stream i).segment = (s.stream i).segment ∧ (t.stream i).cfg = (s.stream i).cfg ∧
      (∀ j, j ≠ i → t.stream j = s.stream j) ∧
      (∀ g, g ≠ (s.stream i).cfg.group → t.group g = s.group g) ∧
      t.ops.length = s.ops.length + 1 ∧
      (if (s.stream i).openBlock = none ∧ s.spill.freeList = [] then
        t.spill = { s.spill with endWaits := s.spill.endWaits ++ [i] } ∧
          (t.stream i).counts.closed = (s.stream i).counts.closed ∧
          t.ops = s.ops ++ [⟨d.tag, wantsReply d, .close i, none⟩]
      else
        t.ops = verifiesBegun slot s.ops ++ [⟨d.tag, wantsReply d, .close i, none⟩] ∧
        t.spill.endWaits = s.spill.endWaits ∧
        (∀ b, (s.stream i).openBlock = some b → slot = b.slot) ∧
        ((s.stream i).openBlock = none → s.spill.freeList.head? = some slot ∧ (t.stream i).loss = none) ∧
        (t.stream i).sendQueue = (s.stream i).sendQueue ++ [slot] ∧
        (t.stream i).counts.closed = (s.stream i).counts.closed + 1 ∧
        (MemoryCanonical s →
          (∀ b, (s.stream i).openBlock = some b → headerLength b.gap + b.payload.length + 4 ≤ 65536) →
          (imageFlags (t.storedBytes slot 64)).getLsbD 10 = true ∧ SameOutside slot s.spill.dram t.spill.dram)) ∧
      t = { s with
        streams := t.streams, groups := t.groups, ops := t.ops, spill := t.spill, report := t.report })

/-- CLOSE GROUP with room in the pending-operation list: every ARMED member returns to IDLE, every RUNNING member enters
CLOSING, the other streams keep their states, and one group-close operation enters the list where a member was RUNNING or
CLOSING: it stands at the list's end with the directive's tag and reply flag, waits for those members, in stream order, and
counts as ABORTED where one of them was ABORTING. The operations before it keep their places: a CLOSE stays, a verify of a
held slot begins its read exactly where that slot's block closes, and a group-close that records no ARMED member stays. -/
def Obligations.CloseGroupClosesEveryMember : Prop :=
  ∀ (s : State) (d : Directive) (g : GroupId), Carries s d 1 → byteAt d.params 0 = BitVec.ofNat 8 g.val →
    s.ops.length < 4 → ∃ t, exec (.closeGroup d) s = .next t ∧
      (∀ j, (s.stream j).cfg.group = g → (t.stream j).phase =
        match (s.stream j).phase with
        | .armed _ => .idle
        | .running _ => .closing false
        | p => p) ∧
      (∀ j, (s.stream j).cfg.group = g → (t.stream j).cfg = (s.stream j).cfg ∧
        (t.stream j).runNumber = (s.stream j).runNumber ∧
        (∀ sub, (s.stream j).phase = .running sub → (t.stream j).window = none ∧ (t.stream j).openBlock = none)) ∧
      (∀ j, (s.stream j).cfg.group ≠ g → t.stream j = s.stream j) ∧
      ((∃ j, (s.stream j).cfg.group = g ∧ (∀ how, (s.stream j).phase ≠ .armed how) ∧ (s.stream j).phase ≠ .idle) →
        t.ops.length = s.ops.length + 1 ∧
        ∃ (recorded : List StreamId) (aborted : Bool),
          t.ops[s.ops.length]? = some ⟨d.tag, wantsReply d, .groupClose g recorded recorded aborted, none⟩ ∧
          recorded.Pairwise (· < ·) ∧
          (∀ j, j ∈ recorded ↔ (s.stream j).cfg.group = g ∧
            ((∃ sub, (s.stream j).phase = .running sub) ∨ ∃ a, (s.stream j).phase = .closing a)) ∧
          (aborted = true ↔ ∃ j, (s.stream j).cfg.group = g ∧ (s.stream j).phase = .closing true)) ∧
      (∀ (k : Nat) (o : PendingOp), s.ops[k]? = some o → ∃ p : PendingOp, t.ops[k]? = some p ∧ p.tag = o.tag ∧
        p.reply = o.reply ∧
        (∀ j, o.kind = .close j → p = o) ∧
        (∀ h members waiting aborted, o.kind = .groupClose h members waiting aborted →
          (∀ j ∈ members, (s.stream j).cfg.group = g → ∀ how, (s.stream j).phase ≠ .armed how) → p = o) ∧
        ∀ j slot reading, o.kind = .verify j slot reading → slot ∉ s.spill.freeList →
          ∃ begun, p = { o with kind := .verify j slot begun } ∧
            (begun = true ↔ reading = true ∨ ∃ m sub b, (s.stream m).cfg.group = g ∧
              (s.stream m).phase = .running sub ∧ (s.stream m).openBlock = some b ∧ b.slot = slot)) ∧
      ((∀ j, (s.stream j).cfg.group = g → (∃ how, (s.stream j).phase = .armed how) ∨ (s.stream j).phase = .idle) →
        t.ops.length = s.ops.length) ∧
      t = { s with
        streams := t.streams, groups := t.groups, ops := t.ops, spill := t.spill, report := t.report }

/-- ABORT STREAM: of an IDLE stream, or one that is ABORTING already, it is answered DONE and changes nothing; an ARMED
stream returns to IDLE; a RUNNING or CLOSING one drops all it holds, its STAGED block among it, counts the open window's
inputs lost, and enters IDLE, or CLOSING with ABORTING where SENDING holds a block of it; its CLOSE and VERIFY operations
leave the list, and one that stands there alone completes ABORTED before ABORT's own answer. Where no other stream waits
for an END slot and the stream's slots are held by it, once each, the slots it gives back join the free list in order, the
records of its blocks in SENDING and on the outstanding list take the aborted mark, every other slot's record stays, and
nothing reaches another stream; no byte of memory changes. -/
def Obligations.AbortStreamGivesBackItsSlots : Prop :=
  ∀ (s : State) (d : Directive) (i : StreamId), Carries s d 1 → byteAt d.params 0 = BitVec.ofNat 8 i.val →
    ((∀ o ∈ s.ops, o.ended = none) → ((s.stream i).phase = .idle ∨ (s.stream i).phase = .closing true) →
      exec (.abortStream d) s = .next { s with report := answeredDone s.report 0x14 d .done [] }) ∧
    (∀ how, (s.stream i).phase = .armed how → ∃ t, exec (.abortStream d) s = .next t ∧
      t.streams = s.streams.set i { s.stream i with phase := .idle } ∧ t.spill = s.spill ∧ t.alt = s.alt) ∧
    (((∃ sub, (s.stream i).phase = .running sub) ∨ (s.stream i).phase = .closing false) →
      ∃ t, exec (.abortStream d) s = .next t ∧
        t.stream i = { s.stream i with
          phase := if s.sendsFor i = true then .closing true else .idle
          walker := { (s.stream i).walker with stack := [] }
          counts := { (s.stream i).counts with
            lost := (s.stream i).counts.lost + BitVec.ofNat 64 (((s.stream i).window.map Window.count).getD 0) }
          occupancy := (t.stream i).occupancy
          window := none, resync := none, awaiting := none, openBlock := none, interimTimer := .stopped
          loss := none, lateStart := false, firstMark := false, sendQueue := [] } ∧
        t.alt = { s.alt with staged := if s.stagedFor i = [] then s.alt.staged else none } ∧
        ((∀ o ∈ s.ops, o.ended = none) → ∀ o ∈ t.ops, o.kind ≠ .close i ∧ ∀ n reading, o.kind ≠ .verify i n reading) ∧
        t.layout = s.layout ∧ t.settings = s.settings ∧ t.receiver = s.receiver ∧
        ((∀ j ∈ s.spill.endWaits, j = i) → (s.abortedSlots i).Nodup →
          (∀ n ∈ s.abortedSlots i, ∃ r, s.spill.slots.find n = some r ∧ r.stream = i) →
          (t.stream i).occupancy = (s.stream i).occupancy - (s.abortedSlots i).length ∧
          (∀ j, j ≠ i → t.stream j = s.stream j) ∧
          t.spill.freeList = s.spill.freeList ++ s.abortedSlots i ∧ t.spill.endWaits = [] ∧
          t.spill.dram = s.spill.dram ∧ t.report.events = s.report.events ∧
          (∀ n, n ∉ s.abortedSlots i → t.spill.slots.find n = (s.spill.slots.find n).map fun r =>
            if r.stream = i ∧ (r.place = .sending ∨ r.place = .outstanding) then { r with aborted := true } else r) ∧
          ((s.spill.slots.map Prod.fst).Nodup → ∀ n ∈ s.abortedSlots i, ¬ Held t n) ∧
          (∀ tag, s.ops = [⟨tag, true, .close i, none⟩] → t.ops = [] ∧ t.report = answeredDone
            (admitted s.report fun mark => .completion tag .close .aborted mark 0 false false) 0x14 d .done []) ∧
          (∀ tag n reading, s.ops = [⟨tag, true, .verify i n reading, none⟩] → t.ops = [] ∧ t.report = answeredDone
            (admitted s.report fun mark => .completion tag .verify .aborted mark n false false) 0x14 d .done [])))

/-- FLUSH STREAM of a RUNNING stream: an open block that holds a point joins the send queue, and the response carries its
sequence; with an empty window no block is then open. Its stored header carries SHORT, and no byte of memory outside its
slot, and the free list's head where the next block opens for a window in progress, changes. Where no open block holds a
point, nothing changes but the answer. The memory is in its canonical form, which every step keeps. -/
def Obligations.FlushStreamClosesABlockThatHoldsPoints : Prop :=
  ∀ (s : State) (d : Directive) (i : StreamId) (sub : SubState),
    Carries s d 1 → byteAt d.params 0 = BitVec.ofNat 8 i.val → (s.stream i).phase = .running sub →
    (∀ b, (s.stream i).openBlock = some b → 1 ≤ b.points → ∃ t : State,
      exec (.flushStream d) s = .next { t with
        report := answeredDone t.report 0x15 d .done (leBytes 1 1 ++ leBytes 4 b.header.sequence.toNat) } ∧
      (t.stream i).sendQueue = (s.stream i).sendQueue ++ [b.slot] ∧
      (t.stream i).counts.closed = (s.stream i).counts.closed + 1 ∧
      ((s.stream i).window = none → (t.stream i).openBlock = none ∧ (t.stream i).interimTimer = .stopped ∧
        t.report = s.report) ∧
      (headerLength b.gap + b.payload.length ≤ 65536 →
        (MemoryCanonical s → ((s.stream i).window = none ∨ s.spill.freeList.head? ≠ some b.slot) →
          imageFlags (t.storedBytes b.slot 64) = (b.header.flags ||| Flag.short)) ∧
        (∀ a, ¬ InSlot b.slot a → ((s.stream i).window = none ∨ ∀ n, s.spill.freeList.head? = some n → ¬ InSlot n a) →
          t.spill.dram.read a = s.spill.dram.read a)) ∧
      (∀ j, j ≠ i → t.stream j = s.stream j) ∧
      t = { s with streams := t.streams, groups := t.groups, ops := t.ops, spill := t.spill, report := t.report }) ∧
    ((∀ b, (s.stream i).openBlock = some b → b.points = 0) →
      exec (.flushStream d) s = .next { s with
        report := answeredDone s.report 0x15 d .done (leBytes 1 0 ++ leBytes 4 0) })

/-- AMEND of a closed block that has not been sent, whose header read is clean or corrected: the corrected lines are counted,
the header lines, as corrected, are rewritten with the annotation word, AMENDED and a fresh header CRC, and no byte outside
them changes; a ready copy of the block in STAGED becomes stale. How many lines the header takes comes from the slot's
record (log entry 8). A header read that meets uncorrectable lines, whatever else it finds, is answered DAMAGED and nothing
is written: every finding is counted, and the uncorrectable lines stand so for later reads (log entry 5). AMEND of an open
block writes the word into its header, in the open block and in its slot. The memory is in its canonical form, which every
step keeps. -/
def Obligations.AmendRewritesTheHeader : Prop :=
  ∀ (s : State) (d : Directive) (i : StreamId) (word : Fin 4) (value : BitVec 32) (slot : Nat) (r : SlotRecord),
    Carries s d 10 → byteAt d.params 0 = BitVec.ofNat 8 i.val → byteAt d.params 1 = BitVec.ofNat 8 word.val →
    value = BitVec.ofNat 32 (field d.params 6 4) →
    s.findBlock i (BitVec.ofNat 32 (field d.params 2 4)) = some (slot, r) → MemoryCanonical s →
    (∀ checks, (r.place = .queued ∨ r.place = .staged) → 0 < s.headerLines slot → NoneStands s slot →
      FindingsFit checks (s.headerLines slot) → uncorrectableIn checks = 0 → s.readsInFlight slot = 0 →
      (∀ b, s.alt.staged = some b → b.slot = slot → b.copy = .ready) →
      ∃ t, exec (.amend d checks) s = .next t ∧
        t.spill.dram.readAll (slot * 65536) (64 * s.headerLines slot) =
          recrcHeader (setImageFlag (setImageNote
            (s.spill.dram.readAll (slot * 65536) (64 * s.headerLines slot)) word value) Flag.amended) ∧
        (∀ a, (a < slot * 65536 ∨ slot * 65536 + 64 * s.headerLines slot ≤ a) →
          t.spill.dram.read a = s.spill.dram.read a) ∧
        t = { s with
          counters := eccCounted s.counters checks
          spill := { s.spill with dram := t.spill.dram }
          alt := { s.alt with
            staged := s.alt.staged.map fun b => if b.slot = slot then { b with copy := .stale } else b }
          report := answeredDone s.report 0x16 d .done [] }) ∧
    (∀ checks, (r.place = .queued ∨ r.place = .staged) → NoneStands s slot →
      FindingsFit checks (s.headerLines slot) → 0 < uncorrectableIn checks →
      ∃ t, exec (.amend d checks) s = .next t ∧ StandAfter s t slot checks 0 ∧
        t = { s with
          counters := eccCounted s.counters checks
          spill := { s.spill with badLines := t.spill.badLines }
          report := answeredRefused s 0x16 d .damaged [] }) ∧
    (∀ b c, r.place = .openBlock → (s.stream i).openBlock = some b →
      c = { b with header := { b.header with notes := b.header.notes.set word value } } →
      ∀ checks, ∃ t, exec (.amend d checks) s = .next t ∧
        t.stream i = { s.stream i with openBlock := some c } ∧ (∀ j, j ≠ i → t.stream j = s.stream j) ∧
        t.spill.dram.readAll (slot * 65536) 64 = c.header.bytes ∧
        (∀ a, (a < slot * 65536 ∨ slot * 65536 + 64 ≤ a) → t.spill.dram.read a = s.spill.dram.read a) ∧
        t = { s with
          streams := t.streams
          spill := { s.spill with dram := t.spill.dram, badLines := t.spill.badLines }
          report := answeredDone s.report 0x16 d .done [] })

/-- VERIFY of a held block, with room in the list: the operation enters at the list's end with the slot, its read begun
unless the block is open, and VERIFY is answered ACCEPTED. AMEND and VERIFY of a sequence that no held slot carries: given,
it is TOO_LATE and GONE, not given, NO_BLOCK; AMEND of a block in SENDING or on the outstanding list is TOO_LATE. Nothing
else changes. Given is what lies 1 to 2^31 below the next sequence, once the run has given one (log entry 33). The block
that both look for: a held slot that carries the stream, its current run number and the sequence; the one without the
aborted mark where there is one; otherwise the one in SENDING, or else the last of them on the outstanding list. -/
def Obligations.VerifyEntersTheListAndAbsentBlocksAreRefused : Prop :=
  (∀ (s : State) (d : Directive) (i : StreamId) (slot : Nat) (r : SlotRecord),
    Carries s d 5 → byteAt d.params 0 = BitVec.ofNat 8 i.val →
    s.findBlock i (BitVec.ofNat 32 (field d.params 1 4)) = some (slot, r) → s.ops.length < 4 →
    exec (.verify d) s = .next { s with
      ops := s.ops ++ [⟨d.tag, wantsReply d, .verify i slot (decide (r.place ≠ .openBlock)), none⟩]
      report := answeredDone s.report 0x17 d .accepted [] }) ∧
  (∀ (s : State) (i : StreamId) (seq : BitVec 32),
    (∀ slot r, s.findBlock i seq = some (slot, r) → Carrier s i seq slot r ∧
      (r.aborted = true → ∀ n q, Carrier s i seq n q → q.aborted = true)) ∧
    (∀ slot r, Carrier s i seq slot r → r.aborted = false → s.findBlock i seq ≠ none) ∧
    ((∀ n q, Carrier s i seq n q → q.aborted = true) →
      (∀ b r, s.alt.sending = some b → Carrier s i seq b.slot r → ∃ q, s.findBlock i seq = some (b.slot, q)) ∧
      (∀ before b after r, s.alt.outstanding = before ++ b :: after → Carrier s i seq b.slot r →
        (∀ c q, (s.alt.sending.map SendingBlock.slot = some c ∨ c ∈ after.map SentBlock.slot) → ¬ Carrier s i seq c q) →
        ∃ q, s.findBlock i seq = some (b.slot, q)))) ∧
  ∀ (s : State) (d : Directive) (i : StreamId) (word : Fin 4) (seq : BitVec 32),
    byteAt d.params 0 = BitVec.ofNat 8 i.val →
    (Carries s d 10 → byteAt d.params 1 = BitVec.ofNat 8 word.val → seq = BitVec.ofNat 32 (field d.params 2 4) →
      ∀ checks,
      (s.findBlock i seq = none → ∀ v, v = (if (s.stream i).gaveSeq = true ∧ 1 ≤ ((s.stream i).nextSeq - seq).toNat ∧
            ((s.stream i).nextSeq - seq).toNat ≤ 2 ^ 31 then Verdict.tooLate else Verdict.noBlock) →
        exec (.amend d checks) s = .next { s with report := answeredRefused s 0x16 d v [] }) ∧
      (∀ slot r, s.findBlock i seq = some (slot, r) → (r.place = .sending ∨ r.place = .outstanding) →
        exec (.amend d checks) s = .next { s with report := answeredRefused s 0x16 d .tooLate [] })) ∧
    (Carries s d 5 → seq = BitVec.ofNat 32 (field d.params 1 4) → s.findBlock i seq = none →
      ((s.stream i).gaveSeq = true → 1 ≤ ((s.stream i).nextSeq - seq).toNat →
          ((s.stream i).nextSeq - seq).toNat ≤ 2 ^ 31 →
        exec (.verify d) s = .next { s with report := answeredDone s.report 0x17 d .gone [] }) ∧
      ((s.stream i).gaveSeq = false ∨ ((s.stream i).nextSeq - seq).toNat = 0 ∨ 2 ^ 31 < ((s.stream i).nextSeq - seq).toNat →
        exec (.verify d) s = .next { s with report := answeredRefused s 0x17 d .noBlock [] }))

/-- The three queries answer DONE with a snapshot of the state as it stands, and change nothing else. A snapshot is its items
one after another, each with its number, the length of its value, and the value, in ascending order of the numbers. What
the items of a stream's, a group's and the link's snapshot show is given item by item: the configuration, the run state with
its counters, the walker, the reduction unit, the open block, what awaits, the slots and the loss record; the group's
settings, levels, timers, condition and members; the transmitter, the settings, the pending operations and the counters.
Where the spec leaves more than one reading of an item, it is the model's choice (log entries 12, 34 and 41). -/
def Obligations.QueriesAnswerWithASnapshot : Prop :=
  (∀ (s : State) (d : Directive) (i : StreamId), Carries s d 1 → byteAt d.params 0 = BitVec.ofNat 8 i.val →
    exec (.queryStream d) s = .next { s with
      report := answeredDone s.report 0x20 d .done (snapshotBytes (s.streamSnapshot i)) }) ∧
  (∀ (s : State) (d : Directive) (g : GroupId), Carries s d 1 → byteAt d.params 0 = BitVec.ofNat 8 g.val →
    exec (.queryGroup d) s = .next { s with
      report := answeredDone s.report 0x21 d .done (snapshotBytes (s.groupSnapshot g)) }) ∧
  (∀ (s : State) (d : Directive), Carries s d 0 →
    exec (.queryLink d) s = .next { s with
      report := answeredDone s.report 0x22 d .done (snapshotBytes s.linkSnapshot) }) ∧
  (snapshotBytes [] = [] ∧ ∀ item rest, snapshotBytes (item :: rest) =
    leBytes 2 item.number ++ [BitVec.ofNat 8 item.value.length] ++ item.value ++ snapshotBytes rest) ∧
  (∀ (s : State) (i : StreamId) (x : Machine.Stream) (items : List SnapItem), x = s.stream i → items = s.streamSnapshot i →
    (items.map SnapItem.number).Pairwise (· ≤ ·) ∧
    shown items 0x0100 = [leBytes 1 x.cfg.source.val] ∧ shown items 0x0101 = [leBytes 2 x.cfg.layoutBase.val] ∧
    shown items 0x0102 = [leBytes 1 x.cfg.group.val] ∧ shown items 0x0103 = [[x.cfg.signedness.code]] ∧
    shown items 0x0104 = [[x.cfg.mode.code]] ∧ shown items 0x0105 = [leBytes 2 x.cfg.baseFactor] ∧
    shown items 0x0107 = [leBytes 3 x.cfg.interim] ∧ shown items 0x0108 = [leBytes 3 x.cfg.quota] ∧
    shown items 0x0109 = [leBytes 3 x.cfg.highMark] ∧ shown items 0x010A = [leBytes 2 x.cfg.lowMark] ∧
    shown items 0x010B = [leBytes 1 x.cfg.priority.val] ∧ shown items 0x010C = [leBytes 1 x.cfg.weight] ∧
    shown items 0x010D = [leBytes 1 x.cfg.eventMask.toNat] ∧
    shown items 0x0200 = [[match x.phase with | .idle => 0 | .armed _ => 1 | .running _ => 2 | .closing _ => 3]] ∧
    shown items 0x0204 = [[x.runNumber]] ∧
    shown items 0x0205 = [valueBytes 2 (x.span.map Prod.fst), valueBytes 2 (x.span.map Prod.snd)] ∧
    shown items 0x0206 = [leBytes 4 x.segment.toNat] ∧ shown items 0x0207 = [leBytes 4 x.nextSeq.toNat] ∧
    shown items 0x0208 = [leBytes 1 x.level.val] ∧ shown items 0x0209 = [[BitVec.ofNat 8 x.loss.isSome.toNat]] ∧
    shown items 0x020B = [leBytes 8 x.counts.accepted.toNat, leBytes 8 x.counts.lost.toNat,
      leBytes 8 x.counts.points.toNat, leBytes 4 x.counts.closed.toNat, leBytes 4 x.counts.committed.toNat] ∧
    shown items 0x020C = [leBytes 3 x.occupancy] ∧
    shown items 0x0300 = [leBytes 2 x.walker.entry] ∧ (shown items 0x0301).length = x.walker.stack.length ∧
    shown items 0x0400 = [leBytes 8 x.inputIndex] ∧ shown items 0x0404 = [valueBytes 8 x.prevStart] ∧
    (x.openBlock = none → shown items 0x0500 = [[], [], [], [], []]) ∧
    (∀ b, x.openBlock = some b → shown items 0x0500 = [leBytes 4 b.header.sequence.toNat, leBytes 2 b.slot,
      leBytes 1 (headerLength b.gap), leBytes 2 b.points, leBytes 2 b.target]) ∧
    shown items 0x0502 = [valueBytes 8 (x.awaiting.map GapRecord.count), valueBytes 7 (x.awaiting.map GapRecord.first)] ∧
    shown items 0x0600 = [leBytes 3 x.occupancy] ∧ shown items 0x0601 = [leBytes 3 x.cfg.quota] ∧
    (shown items 0x0603)[1]? = some (leBytes 3 x.sendQueue.length) ∧
    shown items 0x0700 = [valueBytes 7 (x.loss.map fun r => r.record.first)] ∧
    shown items 0x0702 = [valueBytes 8 (x.loss.map fun r => r.record.count)]) ∧
  (∀ (s : State) (g : GroupId) (x : Machine.Group) (items : List SnapItem), x = s.group g → items = s.groupSnapshot g →
    (items.map SnapItem.number).Pairwise (· ≤ ·) ∧
    shown items 0x0800 = [leBytes 1 x.maxLevel.val] ∧ shown items 0x0801 = [leBytes 3 x.degradeWait] ∧
    shown items 0x0802 = [leBytes 4 x.settleTime] ∧ shown items 0x0803 = [leBytes 3 x.holdOff] ∧
    shown items 0x0804 = [leBytes 1 x.ordered.val] ∧ (shown items 0x0805).length = 6 ∧
    shown items 0x0806 = [valueBytes 4 (x.startSegment.map BitVec.toNat)] ∧
    shown items 0x0807 = [leBytes 1 (min x.ordered.val x.maxLevel.val)] ∧
    shown items 0x0808 = [[match s.condition g with | .over => 0 | .under => 1 | .neither => 2]] ∧
    shown items 0x0809 = (([0, 1, 2, 3, 4, 5, 6, 7] : List StreamId).filter fun j => (s.stream j).cfg.group = g).map fun j =>
      [BitVec.ofNat 8 j.val,
        match (s.stream j).phase with | .idle => 0 | .armed _ => 1 | .running _ => 2 | .closing _ => 3]) ∧
  ∀ (s : State) (items : List SnapItem), items = s.linkSnapshot →
    (items.map SnapItem.number).Pairwise (· ≤ ·) ∧
    shown items 0x0900 = [[match s.alt.linkState with | .down => 0 | .up => 1 | .stalled => 2],
      [BitVec.ofNat 8 s.alt.archiveSync.toNat], [BitVec.ofNat 8 s.settings.loopback.toNat]] ∧
    shown items 0x0901 = [leBytes 1 s.alt.credits] ∧
    shown items 0x0902 = [leBytes 1 s.alt.outstanding.length,
      valueBytes 4 (s.alt.outstanding.head?.map fun b => b.link.toNat),
      valueBytes 4 (s.alt.outstanding.getLast?.map fun b => b.link.toNat)] ∧
    shown items 0x0903 = [leBytes 4 s.alt.nextLink.toNat] ∧ shown items 0x0906 = [leBytes 3 s.alt.commitTimeout] ∧
    shown items 0x0909 = [leBytes 3 s.spill.freeList.length, leBytes 1 s.spill.endWaits.length] ∧
    shown items 0x0A00 = [[BitVec.ofNat 8 s.settings.strict.toNat]] ∧
    shown items 0x0A01 = [[BitVec.ofNat 8 s.settings.loopback.toNat]] ∧
    shown items 0x0A02 = [leBytes 1 s.settings.linkMask.toNat] ∧ shown items 0x0B00 = [leBytes 1 s.ops.length] ∧
    shown items 0x0B01 = s.ops.map (fun o =>
      (match o.kind with | .close _ => [0x00#8] | .groupClose _ _ _ _ => [0x01#8] | .verify _ _ _ => [0x02#8]) ++ leBytes 2 o.tag.toNat ++
        [match o.kind with
          | .close j => BitVec.ofNat 8 j.val
          | .groupClose g _ _ _ => BitVec.ofNat 8 g.val
          | .verify j _ _ => BitVec.ofNat 8 j.val]) ∧
    shown items 0x0C00 = [leBytes 4 s.counters.badFrames.toNat] ∧
    shown items 0x0C01 = [leBytes 4 s.counters.unclaimed.toNat] ∧
    shown items 0x0C02 = [leBytes 4 s.counters.orphans.toNat] ∧
    shown items 0x0C03 = [leBytes 4 s.counters.overlaps.toNat] ∧
    shown items 0x0C04 = [leBytes 4 s.counters.eccCorrected.toNat] ∧
    shown items 0x0C05 = [leBytes 4 s.counters.eccUncorrectable.toNat] ∧
    shown items 0x0C06 = [leBytes 4 s.counters.linkProtocol.toNat] ∧
    shown items 0x0C07 = [leBytes 4 s.counters.checkFail.toNat]

/-- CLEAR COUNTS sets the eight engine counters to 0, leaves the streams' counters and the replies-dropped flag to what its
answer makes of it, and is answered DONE. -/
def Obligations.ClearCountsZeroesTheEngineCounters : Prop :=
  ∀ (s : State) (d : Directive), Carries s d 0 →
    exec (.clearCounts d) s = .next { s with
      counters := ⟨0, 0, 0, 0, 0, 0, 0, 0⟩, report := answeredDone s.report 0x30 d .done [] }

/-- A directive whose code names none of the eighteen is answered UNKNOWN, and a known one of the wrong length MALFORMED, in
strict mode or with the reply flag set; neither has any other effect. The list runs over the seventeen codes of a fixed
length; WRITE LAYOUT's length follows from its entry count. That a malformed query whose reply flag is clear is answered
in strict mode too is the model's choice (log entry 40: R159 beside R152). -/
def Obligations.UndecodedDirectivesHaveNoEffect : Prop :=
  ∀ (s : State) (d : Directive) (checks : List LineCheck), s.receiver.inSync = true →
    (∀ code : Byte, code ∉ [0x01#8, 0x02, 0x03, 0x04, 0x05, 0x10, 0x11, 0x12, 0x13, 0x14, 0x15, 0x16, 0x17, 0x20, 0x21, 0x22,
        0x30, 0x31] →
      exec (.unknownDirective code d) s = .next { s with report := answeredRefused s code d .unknown [] }) ∧
    (∀ p ∈ ([(.setEngine d, 0x01, 3), (.setLink d, 0x02, 4), (.configureStream d, 0x04, 30), (.configureGroup d, 0x05, 14),
          (.startStream d, 0x10, 1), (.startGroup d, 0x11, 1), (.closeStream d, 0x12, 1), (.closeGroup d, 0x13, 1),
          (.abortStream d, 0x14, 1), (.flushStream d, 0x15, 1), (.amend d checks, 0x16, 10), (.verify d, 0x17, 5),
          (.queryStream d, 0x20, 1), (.queryGroup d, 0x21, 1), (.queryLink d, 0x22, 0), (.clearCounts d, 0x30, 0),
          (.resetEngine d, 0x31, 0)] : List (Instr × Byte × Nat)),
      (d.length.toNat ≠ d.params.length ∨ d.params.length ≠ p.2.2) →
      exec p.1 s = .next { s with report := answeredRefused s p.2.1 d .malformed [] }) ∧
    ((d.length.toNat ≠ d.params.length ∨ d.params.length < 3 ∨ byteAt d.params 2 = 0 ∨ 32 < (byteAt d.params 2).toNat ∨
        d.params.length ≠ 3 + 8 * (byteAt d.params 2).toNat) →
      exec (.writeLayout d) s = .next { s with report := answeredRefused s 0x03 d .malformed [] })

/-- What refuses a directive, with nothing else changed. BAD_STATE: CONFIGURE of a stream that is not IDLE or holds more slots
than the quota, CLOSE of an IDLE or CLOSING one, FLUSH of one that is not RUNNING, CONFIGURE GROUP with a member that is not
IDLE, START GROUP without an eligible member, with its member list (log entry 27). BUSY: CLOSE STREAM, CLOSE GROUP and
VERIFY that need an entry of a full list, and a SET ENGINE that would change the loopback setting while some stream is not
IDLE or a block is outstanding. BAD_VALUE: a stream or group number of 8 or above, an annotation word of 4 or above, a
source, layout index, group or code of CONFIGURE STREAM or SET ENGINE that names nothing, and of WRITE LAYOUT a first index
outside the table, an entry of no kind, with its index, a list past 511, or a GROUP's last index outside the table.
Validation refuses with its reason and index, and WRITE LAYOUT with IN_USE and the lowest stream whose span it would touch
(the order of WRITE LAYOUT's checks: log entry 17). That a query refused with its reply flag clear is answered in strict mode
is the model's choice (log entry 40: R159 beside R153). -/
def Obligations.RefusedDirectivesChangeNothing : Prop :=
  ∀ (s : State) (d : Directive),
    (∀ i : StreamId, byteAt d.params 0 = BitVec.ofNat 8 i.val →
      (Carries s d 30 → (s.stream i).phase ≠ .idle → streamConfigOf d.params ≠ none →
        exec (.configureStream d) s = .next { s with report := answeredRefused s 0x04 d .badState [] }) ∧
      (∀ cfg, Carries s d 30 → (s.stream i).phase = .idle → streamConfigOf d.params = some cfg →
        (cfg.quota < (s.stream i).occupancy →
          exec (.configureStream d) s = .next { s with report := answeredRefused s 0x04 d .badState [] }) ∧
        (∀ reason index, (s.stream i).occupancy ≤ cfg.quota → validate s.layoutOp cfg.layoutBase = .refused reason index →
          reason ∈ [Verdict.outOfTable, .nesting, .depth, .noField, .noAdvance] ∧
          exec (.configureStream d) s = .next { s with report := answeredRefused s 0x04 d reason (leBytes 2 index) })) ∧
      (Carries s d 30 → (32 ≤ (byteAt d.params 1).toNat ∨ 512 ≤ field d.params 2 2 ∨ 8 ≤ (byteAt d.params 4).toNat ∨
          2 ≤ (byteAt d.params 5).toNat ∨ 4 ≤ (byteAt d.params 6).toNat ∨ 32768 ≤ field d.params 7 2) →
        exec (.configureStream d) s = .next { s with report := answeredRefused s 0x04 d .badValue [] }) ∧
      (Carries s d 1 → (∀ j, (s.stream j).cfg.group = i → (s.stream j).phase ≠ .idle ∨ (s.stream j).span = none) →
        exec (.startGroup d) s = .next { s with report := answeredRefused s 0x11 d .badState (memberList s s i) }) ∧
      (Carries s d 1 → (∃ j, (s.stream j).cfg.group = i ∧
          ((∃ sub, (s.stream j).phase = .running sub) ∨ ∃ a, (s.stream j).phase = .closing a)) → 4 ≤ s.ops.length →
        exec (.closeGroup d) s = .next { s with report := answeredRefused s 0x13 d .busy [] }) ∧
      (Carries s d 5 → s.findBlock i (BitVec.ofNat 32 (field d.params 1 4)) ≠ none → 4 ≤ s.ops.length →
        exec (.verify d) s = .next { s with report := answeredRefused s 0x17 d .busy [] }) ∧
      (∀ checks, Carries s d 10 → 4 ≤ (byteAt d.params 1).toNat →
        exec (.amend d checks) s = .next { s with report := answeredRefused s 0x16 d .badValue [] }) ∧
      (Carries s d 1 → ((s.stream i).phase = .idle ∨ ∃ a, (s.stream i).phase = .closing a) →
        exec (.closeStream d) s = .next { s with report := answeredRefused s 0x12 d .badState [] }) ∧
      (Carries s d 1 → (∃ sub, (s.stream i).phase = .running sub) → 4 ≤ s.ops.length →
        exec (.closeStream d) s = .next { s with report := answeredRefused s 0x12 d .busy [] }) ∧
      (Carries s d 1 → (∀ sub, (s.stream i).phase ≠ .running sub) →
        exec (.flushStream d) s = .next { s with report := answeredRefused s 0x15 d .badState [] }) ∧
      (Carries s d 14 → (∃ j, (s.stream j).cfg.group = i ∧ (s.stream j).phase ≠ .idle) →
        exec (.configureGroup d) s = .next { s with report := answeredRefused s 0x05 d .badState [] })) ∧
    (8 ≤ (byteAt d.params 0).toNat → Carries s d 1 →
      exec (.startStream d) s = .next { s with report := answeredRefused s 0x10 d .badValue [] } ∧
      exec (.startGroup d) s = .next { s with report := answeredRefused s 0x11 d .badValue [] } ∧
      exec (.closeStream d) s = .next { s with report := answeredRefused s 0x12 d .badValue [] } ∧
      exec (.closeGroup d) s = .next { s with report := answeredRefused s 0x13 d .badValue [] } ∧
      exec (.abortStream d) s = .next { s with report := answeredRefused s 0x14 d .badValue [] } ∧
      exec (.flushStream d) s = .next { s with report := answeredRefused s 0x15 d .badValue [] } ∧
      exec (.queryStream d) s = .next { s with report := answeredRefused s 0x20 d .badValue [] } ∧
      exec (.queryGroup d) s = .next { s with report := answeredRefused s 0x21 d .badValue [] }) ∧
    (8 ≤ (byteAt d.params 0).toNat →
      (Carries s d 30 →
        exec (.configureStream d) s = .next { s with report := answeredRefused s 0x04 d .badValue [] }) ∧
      (Carries s d 14 →
        exec (.configureGroup d) s = .next { s with report := answeredRefused s 0x05 d .badValue [] }) ∧
      (∀ checks, Carries s d 10 →
        exec (.amend d checks) s = .next { s with report := answeredRefused s 0x16 d .badValue [] }) ∧
      (Carries s d 5 → exec (.verify d) s = .next { s with report := answeredRefused s 0x17 d .badValue [] })) ∧
    (∀ (first n : Nat) (list : List (Option LayoutEntry)), field d.params 0 2 = first →
      (byteAt d.params 2).toNat = n → 1 ≤ n → n ≤ 32 → Carries s d (3 + 8 * n) → list.length = n →
      (∀ k (h : k < list.length), list[k] = layoutEntryOf ((d.params.drop (3 + 8 * k)).take 8)) →
      (512 ≤ first → exec (.writeLayout d) s = .next { s with report := answeredRefused s 0x03 d .badValue [] }) ∧
      (first < 512 → ∀ before after, list = before ++ none :: after → none ∉ before →
        exec (.writeLayout d) s = .next { s with
          report := answeredRefused s 0x03 d .badValue (leBytes 2 (first + before.length)) }) ∧
      (first < 512 → none ∉ list →
        (512 < first + n ∨ ∃ e count forever last, some e ∈ list ∧ e.op = .group count forever last ∧ 512 ≤ last) →
        exec (.writeLayout d) s = .next { s with report := answeredRefused s 0x03 d .badValue [] }) ∧
      (first + n ≤ 512 → none ∉ list →
        (∀ e count forever last, some e ∈ list → e.op = .group count forever last → last < 512) →
        ∀ i : StreamId, (∃ low high, (s.stream i).span = some (low, high) ∧ (s.stream i).phase ≠ .idle ∧
            first ≤ high ∧ low < first + n) →
          (∀ j low high, j < i → (s.stream j).span = some (low, high) → (s.stream j).phase ≠ .idle →
            high < first ∨ first + n ≤ low) →
          exec (.writeLayout d) s = .next { s with report := answeredRefused s 0x03 d .inUse (leBytes 1 i.val) })) ∧
    (Carries s d 3 → (2 ≤ (byteAt d.params 0).toNat ∨ 2 ≤ (byteAt d.params 1).toNat) →
      exec (.setEngine d) s = .next { s with report := answeredRefused s 0x01 d .badValue [] }) ∧
    (∀ strict loopback : Bool,
      Carries s d 3 → byteAt d.params 0 = BitVec.ofNat 8 strict.toNat → byteAt d.params 1 = BitVec.ofNat 8 loopback.toNat →
      loopback ≠ s.settings.loopback → ((∃ i, (s.stream i).phase ≠ .idle) ∨ s.alt.outstanding ≠ []) →
      exec (.setEngine d) s = .next { s with report := answeredRefused s 0x01 d .busy [] })

/-! ## The capture link -/

/-- A bad frame is counted and reaches nothing else. A loss of the capture link's sync discards the frame being assembled and
cuts off the frame on the return lane: an answer stays at the FIFO's head, an event's pair goes back as the oldest, where
its class is enabled and it has not entered again. A gain sets the sync state. Nothing else changes. -/
def Obligations.BadFramesAndSyncActOnTheReceiverAlone : Prop :=
  (∀ (s : State) (bytes : List Byte), s.receiver.inSync = true → decodeCapture bytes [] = none →
    exec (.badFrame bytes) s = .next { s with
      counters := { s.counters with badFrames := if s.counters.badFrames = 0xFFFFFFFF#32 then 0xFFFFFFFF#32
        else s.counters.badFrames + 1 } }) ∧
  (∀ s : State, exec .captureSyncGain s = .next { s with receiver := { s.receiver with inSync := true } }) ∧
  (∀ s : State, ∃ own, exec .captureSyncLoss s = .next { s with
      receiver := ⟨false, none⟩
      own := own
      report := { s.report with
        lane := none
        events := match s.report.lane with
          | some (.event p _) =>
            if s.enabled p = true ∧ p ∉ s.report.events then p :: s.report.events else s.report.events
          | _ => s.report.events } } ∧
    own.freeCount = s.own.freeCount ∧ own.archiveOut = s.own.archiveOut)

/-- The layout of the capture frames and of the archive's three frames: the bytes of each kind, with their CRC, decode to the
command with those fields, a DIRECTIVE to the directive of its code, with any parameter length stated. A capture frame that
decodes has a CRC that checks, the body length it states, and one of the five kinds, with a source below 32 where it is an
acquisition frame, and with the body its kind asks for: any other is a bad frame. An archive frame with a wrong CRC, of a
kind other than CREDIT, COMMIT and REWIND, or of another length than its kind's, decodes to none. -/
def Obligations.InboundFramesDecode : Prop :=
  (∀ (source : Byte) (segment : BitVec 32) (checks : List LineCheck), source.toNat < 32 →
    (∀ (first : BitVec 48) (words : List SampleWord), 1 ≤ words.length → words.length ≤ 512 →
      first.toNat + words.length ≤ 2 ^ 48 →
      decodeCapture (withCrc ([0x01#8, source] ++ leBytes 2 (12 + 8 * words.length) ++ leBytes 4 segment.toNat ++
        leBytes 6 first.toNat ++ leBytes 2 words.length ++ (words.map fun w => leBytes 8 w.toNat).flatten)) checks =
        some (.samples source segment first words)) ∧
    (∀ (t0 : BitVec 64) (period : BitVec 32),
      decodeCapture (withCrc ([0x02#8, source] ++ leBytes 2 16 ++ leBytes 4 segment.toNat ++ leBytes 8 t0.toNat ++
        leBytes 4 period.toNat)) checks = some (.segmentStart source segment t0 period)) ∧
    (∀ final : BitVec 48,
      decodeCapture (withCrc ([0x03#8, source] ++ leBytes 2 10 ++ leBytes 4 segment.toNat ++ leBytes 6 final.toNat))
        checks = some (.segmentEnd source segment final)) ∧
    (∀ (index time : BitVec 64),
      decodeCapture (withCrc ([0x04#8, source] ++ leBytes 2 20 ++ leBytes 4 segment.toNat ++ leBytes 8 index.toNat ++
        leBytes 8 time.toNat)) checks = some (.resync source segment index time))) ∧
  (∀ (source code flags : Byte) (tag stated : BitVec 16) (params : List Byte) (checks : List LineCheck),
    params.length + 6 < 65536 →
    decodeCapture (withCrc ([0x10#8, source] ++ leBytes 2 (6 + params.length) ++ leBytes 2 tag.toNat ++ [flags, code] ++
      leBytes 2 stated.toNat ++ params)) checks = some (directiveOf code ⟨tag, flags, stated, params⟩ checks)) ∧
  (∀ (d : Directive) (checks : List LineCheck),
    (∀ p ∈ ([(0x01#8, .setEngine d), (0x02#8, .setLink d), (0x03#8, .writeLayout d), (0x04#8, .configureStream d),
        (0x05#8, .configureGroup d), (0x10#8, .startStream d), (0x11#8, .startGroup d), (0x12#8, .closeStream d),
        (0x13#8, .closeGroup d), (0x14#8, .abortStream d), (0x15#8, .flushStream d), (0x16#8, .amend d checks),
        (0x17#8, .verify d), (0x20#8, .queryStream d), (0x21#8, .queryGroup d), (0x22#8, .queryLink d),
        (0x30#8, .clearCounts d), (0x31#8, .resetEngine d)] : List (Byte × Instr)), directiveOf p.1 d checks = p.2) ∧
    ∀ code : Byte, code ∉ [0x01#8, 0x02, 0x03, 0x04, 0x05, 0x10, 0x11, 0x12, 0x13, 0x14, 0x15, 0x16, 0x17, 0x20, 0x21, 0x22,
        0x30, 0x31] → directiveOf code d checks = .unknownDirective code d) ∧
  (∀ (bytes : List Byte) (checks : List LineCheck) (c : Instr), decodeCapture bytes checks = some c →
    8 ≤ bytes.length ∧ field bytes 2 2 + 8 = bytes.length ∧
    field bytes (bytes.length - 4) 4 = (crc (bytes.take (bytes.length - 4))).toNat ∧
    ((byteAt bytes 0 = 0x10 ∧ 14 ≤ bytes.length) ∨
      ((byteAt bytes 1).toNat < 32 ∧
        ((byteAt bytes 0 = 0x01 ∧ 1 ≤ field bytes 14 2 ∧ field bytes 14 2 ≤ 512 ∧
            bytes.length = 20 + 8 * field bytes 14 2 ∧ field bytes 8 6 + field bytes 14 2 ≤ 2 ^ 48) ∨
          (byteAt bytes 0 = 0x02 ∧ bytes.length = 24) ∨ (byteAt bytes 0 = 0x03 ∧ bytes.length = 18) ∨
          (byteAt bytes 0 = 0x04 ∧ bytes.length = 28))))) ∧
  (∀ k : Byte, decodeArchive (withCrc [0x81#8, k]) = some (.credit k)) ∧
  (∀ n : BitVec 32, decodeArchive (withCrc ([0x82#8] ++ leBytes 4 n.toNat)) = some (.commit n)) ∧
  (∀ n : BitVec 32, decodeArchive (withCrc ([0x83#8] ++ leBytes 4 n.toNat)) = some (.rewind n)) ∧
  (∀ (bytes : List Byte) (c : Instr), decodeArchive bytes = some c → bytes.length = 6 ∨ bytes.length = 9) ∧
  ∀ bytes : List Byte,
    (bytes.length < 4 ∨ field bytes (bytes.length - 4) 4 ≠ (crc (bytes.take (bytes.length - 4))).toNat ∨
      (byteAt bytes 0 ≠ 0x81#8 ∧ byteAt bytes 0 ≠ 0x82#8 ∧ byteAt bytes 0 ≠ 0x83#8) ∨
      (byteAt bytes 0 = 0x81#8 ∧ bytes.length ≠ 6) ∨
      ((byteAt bytes 0 = 0x82#8 ∨ byteAt bytes 0 = 0x83#8) ∧ bytes.length ≠ 9)) →
    decodeArchive bytes = none

/-- A SAMPLES frame reaches the streams on its source and no other: every other stream, the layout table, the settings, the
transmitter and the queue are as before. A stream that takes the frame in order then expects the word after the frame's
last; one that has all its words is as before; and a gap above 1,048,576 words ends the segment with nothing of the frame
taken. The orphan counter rises by one where some RUNNING stream on the source is not in the frame's segment, or finds such
a gap; the unclaimed counter where no stream takes the frame; the overlap counter where some stream discards it whole. At a
stream alone on its source: a straddle acts as the frame of its new words; a gap up to the limit is dry-walked, and the
frame then taken in order. The dry walk of a gap on a stream that is not LOSSY: where the walker already stands at or past
the gap's end, nothing but the expected word index moves; over a layout of one FIELD to a word, the open window and block
are ended and each missing word counts one input accepted and lost, in a WORD_GAP record that awaits. That such a dry walk
leaves the applied level, at input 0 of the segment too, is the model's choice (log entry 39). -/
def Obligations.SamplesReachOnlyTheStreamsOnTheirSource : Prop :=
  (∀ (s : State) (source : Byte) (segment : BitVec 32) (first : BitVec 48) (words : List SampleWord),
    s.receiver.inSync = true → source.toNat < 32 → 1 ≤ words.length → words.length ≤ 512 →
    first.toNat + words.length ≤ 2 ^ 48 →
    ∃ t, exec (.samples source segment first words) s = .next t ∧
      (∀ i, (s.stream i).cfg.source.val ≠ source.toNat → t.stream i = s.stream i) ∧
      (∀ i, (s.stream i).cfg.source.val = source.toNat → (∀ sub, (s.stream i).phase ≠ .running sub) →
        t.stream i = s.stream i) ∧
      (∀ i, (s.stream i).cfg.source.val = source.toNat → (s.stream i).phase = .running .inSegment →
        (s.stream i).segment = segment →
        ((s.stream i).walker.expected = first.toNat →
          (t.stream i).walker.expected = first.toNat + words.length) ∧
        (first.toNat + words.length ≤ (s.stream i).walker.expected → t.stream i = s.stream i) ∧
        ((s.stream i).walker.expected + 1048576 < first.toNat →
          (t.stream i).phase = .running .betweenSegments ∧ (t.stream i).window = none ∧
          (t.stream i).walker = { (s.stream i).walker with stack := [] } ∧
          (t.stream i).inputIndex = (s.stream i).inputIndex ∧
          (t.stream i).counts.accepted = (s.stream i).counts.accepted)) ∧
      t.counters = { s.counters with
        orphans :=
          if ∃ i, (s.stream i).cfg.source.val = source.toNat ∧ ((s.stream i).phase = .running .betweenSegments ∨
            ((s.stream i).phase = .running .inSegment ∧ ((s.stream i).segment ≠ segment ∨
              (s.stream i).walker.expected + 1048576 < first.toNat))) then bumped s.counters.orphans
          else s.counters.orphans
        unclaimed :=
          if ∃ i, (s.stream i).cfg.source.val = source.toNat ∧ (s.stream i).phase = .running .inSegment ∧
            (s.stream i).segment = segment ∧ first.toNat ≤ (s.stream i).walker.expected + 1048576
          then s.counters.unclaimed else bumped s.counters.unclaimed
        overlaps :=
          if ∃ i, (s.stream i).cfg.source.val = source.toNat ∧ (s.stream i).phase = .running .inSegment ∧
            (s.stream i).segment = segment ∧ first.toNat + words.length ≤ (s.stream i).walker.expected
          then bumped s.counters.overlaps else s.counters.overlaps } ∧
      t = { s with
        streams := t.streams, groups := t.groups, counters := t.counters, ops := t.ops, spill := t.spill
        report := t.report }) ∧
  (∀ (s : State) (i : StreamId) (source : Byte) (segment : BitVec 32) (first : BitVec 48) (words : List SampleWord)
      (n : Nat),
    s.receiver.inSync = true → source.toNat < 32 → 1 ≤ words.length → words.length ≤ 512 →
    first.toNat + words.length ≤ 2 ^ 48 → (∀ j, (s.stream j).cfg.source.val = source.toNat ↔ j = i) →
    (s.stream i).phase = .running .inSegment → (s.stream i).segment = segment → n = (s.stream i).walker.expected →
    (first.toNat < n → n < first.toNat + words.length →
      exec (.samples source segment first words) s =
        exec (.samples source segment (BitVec.ofNat 48 n) (words.drop (n - first.toNat))) s) ∧
    (n < first.toNat → first.toNat ≤ n + 1048576 →
      ((s.dryWalk i first.toNat false).1.stream i).phase = .running .inSegment →
      exec (.samples source segment first words) s =
        exec (.samples source segment first words) (s.dryWalk i first.toNat false).1)) ∧
  ∀ (s t : State) (i : StreamId) (limit n offset width : Nat) (x : Machine.Stream),
    x = s.stream i → x.phase = .running .inSegment → x.loss = none → t = (s.dryWalk i limit false).1 →
    (limit ≤ x.walker.position →
      t = { s with streams := s.streams.set i { x with walker := { x.walker with expected := limit } } }) ∧
    (limit = x.walker.position + n → 1 ≤ n → n ≤ 1048576 → x.inputIndex + n < 2 ^ 56 → x.resync = none →
      x.walker.stack = [] → x.walker.entry = x.cfg.layoutBase → s.layoutOp x.cfg.layoutBase = .field offset width true →
      s.layoutOp (x.cfg.layoutBase + 1) = .endCycle →
      t.stream i = { x with
        walker := ⟨x.cfg.layoutBase + 1, [], limit, limit⟩
        inputIndex := x.inputIndex + n
        counts := { x.counts with
          accepted := x.counts.accepted + BitVec.ofNat 64 n
          lost := x.counts.lost + BitVec.ofNat 64 n
          points := (t.stream i).counts.points
          closed := (t.stream i).counts.closed }
        window := none, openBlock := none, interimTimer := (t.stream i).interimTimer
        awaiting := some (match x.awaiting with
          | some a => { a with count := a.count + n }
          | none => ⟨x.inputIndex, n, inputTime x.anchor x.inputIndex⟩)
        sendQueue := x.sendQueue ++ (x.openBlock.map OpenBlock.slot).toList } ∧
      (∀ j, j ≠ i → t.stream j = s.stream j) ∧ t = { s with streams := t.streams, ops := t.ops, spill := t.spill })

/-- One input end to end: a SAMPLES frame of one word, in order, at a stream in PASS mode whose walker stands at a FIELD with
ADVANCE outside any group, with a block open that has room for more: the extracted value is placed as a point. The only
bytes of memory that can change are the 64 of the line that the point fills. -/
def Obligations.OneWordBecomesOnePassPoint : Prop :=
  ∀ (s : State) (i : StreamId) (source : Byte) (segment : BitVec 32) (first : BitVec 48) (word : SampleWord)
    (offset width : Nat) (b : OpenBlock),
    s.receiver.inSync = true → source.toNat < 32 →
    (∀ j, (s.stream j).cfg.source.val = source.toNat ↔ j = i) →
    (s.stream i).phase = .running .inSegment → (s.stream i).segment = segment → (s.stream i).loss = none →
    (s.stream i).window = none → (s.stream i).resync = none → (s.stream i).openBlock = some b →
    (s.stream i).cfg.mode = .pass → (s.stream i).level = 0 → s.publishedFor i = 0 →
    (s.stream i).walker = ⟨(s.stream i).walker.entry, [], first.toNat, first.toNat⟩ →
    s.layoutOp (s.stream i).walker.entry = .field offset width true →
    (s.stream i).inputIndex + 1 < 2 ^ 56 → b.points + 1 < b.target →
    ∃ t, exec (.samples source segment first [word]) s = .next t ∧
      t.stream i = { s.stream i with
        inputIndex := (s.stream i).inputIndex + 1
        counts := { (s.stream i).counts with
          accepted := (s.stream i).counts.accepted + 1, points := (s.stream i).counts.points + 1 }
        walker := ⟨(s.stream i).walker.entry + 1, [], first.toNat + 1, first.toNat + 1⟩
        openBlock := some { b with
          points := b.points + 1
          payload := b.payload ++
            leBytes 2 (BitVec.ofInt 16 (extractField (s.stream i).cfg.signedness word offset width)).toNat } } ∧
      (∀ j, j ≠ i → t.stream j = s.stream j) ∧
      (∀ a, (a < b.slot * 65536 + 64 * ((headerLength b.gap + b.payload.length) / 64) ∨
          b.slot * 65536 + 64 * ((headerLength b.gap + b.payload.length) / 64) + 64 ≤ a) →
        t.spill.dram.read a = s.spill.dram.read a) ∧
      t = { s with streams := t.streams, spill := { s.spill with dram := t.spill.dram, badLines := t.spill.badLines } }

/-- The bits a FIELD takes, widened: an UNSIGNED input is the field itself; a SIGNED one is the field with its top bit
weighing −2^(width − 1). -/
def Obligations.FieldsAreExtractedAndWidened : Prop :=
  ∀ (word : SampleWord) (offset width : Nat), 1 ≤ width → width ≤ 16 → offset + width ≤ 64 →
    extractField .unsigned word offset width = ((word >>> offset).setWidth width).toNat ∧
    extractField .signed word offset width = ((word >>> offset).setWidth width).toInt ∧
    0 ≤ extractField .unsigned word offset width ∧ extractField .unsigned word offset width < 2 ^ width ∧
    -(2 ^ (width - 1)) ≤ extractField .signed word offset width ∧
    extractField .signed word offset width < 2 ^ (width - 1)

/-- SEGMENT_START at the streams on its source: one armed ALONE or BETWEEN_SEGMENTS begins the segment, with everything a
segment's beginning sets; one armed ALONE also takes its group's published level. One that is IN_SEGMENT first ends its
segment: SEGMENT_TRUNCATED is raised, and its open block joins the send queue. IDLE and CLOSING streams and the streams of
other sources are as before. At a stream alone on its source, IN_SEGMENT, the frame acts as the truncated end of the segment
does (what that does with the block, a gap carrier among it, is the business of SEGMENT_END's statement) and then as the
same frame between segments: the stored header of an open block carries END_OF_SEGMENT and TRUNCATED, and no byte outside
its slot changes where its bytes lie within it with room for a partial point. The memory is in its canonical form, which
every step keeps. -/
def Obligations.SegmentStartBeginsTheSegment : Prop :=
  (∀ (s : State) (source : Byte) (segment : BitVec 32) (t0 : BitVec 64) (period : BitVec 32),
    s.receiver.inSync = true → source.toNat < 32 →
    ∃ t, exec (.segmentStart source segment t0 period) s = .next t ∧
      (∀ i, (s.stream i).cfg.source.val = source.toNat →
        ((s.stream i).phase = .armed .alone ∨ (s.stream i).phase = .running .betweenSegments) →
        t.stream i = { s.stream i with
          phase := .running .inSegment, segment := segment
          walker := ⟨(s.stream i).cfg.layoutBase, [], 0, 0⟩
          inputIndex := 0, window := none, resync := none, firstMark := true
          anchor := some ⟨0, t0.toNat, max 1 period.toNat⟩
          level := if (s.stream i).phase = .armed .alone then s.publishedFor i else (s.stream i).level
          lateStart := if (s.stream i).phase = .armed .alone then false else (s.stream i).lateStart }) ∧
      (∀ i, (s.stream i).cfg.source.val = source.toNat → (s.stream i).phase = .running .inSegment →
        (t.stream i).phase = .running .inSegment ∧ (t.stream i).segment = segment ∧ (t.stream i).inputIndex = 0 ∧
        (t.stream i).window = none ∧ (t.stream i).anchor = some ⟨0, t0.toNat, max 1 period.toNat⟩ ∧
        (t.stream i).level = (s.stream i).level ∧
        (s.enabled (.stream i .segmentTruncated) = true → EventPair.stream i .segmentTruncated ∈ t.report.events) ∧
        ∀ b, (s.stream i).openBlock = some b → (s.stream i).loss = none →
          (t.stream i).openBlock = none ∧ (t.stream i).sendQueue = (s.stream i).sendQueue ++ [b.slot] ∧
          (t.stream i).counts.closed = (s.stream i).counts.closed + 1) ∧
      (∀ i, ((s.stream i).cfg.source.val ≠ source.toNat ∨ (s.stream i).phase = .idle ∨
          ∃ a, (s.stream i).phase = .closing a) → t.stream i = s.stream i) ∧
      t.counters = s.counters ∧
      t = { s with streams := t.streams, groups := t.groups, ops := t.ops, spill := t.spill, report := t.report }) ∧
  ∀ (s : State) (i : StreamId) (source : Byte) (segment : BitVec 32) (t0 : BitVec 64) (period : BitVec 32),
    s.receiver.inSync = true → source.toNat < 32 → (∀ j, (s.stream j).cfg.source.val = source.toNat ↔ j = i) →
    (s.stream i).phase = .running .inSegment →
    exec (.segmentStart source segment t0 period) s =
      exec (.segmentStart source segment t0 period) (s.endSegment i true none) ∧
    ∀ b, (s.stream i).openBlock = some b → (s.stream i).loss = none → MemoryCanonical s →
      headerLength b.gap + b.payload.length + 4 ≤ 65536 →
      ∃ t, exec (.segmentStart source segment t0 period) s = .next t ∧
        imageFlags (t.storedBytes b.slot 64) = (b.header.flags ||| Flag.when (s.stream i).window.isSome Flag.partialLast |||
          Flag.endOfSegment ||| Flag.truncated) ∧
        SameOutside b.slot s.spill.dram t.spill.dram

/-- SEGMENT_START at a stream armed by START GROUP, alone on its source, against S*: absent, it is set and the stream enters
RUNNING; equal, the stream enters RUNNING; above, it enters RUNNING with LATE_START; below, it stays ARMED. -/
def Obligations.GroupAlignmentFollowsTheStartSegment : Prop :=
  ∀ (s : State) (i : StreamId) (source : Byte) (segment : BitVec 32) (t0 : BitVec 64) (period : BitVec 32),
    s.receiver.inSync = true → source.toNat < 32 → (∀ j, (s.stream j).cfg.source.val = source.toNat ↔ j = i) →
    (s.stream i).phase = .armed .group →
    ∃ t, exec (.segmentStart source segment t0 period) s = .next t ∧
      (∀ first, (s.group (s.stream i).cfg.group).startSegment = some first → segment < first → t = s) ∧
      (∀ first, (s.group (s.stream i).cfg.group).startSegment = some first → first ≤ segment →
        (t.stream i).phase = .running .inSegment ∧ (t.stream i).segment = segment ∧
        ((t.stream i).lateStart = true ↔ first ≠ segment) ∧
        (t.group (s.stream i).cfg.group).startSegment = some first) ∧
      ((s.group (s.stream i).cfg.group).startSegment = none →
        (t.stream i).phase = .running .inSegment ∧ (t.stream i).segment = segment ∧ (t.stream i).lateStart = false ∧
        (t.group (s.stream i).cfg.group).startSegment = some segment)

/-- SEGMENT_END without a tail, at a stream of the frame's segment: the segment ends, the window is emptied, the open block
joins the send queue, the walker rests. A stream in another segment, or between segments, is as before, and the orphan
counter rises by one where there is such a stream on the source. At a stream alone on its source: without a tail the block
closes with END_OF_SEGMENT and no byte outside its slot changes; a tail up to the limit is dry-walked, and the segment ends
with what it counted as its TAIL record; a longer one ends it truncated, with SEGMENT_TRUNCATED raised. The dry walk of a
tail over a layout of one FIELD to a word counts each missing word accepted and lost, and leaves the window, the block and
(log entry 36) the expected word index, and the applied level, at input 0 too (log entry 39). What the block assembler does
then: nothing on a LOSSY stream; otherwise the TAIL record joins the open block where it has room and no section, the slot's
record then giving its header length (log entry 8); else it, or a WORD_GAP record with the tail's inputs added,
goes into a gap carrier, and where no slot can be had the stream enters LOSSY with it (without a would-be window yet, log
entry 9). The memory is in its canonical form, which every step keeps. -/
def Obligations.SegmentEndWithoutTailEndsTheSegment : Prop :=
  (∀ (s : State) (source : Byte) (segment : BitVec 32) (final : BitVec 48),
    s.receiver.inSync = true → source.toNat < 32 →
    (∀ i, (s.stream i).cfg.source.val = source.toNat → (s.stream i).phase = .running .inSegment →
      (s.stream i).segment = segment → final.toNat ≤ (s.stream i).walker.expected) →
    ∃ t, exec (.segmentEnd source segment final) s = .next t ∧
      (∀ i, (s.stream i).cfg.source.val = source.toNat → (s.stream i).phase = .running .inSegment →
        (s.stream i).segment = segment →
        (t.stream i).phase = .running .betweenSegments ∧ (t.stream i).window = none ∧ (t.stream i).resync = none ∧
        (t.stream i).walker = { (s.stream i).walker with stack := [] } ∧
        (t.stream i).inputIndex = (s.stream i).inputIndex ∧
        (t.stream i).counts.accepted = (s.stream i).counts.accepted ∧
        ∀ b, (s.stream i).openBlock = some b → (s.stream i).loss = none →
          (t.stream i).openBlock = none ∧ (t.stream i).sendQueue = (s.stream i).sendQueue ++ [b.slot]) ∧
      (∀ i, ¬ ((s.stream i).cfg.source.val = source.toNat ∧ (s.stream i).phase = .running .inSegment ∧
        (s.stream i).segment = segment) → t.stream i = s.stream i) ∧
      ((∃ i, (s.stream i).cfg.source.val = source.toNat ∧ ((s.stream i).phase = .running .betweenSegments ∨
          ((s.stream i).phase = .running .inSegment ∧ (s.stream i).segment ≠ segment))) →
        t.counters = { s.counters with orphans :=
          if s.counters.orphans = 0xFFFFFFFF#32 then 0xFFFFFFFF#32 else s.counters.orphans + 1 }) ∧
      ((∀ i, (s.stream i).cfg.source.val = source.toNat → (s.stream i).phase ≠ .running .betweenSegments ∧
          ((s.stream i).phase = .running .inSegment → (s.stream i).segment = segment)) →
        t.counters = s.counters) ∧
      t = { s with
        streams := t.streams, groups := t.groups, counters := t.counters, ops := t.ops, spill := t.spill
        report := t.report }) ∧
  (∀ (s : State) (i : StreamId) (source : Byte) (segment : BitVec 32) (final : BitVec 48) (x : Machine.Stream),
    s.receiver.inSync = true → source.toNat < 32 → (∀ j, (s.stream j).cfg.source.val = source.toNat ↔ j = i) →
    x = s.stream i → x.phase = .running .inSegment → x.segment = segment → MemoryCanonical s →
    (∀ b, (final.toNat ≤ x.walker.expected ∨ x.walker.expected + 1048576 < final.toNat) → x.openBlock = some b →
      x.loss = none → headerLength b.gap + b.payload.length + 4 ≤ 65536 →
      ∃ t, exec (.segmentEnd source segment final) s = .next t ∧
        imageFlags (t.storedBytes b.slot 64) = (b.header.flags ||| Flag.when x.window.isSome Flag.partialLast |||
          Flag.endOfSegment ||| Flag.when (decide (x.walker.expected < final.toNat)) Flag.truncated) ∧
        SameOutside b.slot s.spill.dram t.spill.dram) ∧
    (x.walker.expected + 1048576 < final.toNat → ∃ t, exec (.segmentEnd source segment final) s = .next t ∧
      (t.stream i).phase = .running .betweenSegments ∧ (t.stream i).counts.accepted = x.counts.accepted ∧
      (s.enabled (.stream i .segmentTruncated) = true → EventPair.stream i .segmentTruncated ∈ t.report.events)) ∧
    (x.walker.expected < final.toNat → final.toNat ≤ x.walker.expected + 1048576 →
      exec (.segmentEnd source segment final) s = .next
        (if ((s.dryWalk i final.toNat true).1.stream i).phase = .running .inSegment then
          (s.dryWalk i final.toNat true).1.endSegment i false (s.dryWalk i final.toNat true).2
        else (s.dryWalk i final.toNat true).1))) ∧
  (∀ (s : State) (i : StreamId) (limit n offset width : Nat) (x : Machine.Stream),
    x = s.stream i → x.phase = .running .inSegment → x.loss = none →
    (limit ≤ x.walker.position → s.dryWalk i limit true = (s, none)) ∧
    (limit = x.walker.position + n → 1 ≤ n → n ≤ 1048576 → x.inputIndex + n < 2 ^ 56 → x.resync = none →
      x.walker.stack = [] → x.walker.entry = x.cfg.layoutBase → s.layoutOp x.cfg.layoutBase = .field offset width true →
      s.layoutOp (x.cfg.layoutBase + 1) = .endCycle →
      s.dryWalk i limit true = ({ s with streams := s.streams.set i { x with
        walker := ⟨x.cfg.layoutBase + 1, [], limit, x.walker.expected⟩
        inputIndex := x.inputIndex + n
        counts := { x.counts with
          accepted := x.counts.accepted + BitVec.ofNat 64 n, lost := x.counts.lost + BitVec.ofNat 64 n } } },
        some ⟨x.inputIndex, n, inputTime x.anchor x.inputIndex⟩))) ∧
  (∀ (s t : State) (i : StreamId) (truncated : Bool) (tail : Option GapRecord) (x : Machine.Stream),
    x = s.stream i → x.loss = none → t = s.endSegmentBlock i truncated tail → MemoryCanonical s →
    (∀ b r, x.openBlock = some b → tail = some r → b.gap = none → b.points * b.header.mode.pointSize + 96 ≤ 65536 →
      t.stream i = { x with
        openBlock := none, interimTimer := .stopped, sendQueue := x.sendQueue ++ [b.slot]
        counts := { x.counts with closed := x.counts.closed + 1 } } ∧
      imageFlags (t.storedBytes b.slot 64) = (b.header.flags ||| Flag.endOfSegment |||
        Flag.when truncated Flag.truncated ||| Flag.gapSection) ∧
      t.spill.dram.readAll (b.slot * 65536 + 64) 32 = GapSection.bytes ⟨.tail, r⟩ ∧
      ∀ q, s.spill.slots.find b.slot = some q → t.spill.slots.find b.slot = some { q with
        place := .queued, length := some (96 + b.points * b.header.mode.pointSize), headLength := some 96 }) ∧
    (∀ b r slot rest, x.openBlock = some b → tail = some r →
      (b.gap ≠ none ∨ 65536 < b.points * b.header.mode.pointSize + 96) → s.spill.freeList = slot :: rest →
      x.occupancy < x.cfg.quota →
      (t.stream i).openBlock = none ∧ (t.stream i).sendQueue = x.sendQueue ++ [b.slot, slot] ∧
      (t.stream i).counts.closed = x.counts.closed + 2 ∧ (t.stream i).nextSeq = x.nextSeq + 1 ∧
      t.spill.freeList = rest ∧ t.spill.dram.readAll (slot * 65536 + 64) 32 = GapSection.bytes ⟨.tail, r⟩) ∧
    (∀ g : GapSection, x.openBlock = none →
      ((∃ a r, x.awaiting = some a ∧ tail = some r ∧ g = ⟨.wordGap, { a with count := a.count + r.count }⟩) ∨
        (∃ a, x.awaiting = some a ∧ tail = none ∧ g = ⟨.wordGap, a⟩) ∨
        (∃ r, x.awaiting = none ∧ tail = some r ∧ g = ⟨.tail, r⟩)) →
      (∀ slot rest, s.spill.freeList = slot :: rest → x.occupancy < x.cfg.quota →
        (t.stream i).openBlock = none ∧ (t.stream i).awaiting = none ∧ (t.stream i).occupancy = x.occupancy + 1 ∧
        (t.stream i).sendQueue = x.sendQueue ++ [slot] ∧ (t.stream i).counts.closed = x.counts.closed + 1 ∧
        (t.stream i).nextSeq = x.nextSeq + 1 ∧ t.spill.freeList = rest ∧
        (∃ q, t.spill.slots.find slot = some q ∧ q.place = .queued ∧ q.stream = i ∧ q.sequence = some x.nextSeq ∧
          q.length = some 96) ∧
        t.spill.dram.readAll (slot * 65536 + 64) 32 = g.bytes ∧
        (imageFlags (t.storedBytes slot 64)).getLsbD 4 = true ∧ (imageFlags (t.storedBytes slot 64)).getLsbD 8 = true ∧
        (imageFlags (t.storedBytes slot 64)).getLsbD 9 = truncated ∧ SameOutside slot s.spill.dram t.spill.dram) ∧
      ((s.spill.freeList = [] ∨ x.cfg.quota ≤ x.occupancy) →
        t = { s with
          streams := s.streams.set i { x with loss := some ⟨g.record, none, 0⟩, awaiting := none, window := none }
          report := raisedIn s.report (s.enabled (.stream i .lossBegin)) (.stream i .lossBegin) })) ∧
    (x.openBlock = none → x.awaiting = none → tail = none → t = s)) ∧
  ∀ (s : State) (i : StreamId) (truncated : Bool) (tail : Option GapRecord), (s.stream i).loss ≠ none →
    s.endSegmentBlock i truncated tail = s

/-- RESYNC: a stream in the frame's segment takes it as its anchor at once where the input index has reached its index, and
holds it otherwise; every other stream is as before. The orphan counter rises by one, saturating, exactly where some
RUNNING stream on the source cannot use the frame. -/
def Obligations.ResyncMovesOrHoldsTheAnchor : Prop :=
  ∀ (s : State) (source : Byte) (segment : BitVec 32) (index time : BitVec 64),
    s.receiver.inSync = true → source.toNat < 32 →
    ∃ t, exec (.resync source segment index time) s = .next t ∧
      (∀ i, t.stream i =
        if (s.stream i).cfg.source.val = source.toNat ∧ (s.stream i).phase = .running .inSegment ∧
            (s.stream i).segment = segment then
          if index.toNat ≤ (s.stream i).inputIndex then
            { s.stream i with
              anchor := (s.stream i).anchor.map fun a => ⟨index.toNat, time.toNat, a.period⟩, resync := none }
          else { s.stream i with resync := some ⟨index.toNat, time.toNat⟩ }
        else s.stream i) ∧
      ((∃ i, (s.stream i).cfg.source.val = source.toNat ∧ ((s.stream i).phase = .running .betweenSegments ∨
          ((s.stream i).phase = .running .inSegment ∧ (s.stream i).segment ≠ segment))) →
        t.counters = { s.counters with orphans :=
          if s.counters.orphans = 0xFFFFFFFF#32 then 0xFFFFFFFF#32 else s.counters.orphans + 1 }) ∧
      ((∀ i, (s.stream i).cfg.source.val = source.toNat → (s.stream i).phase ≠ .running .betweenSegments ∧
          ((s.stream i).phase = .running .inSegment → (s.stream i).segment = segment)) →
        t.counters = s.counters) ∧
      t = { s with streams := t.streams, counters := t.counters }

/-! ## Levels and losses -/

/-- A level is applied at a window boundary: where the published level is the applied one nothing happens; where it is not,
the open block, if there is one, joins the send queue with FACTOR_CHANGE in its stored header, the applied level becomes the
published level, and LEVEL_CHANGED is raised; no byte outside the block's slot changes, where its bytes lie within it. The
memory is in its canonical form, which every step keeps. The boundaries: an input handed over to a stream with an empty
window, or to a LOSSY one whose would-be window's count is 0, meets the level applied; an input that joins a window, or a
would-be window in progress, leaves the level. The published level is the lesser of the ordered level and the max level of
the stream's group. -/
def Obligations.LevelsApplyAtWindowBoundaries : Prop :=
  (∀ (s : State) (i : StreamId) (v : Int) (x : Machine.Stream), x = s.stream i →
    (x.loss = none → x.window = none → s.handInput i v = (s.applyLevel i).handInput i v) ∧
    (∀ r, x.loss = some r → r.seen = 0 → s.handInput i v = (s.applyLevel i).handInput i v ∧
      ∀ isTail tail, s.passInput i isTail tail = (s.applyLevel i).passInput i isTail tail) ∧
    (∀ w, x.loss = none → x.window = some w → ((s.handInput i v).stream i).level = x.level) ∧
    (∀ r, x.loss = some r → r.seen ≠ 0 → ((s.handInput i v).stream i).level = x.level)) ∧
  (∀ (s : State) (i : StreamId) (g : Machine.Group), g = s.group (s.stream i).cfg.group →
    (s.publishedFor i).val = min g.ordered.val g.maxLevel.val) ∧
  ∀ (s t : State) (i : StreamId), t = s.applyLevel i → MemoryCanonical s →
    ((s.stream i).level = s.publishedFor i → t = s) ∧
    ((s.stream i).level ≠ s.publishedFor i →
      t.report = raisedIn s.report (s.enabled (.stream i .levelChanged)) (.stream i .levelChanged) ∧
      (∀ j, j ≠ i → t.stream j = s.stream j) ∧
      ((s.stream i).openBlock = none →
        t = { s with
          streams := s.streams.set i { s.stream i with level := s.publishedFor i }, report := t.report }) ∧
      (∀ b, (s.stream i).openBlock = some b →
        t.stream i = { s.stream i with
          level := s.publishedFor i
          openBlock := none
          interimTimer := .stopped
          counts := { (s.stream i).counts with closed := (s.stream i).counts.closed + 1 }
          sendQueue := (s.stream i).sendQueue ++ [b.slot] } ∧
        imageFlags (t.storedBytes b.slot 64) = (b.header.flags ||| Flag.factorChange) ∧
        (headerLength b.gap + b.payload.length ≤ 65536 → SameOutside b.slot s.spill.dram t.spill.dram) ∧
        t = { s with streams := t.streams, ops := t.ops, spill := t.spill, report := t.report }))

/-- How a loss begins, goes on and ends at an input, at an applied level that is the published one. Begins: the first input
of a window, with no block open and no slot to be had, is counted lost and begins the loss record, behind an awaiting
record's inputs; LOSS_BEGIN is raised. Goes on: between boundaries an input is counted lost and no slot is asked for, and at
a boundary without a slot it begins a new would-be window, the count of whose inputs becomes 0 as it completes (log entry
9); an input passed in a dry walk is counted so too. Ends: at a boundary with a slot, LOSS_END is raised and a block
opens in it for the input, with the loss record as its NO_SLOT gap section; a window of one input is emitted at once. -/
def Obligations.LossBeginsGoesOnAndEnds : Prop :=
  ∀ (s t : State) (i : StreamId) (v : Int) (factor : Nat) (x : Machine.Stream),
    x = s.stream i → x.level = s.publishedFor i → factor = effectiveFactor x.cfg x.level → t = s.handInput i v →
    x.openBlock = none → x.window = none →
    (x.loss = none → (s.spill.freeList = [] ∨ x.cfg.quota ≤ x.occupancy) →
      t.stream i = { x with
        counts := { x.counts with lost := x.counts.lost + 1 }
        awaiting := none
        loss := some {
          record := match x.awaiting with
            | some a => { a with count := a.count + 1 }
            | none => ⟨x.inputIndex, 1, inputTime x.anchor x.inputIndex⟩
          factor := some factor
          seen := if factor ≤ 1 then 0 else 1 } } ∧
      t = { s with
        streams := t.streams
        report := raisedIn s.report (s.enabled (.stream i .lossBegin)) (.stream i .lossBegin) }) ∧
    (∀ r size, x.loss = some r → r.seen ≠ 0 → r.factor = some size →
      t = { s with streams := s.streams.set i { x with
        counts := { x.counts with lost := x.counts.lost + 1 }
        loss := some { r with
          record := { r.record with count := min (2 ^ 56) (r.record.count + 1) }
          seen := if size ≤ r.seen + 1 then 0 else r.seen + 1 } } }) ∧
    (∀ r, x.loss = some r → r.seen = 0 → (s.spill.freeList = [] ∨ x.cfg.quota ≤ x.occupancy) →
      t = { s with streams := s.streams.set i { x with
        counts := { x.counts with lost := x.counts.lost + 1 }
        loss := some {
          record := { r.record with count := min (2 ^ 56) (r.record.count + 1) }
          factor := some factor
          seen := if factor ≤ 1 then 0 else 1 } } }) ∧
    (∀ r isTail tail, x.loss = some r → (r.seen ≠ 0 ∨ s.spill.freeList = [] ∨ x.cfg.quota ≤ x.occupancy) →
      s.passInput i isTail tail = (t, tail)) ∧
    (∀ r slot rest, x.loss = some r → r.seen = 0 → s.spill.freeList = slot :: rest → x.occupancy < x.cfg.quota →
      factor = 1 → (∀ k, x.cfg.blockSize = .kib k → k = 0 ∨ 4 ≤ k) →
      (t.stream i).loss = none ∧ (t.stream i).window = none ∧
      (t.stream i).counts = { x.counts with points := x.counts.points + 1 } ∧
      (t.stream i).occupancy = x.occupancy + 1 ∧ t.spill.freeList = rest ∧
      (∃ b, (t.stream i).openBlock = some b ∧ b.slot = slot ∧ b.gap = some ⟨.noSlot, r.record⟩ ∧
        b.header.firstIndex = x.inputIndex ∧ b.header.sequence = x.nextSeq ∧ b.points = 1) ∧
      (s.enabled (.stream i .lossEnd) = true → EventPair.stream i .lossEnd ∈ t.report.events) ∧
      ∀ j, j ≠ i → t.stream j = s.stream j) ∧
    (∀ r slot rest, x.loss = some r → r.seen = 0 → s.spill.freeList = slot :: rest → x.occupancy < x.cfg.quota →
      2 ≤ factor →
      (t.stream i).loss = none ∧ (t.stream i).counts = x.counts ∧ (t.stream i).occupancy = x.occupancy + 1 ∧
      t.spill.freeList = rest ∧
      (∃ b, (t.stream i).openBlock = some b ∧ b.slot = slot ∧ b.gap = some ⟨.noSlot, r.record⟩ ∧
        b.header.firstIndex = x.inputIndex ∧ b.header.sequence = x.nextSeq ∧ b.points = 0) ∧
      (∃ w, (t.stream i).window = some w ∧ w.count = 1 ∧ w.size = factor ∧ w.firstIndex = x.inputIndex ∧
        w.firstValue = v) ∧
      (s.enabled (.stream i .lossEnd) = true → EventPair.stream i .lossEnd ∈ t.report.events) ∧
      ∀ j, j ≠ i → t.stream j = s.stream j)

/-! ## The archive link -/

/-- LINK_UP from DOWN, outside loopback: the link state becomes UP and LINK_UP is raised. In loopback, and where the link is
not DOWN, only the sync is noted. CREDIT of 1 to 64 while the link has sync, outside loopback: the credits become the lesser
of their sum and what the outstanding list leaves of 64. Nothing else changes. -/
def Obligations.LinkUpAndCreditOpenTheLink : Prop :=
  (∀ s : State,
    (s.settings.loopback = false → s.alt.linkState = .down →
      exec .linkUp s = .next { s with
        alt := { s.alt with archiveSync := true, linkState := .up }
        report := raisedIn s.report (s.settings.linkMask.getLsbD 0) (.link .linkUp) }) ∧
    ((s.settings.loopback = true ∨ s.alt.linkState ≠ .down) →
      exec .linkUp s = .next { s with alt := { s.alt with archiveSync := true } })) ∧
  ∀ (s : State) (k : Byte), s.alt.archiveSync = true → s.settings.loopback = false → 1 ≤ k.toNat → k.toNat ≤ 64 →
    exec (.credit k) s = .next { s with
      alt := { s.alt with credits := min (s.alt.credits + k.toNat) (64 - s.alt.outstanding.length) } }

/-- LINK_DOWN from UP or STALLED, outside loopback: the link is DOWN without credits, STAGED, SENDING and the outstanding
list are empty, the commit timer is stopped, and LINK_DOWN is raised. Where no block of an aborted run is among those it
returns, each returned block stands at the front of its stream's queue, in the order of the list, SENDING, STAGED, no slot
is freed and no byte of memory changes. Where some are, and no stream waits for an END slot, those without the mark return
so, and the slots of those with it join the free list in that order, a verify of one leaving the list; a stream that is
CLOSING with ABORTING set, whose block in SENDING is freed so, enters IDLE. The engine counters stay (log entry 6). In
loopback, and where the link is DOWN, only the loss of sync is noted. -/
def Obligations.LinkDownReturnsEveryBlock : Prop :=
  ∀ s : State,
    ((s.settings.loopback = true ∨ s.alt.linkState = .down) →
      exec .linkDown s = .next { s with alt := { s.alt with archiveSync := false } }) ∧
    (s.settings.loopback = false → s.alt.linkState ≠ .down → ∃ t, exec .linkDown s = .next t ∧
      t.alt = { s.alt with
        linkState := .down, archiveSync := false, credits := 0, outstanding := [], staged := none, sending := none
        commitTimer := .stopped } ∧
      t.layout = s.layout ∧ t.settings = s.settings ∧ t.receiver = s.receiver ∧ t.counters = s.counters ∧
      (s.settings.linkMask.getLsbD 1 = true → EventPair.link .linkDown ∈ t.report.events) ∧
      ((∀ n ∈ s.heldByLink, ∃ r, s.spill.slots.find n = some r ∧ r.aborted = false) →
        (∀ i, t.stream i = { s.stream i with
          sendQueue := (s.heldByLink.filter fun n => (s.spill.slots.find n).any fun r => r.stream == i) ++
            (s.stream i).sendQueue }) ∧
        t.spill.freeList = s.spill.freeList ∧ t.spill.endWaits = s.spill.endWaits ∧ t.spill.dram = s.spill.dram ∧
        t.groups = s.groups) ∧
      (s.heldByLink.Nodup → (∀ n ∈ s.heldByLink, Held s n) → s.spill.endWaits = [] →
        (s.spill.slots.map Prod.fst).Nodup → ReturnedFrom s t s.heldByLink s.spill.freeList ∧
        (∀ i, (∃ b r, s.alt.sending = some b ∧ s.spill.slots.find b.slot = some r ∧ r.aborted = true ∧ r.stream = i) →
          (s.stream i).phase = .closing true → (t.stream i).phase = .idle) ∧
        (∀ i, ((s.stream i).phase ≠ .closing true ∨ ∀ b r, s.alt.sending = some b →
          s.spill.slots.find b.slot = some r → r.aborted = true → r.stream ≠ i) →
          (t.stream i).phase = (s.stream i).phase) ∧
        ∀ i, (t.stream i).occupancy = (s.stream i).occupancy -
          (s.heldByLink.filter fun n => (s.spill.slots.find n).any fun r => r.stream == i && r.aborted).length))

/-- COMMIT of the entry at a position of the outstanding list: the entries up to it leave the list, the commit timer restarts
or, with an empty list, stops, and a STALLED link returns to UP. Where no stream waits for an END slot and the slots are
held, once each, the slots join the free list in order, each stream's occupancy falls by its slots, and its blocks
committed rise by its blocks without the aborted mark; no byte of memory changes. Of a single entry: where a stream waits
for an END slot, the slot goes to the one whose wait began first, whose END block opens and closes in it; a stream that is
CLOSING and whose last block this is enters IDLE (log entry 24), its CLOSE completing DONE, and so does a group-close that
waits for it alone, DONE or ABORTED; a verify of the slot completes GONE. -/
def Obligations.CommitFreesTheBlocksUpToItsSequence : Prop :=
  (∀ (s : State) (n : BitVec 32) (k : Nat) (gone : List Nat),
    s.alt.archiveSync = true → s.settings.loopback = false →
    (n - s.alt.oldest).toNat = k → k < s.alt.outstanding.length →
    gone = (s.alt.outstanding.take (k + 1)).map SentBlock.slot →
    ∃ t, exec (.commit n) s = .next t ∧
      t.alt = { s.alt with
        outstanding := s.alt.outstanding.drop (k + 1)
        commitTimer := if s.alt.outstanding.length = k + 1 then .stopped else .running s.alt.commitTimeout
        linkState := if s.alt.linkState = .stalled then .up else s.alt.linkState } ∧
      t.layout = s.layout ∧ t.settings = s.settings ∧ t.receiver = s.receiver ∧
      (gone.Nodup → (∀ a ∈ gone, Held s a) → s.spill.endWaits = [] → (s.spill.slots.map Prod.fst).Nodup →
        t.spill.freeList = s.spill.freeList ++ gone ∧ (∀ a ∈ gone, ¬ Held t a) ∧ t.spill.dram = s.spill.dram ∧
        (∀ i, (∀ a ∈ gone, ∀ r, s.spill.slots.find a = some r → r.stream ≠ i) → t.stream i = s.stream i) ∧
        (∀ i, (t.stream i).counts.committed = (s.stream i).counts.committed + BitVec.ofNat 32
          (gone.filter fun a => (s.spill.slots.find a).any fun r => r.stream == i && !r.aborted).length) ∧
        (∀ i, (t.stream i).occupancy = (s.stream i).occupancy -
          (gone.filter fun a => (s.spill.slots.find a).any fun r => r.stream == i).length) ∧
        t.report.events = s.report.events)) ∧
  ∀ (s : State) (n : BitVec 32) (slot : Nat) (sent : List SentBlock) (r : SlotRecord),
    s.alt.archiveSync = true → s.settings.loopback = false → s.alt.outstanding = ⟨n, slot⟩ :: sent →
    s.spill.slots.find slot = some r → ∃ t, exec (.commit n) s = .next t ∧ t.alt.outstanding = sent ∧
      (∀ j waits, s.spill.endWaits = j :: waits →
        t.spill.endWaits = waits ∧ t.spill.freeList = s.spill.freeList ∧
        (t.stream j).sendQueue = (s.stream j).sendQueue ++ [slot] ∧
        (t.stream j).counts.closed = (s.stream j).counts.closed + 1 ∧ (t.stream j).openBlock = none ∧
        (j ≠ r.stream → (t.stream j).occupancy = (s.stream j).occupancy + 1) ∧
        (∃ q, t.spill.slots.find slot = some q ∧ q.stream = j ∧ q.place = .queued ∧
          q.sequence = some (s.stream j).nextSeq) ∧
        SameOutside slot s.spill.dram t.spill.dram) ∧
      (s.spill.endWaits = [] → r.aborted = false → (s.stream r.stream).phase = .closing false →
        (s.stream r.stream).openBlock = none → (s.stream r.stream).counts.committed + 1 = (s.stream r.stream).nextSeq →
        (t.stream r.stream).phase = .idle ∧
        (∀ tag, s.ops = [⟨tag, true, .close r.stream, none⟩] → t.ops = [] ∧ t.report =
          admitted s.report fun mark => .completion tag .close .done mark 0 false false) ∧
        (∀ tag g members aborted, s.ops = [⟨tag, true, .groupClose g members [r.stream] aborted, none⟩] →
          r.stream ∈ members → t.ops = [] ∧ t.report = admitted s.report fun mark =>
            .completion tag .groupClose (if aborted = true then .aborted else .done) mark 0 false false)) ∧
      ((s.stream r.stream).phase = .closing false →
        (r.aborted = true ∨ (s.stream r.stream).counts.committed + 1 ≠ (s.stream r.stream).nextSeq) →
        (t.stream r.stream).phase = .closing false) ∧
      (s.spill.endWaits = [] → ∀ tag i reading, s.ops = [⟨tag, true, .verify i slot reading, none⟩] →
        t.ops = [] ∧ t.report = admitted s.report fun mark => .completion tag .verify .gone mark slot false false)

/-- REWIND to an entry of the outstanding list, or to the next link sequence: the outstanding list, SENDING and STAGED are
empty, the credits stay (within 64), the next link sequence stays, the commit timer stops, and a STALLED link returns to
UP. Where no stream waits for an END slot and the slots are held, once each: the entries below are committed, their slots
joining the free list in order; of the others, and the blocks in SENDING and STAGED, in that order, those without the
aborted mark stand at the fronts of their streams' queues, and the slots of those with it join the free list, a verify of
one leaving the list; a stream that is CLOSING with ABORTING set, whose block in SENDING is freed so, enters IDLE; no byte
of memory changes. -/
def Obligations.RewindEmptiesTheTransmitter : Prop :=
  ∀ (s : State) (n : BitVec 32), s.alt.archiveSync = true → s.settings.loopback = false →
    (n - s.alt.oldest).toNat ≤ s.alt.outstanding.length →
    ∃ t, exec (.rewind n) s = .next t ∧
      t.alt = { s.alt with
        outstanding := [], staged := none, sending := none, credits := min s.alt.credits 64, commitTimer := .stopped
        linkState := if s.alt.linkState = .stalled then .up else s.alt.linkState } ∧
      t.layout = s.layout ∧ t.settings = s.settings ∧ t.receiver = s.receiver ∧
      ∀ gone back : List Nat, gone = (s.alt.outstanding.map SentBlock.slot).take (n - s.alt.oldest).toNat →
        back = s.heldByLink.drop (n - s.alt.oldest).toNat → s.heldByLink.Nodup → (∀ a ∈ s.heldByLink, Held s a) →
        s.spill.endWaits = [] → (s.spill.slots.map Prod.fst).Nodup →
        ReturnedFrom s t back (s.spill.freeList ++ gone) ∧ (∀ a ∈ gone, ¬ Held t a) ∧
        (∀ b r, s.alt.sending = some b → s.spill.slots.find b.slot = some r → r.aborted = true →
          (s.stream r.stream).phase = .closing true → (t.stream r.stream).phase = .idle) ∧
        (∀ i, (t.stream i).counts.committed = (s.stream i).counts.committed + BitVec.ofNat 32
          (gone.filter fun a => (s.spill.slots.find a).any fun r => r.stream == i && !r.aborted).length)

/-- What the archive may not send: a frame of bad bytes, a CREDIT of 0 or above 64, a COMMIT of the next link sequence or
outside the window, a REWIND that is stale or outside it. Each is counted and raises LINK_PROTOCOL, and nothing else
changes; a stale COMMIT is ignored. -/
def Obligations.ProtocolViolationsAreCountedAndIgnored : Prop :=
  ∀ (s t : State), s.alt.archiveSync = true → s.settings.loopback = false →
    t = { s with
      counters := { s.counters with linkProtocol :=
        if s.counters.linkProtocol = 0xFFFFFFFF#32 then 0xFFFFFFFF#32 else s.counters.linkProtocol + 1 }
      report := raisedIn s.report (s.settings.linkMask.getLsbD 3) (.link .linkProtocol) } →
    (∀ bytes, decodeArchive bytes = none → exec (.protocolViolation bytes) s = .next t) ∧
    (∀ k : Byte, (k = 0 ∨ 64 < k.toNat) → exec (.credit k) s = .next t) ∧
    (∀ n : BitVec 32, s.alt.outstanding.length < (n - s.alt.oldest).toNat → 64 < (s.alt.oldest - n).toNat →
      exec (.commit n) s = .next t ∧ exec (.rewind n) s = .next t) ∧
    (∀ n : BitVec 32, (n - s.alt.oldest).toNat = s.alt.outstanding.length → exec (.commit n) s = .next t) ∧
    (∀ n : BitVec 32, s.alt.outstanding.length < (n - s.alt.oldest).toNat → (s.alt.oldest - n).toNat ≤ 64 →
      exec (.commit n) s = .next s ∧ exec (.rewind n) s = .next t)

/-! ## The transmitter -/

/-- ARBITER_GRANT: of the streams with a queued block, one of the highest class is granted: its front block stands in STAGED
with its read in flight. The pointer of that class follows the rotation: its current stream is granted, and its count rises
by one, while it has a queued block in the class and a count below its weight; otherwise the first stream of the class with
a queued block after the current one in number order, wrapping, or from stream 0 where the pointer is absent, is granted and
becomes current with a count of 1. The other classes' pointers stay. That a count stands unchanged while its stream's queue
is empty is the model's reading (log entry 25). -/
def Obligations.ArbiterGrantsTheHighestClass : Prop :=
  ∀ s : State, s.alt.staged = none → 0 < s.alt.credits →
    (s.settings.loopback = true ∨ s.alt.linkState ≠ .down) → (∃ i, (s.stream i).sendQueue ≠ []) →
    ∃ t i slot rest, exec .arbiterGrant s = .next t ∧
      (s.stream i).sendQueue = slot :: rest ∧
      (∀ j, (s.stream j).sendQueue ≠ [] → (s.stream j).cfg.priority ≤ (s.stream i).cfg.priority) ∧
      t.stream i = { s.stream i with sendQueue := rest } ∧ (∀ j, j ≠ i → t.stream j = s.stream j) ∧
      (t.alt.pointers.get (s.stream i).cfg.priority).current = some i ∧
      t.alt = { s.alt with staged := some ⟨slot, .reading, []⟩, pointers := t.alt.pointers } ∧
      (∀ c, c ≠ (s.stream i).cfg.priority → t.alt.pointers.get c = s.alt.pointers.get c) ∧
      (∀ j, (s.alt.pointers.get (s.stream i).cfg.priority).current = some j → (s.stream j).sendQueue ≠ [] →
        (s.stream j).cfg.priority = (s.stream i).cfg.priority →
        (s.alt.pointers.get (s.stream i).cfg.priority).grants < (s.stream j).cfg.weight →
        i = j ∧ (t.alt.pointers.get (s.stream i).cfg.priority).grants =
          (s.alt.pointers.get (s.stream i).cfg.priority).grants + 1) ∧
      ((∀ j, (s.alt.pointers.get (s.stream i).cfg.priority).current = some j → (s.stream j).sendQueue = [] ∨
          (s.stream j).cfg.priority ≠ (s.stream i).cfg.priority ∨
          (s.stream j).cfg.weight ≤ (s.alt.pointers.get (s.stream i).cfg.priority).grants) →
        t.alt.pointers.get (s.stream i).cfg.priority = ⟨some i, 1⟩ ∧
        (∀ j, (s.stream j).sendQueue ≠ [] → (s.stream j).cfg.priority = (s.stream i).cfg.priority →
          ((s.alt.pointers.get (s.stream i).cfg.priority).current = none → i ≤ j) ∧
          ∀ k, (s.alt.pointers.get (s.stream i).cfg.priority).current = some k →
            turnDistance k i ≤ turnDistance k j)) ∧
      t = { s with
        streams := t.streams, alt := t.alt, spill := { s.spill with slots := t.spill.slots } } ∧
      (∀ r, s.spill.slots.find slot = some r → t.spill.slots.find slot = some { r with place := .staged }) ∧
      (∀ a, a ≠ slot → t.spill.slots.find a = s.spill.slots.find a)

/-- STAGING_DONE, with the findings of its read as operands (log entry 5). A read that met no uncorrectable line: the corrected
lines are counted, the copy is ready and holds the block's bytes as stored, up to the length of the slot's record, and
nothing else changes. A read that met uncorrectable lines: every finding is counted, as the read ends (log entry 38),
DAMAGED_BLOCK is raised for the block's stream, and the copy is ready with the bytes as read (log entry 28) and DAMAGED set.
Where no header line was uncorrectable (the extent from the slot's record, log entry 8) its header CRC is recomputed and
checks; where one was, the header CRC stays as read. Line 0 is written back, so that it stands uncorrectable no more; the
other uncorrectable lines stand, and are met again by a later read. The memory is in its canonical form, which every step
keeps. -/
def Obligations.StagingReadsMakeTheCopyReady : Prop :=
  (∀ (s : State) (b : StagedBlock) (r : SlotRecord) (length : Nat) (checks : List LineCheck),
    s.alt.staged = some b → b.copy ≠ .ready → s.spill.slots.find b.slot = some r → r.length = some length →
    NoneStands s b.slot → FindingsFit checks (lineCount length) →
    (uncorrectableIn checks = 0 →
      exec (.stagingDone checks) s = .next { s with
        counters := eccCounted s.counters checks
        alt := { s.alt with staged := some ⟨b.slot, .ready, s.spill.dram.readAll (b.slot * 65536) length⟩ } }) ∧
    (0 < uncorrectableIn checks → s.readsInFlight b.slot = 0 → 64 ≤ length → MemoryCanonical s →
      ∃ t copy, exec (.stagingDone checks) s = .next t ∧
        t.alt = { s.alt with staged := some ⟨b.slot, .ready, copy⟩ } ∧ copy.length = length ∧
        (∀ a < length, (a < 14 ∨ 16 ≤ a) → (a < 60 ∨ 64 ≤ a) → ByteAsRead s b.slot checks a (byteAt copy a)) ∧
        (∀ low high, ByteAsRead s b.slot checks 14 low → ByteAsRead s b.slot checks 15 high →
          imageFlags copy = ((high ++ low) ||| Flag.damaged)) ∧
        ((∀ c ∈ checks, c.line < s.headerLines b.slot → c.finding = .corrected) →
          imageHeaderCrc copy = storedHeaderCrc copy) ∧
        (∀ c ∈ checks, c.line < s.headerLines b.slot → c.finding ≠ .corrected →
          ∀ a, 60 ≤ a → a < 64 → ByteAsRead s b.slot checks a (byteAt copy a)) ∧
        t.spill.dram.readAll (b.slot * 65536) 64 = copy.take 64 ∧
        (∀ a, (a < b.slot * 65536 ∨ b.slot * 65536 + 64 ≤ a) → t.spill.dram.read a = s.spill.dram.read a) ∧
        StandAfter s t b.slot checks 1 ∧
        t = { s with
          counters := eccCounted s.counters checks
          alt := t.alt
          spill := { s.spill with dram := t.spill.dram, badLines := t.spill.badLines }
          report := raisedIn s.report (s.enabled (.stream r.stream .damagedBlock)) (.stream r.stream .damagedBlock) })) ∧
  ∀ (s u : State) (b : StagedBlock) (r : SlotRecord) (length line : Nat) (flips : BitVec 512) (rest : List (Nat × BitVec 512)),
    s.alt.staged = some b → b.copy ≠ .ready → s.spill.slots.find b.slot = some r → r.length = some length →
    line < lineCount length → line < 1024 → s.spill.badLines = (b.slot * 1024 + line, flips) :: rest →
    u = { s with spill := { s.spill with badLines := rest } } → NoneStands u b.slot →
    exec (.stagingDone []) s = exec (.stagingDone [⟨line, .uncorrectable flips⟩]) u

/-- MOVE_TO_SENDING of a ready copy, with SENDING empty, credits and a usable link: the block is in SENDING under the next
link sequence, which does not advance, and STAGED is empty. SEND_DONE: the block joins the outstanding list under its
frame's link sequence, the next link sequence rises by one, the credits fall by one, SENDING is empty, and the commit timer
starts where the list was empty. A stream that is CLOSING with ABORTING set enters IDLE. In loopback the frame joins those
the checker has to judge (log entry 23). -/
def Obligations.ReadyCopiesMoveAndSendsAppend : Prop :=
  (∀ (s : State) (b : StagedBlock) (r : SlotRecord),
    s.alt.staged = some b → b.copy = .ready → s.alt.sending = none → 0 < s.alt.credits →
    (s.settings.loopback = true ∨ s.alt.linkState ≠ .down) → s.spill.slots.find b.slot = some r →
    exec .moveToSending s = .next { s with
      spill := { s.spill with slots := s.spill.slots.put b.slot { r with place := .sending } }
      alt := { s.alt with staged := none, sending := some ⟨b.slot, s.alt.nextLink, b.bytes⟩ } }) ∧
  ∀ (s : State) (b : SendingBlock) (r : SlotRecord),
    s.alt.sending = some b → s.spill.slots.find b.slot = some r →
    ∃ t, exec .sendDone s = .next t ∧
      t.alt = { s.alt with
        outstanding := s.alt.outstanding ++ [⟨b.link, b.slot⟩]
        nextLink := s.alt.nextLink + 1
        credits := s.alt.credits - 1
        sending := none
        commitTimer := if s.alt.outstanding = [] then .running s.alt.commitTimeout else s.alt.commitTimer
        checking := if s.settings.loopback = true then s.alt.checking ++ [⟨b.link, b.bytes⟩] else s.alt.checking } ∧
      t.spill = { s.spill with slots := s.spill.slots.put b.slot { r with place := .outstanding } } ∧
      (∀ i, t.stream i =
        if i = r.stream ∧ (s.stream i).phase = .closing true then { s.stream i with phase := .idle }
        else s.stream i) ∧
      t = { s with
        streams := t.streams, alt := t.alt, spill := t.spill, ops := t.ops, report := t.report, own := t.own } ∧
      ((s.stream r.stream).phase ≠ .closing true → t.ops = s.ops ∧ t.report = s.report)

/-- CHECK_DONE: the frame at the head of the checker's list (log entry 23) is judged by header, payload and continuity: a
failure is counted and raises CHECK_FAIL, and a header that checks gives the checker's record of its stream. The frame
leaves the list, and its block, where it heads the outstanding list, is committed. The sequence expected is 0 where the
record is absent or of another run, and otherwise the recorded one plus 1; stream, run and sequence are those that the
block's header carries. A stream byte of 8 or above, read wrongly under a header CRC that checks, is taken modulo 8: the
model's choice (log entry 42). -/
def Obligations.CheckDoneJudgesAndCommits : Prop :=
  (∀ run : BitVec 8, State.expectedSequence none run = 0 ∧ ∀ c : CheckRecord,
    (c.run ≠ run → State.expectedSequence (some c) run = 0) ∧
    (c.run = run → State.expectedSequence (some c) run = c.sequence + 1)) ∧
  (∀ (h : BlockHeader) (gap : Option GapSection) (payload : List Byte),
    State.imageStream (blockImage h gap payload) = h.stream ∧ State.imageRun (blockImage h gap payload) = h.run ∧
    State.imageSequence (blockImage h gap payload) = h.sequence) ∧
  ∀ (s : State) (x : CheckItem) (rest : List CheckItem) (first : SentBlock) (sent : List SentBlock) (good : Bool),
    s.alt.checking = x :: rest → s.alt.outstanding = first :: sent → first.link = x.link →
    good = (decide (imageHeaderCrc x.bytes = storedHeaderCrc x.bytes) &&
      decide (imagePayloadCrc x.bytes = storedPayloadCrc x.bytes) &&
      decide (State.imageSequence x.bytes = State.expectedSequence
        (s.alt.checkRecords.get (State.imageStream x.bytes)) (State.imageRun x.bytes))) →
    ∃ t, exec .checkDone s = .next t ∧
      t.alt.checking = rest ∧ t.alt.outstanding = sent ∧
      t.alt.credits = min (s.alt.credits + 1) (64 - sent.length) ∧
      t.alt.checkRecords = (if imageHeaderCrc x.bytes = storedHeaderCrc x.bytes then
        s.alt.checkRecords.set (State.imageStream x.bytes)
          (some ⟨State.imageRun x.bytes, State.imageSequence x.bytes⟩)
        else s.alt.checkRecords) ∧
      t.alt.commitTimer = (if sent = [] then .stopped else .running s.alt.commitTimeout) ∧
      t.counters.checkFail = (if good = true ∨ s.counters.checkFail = 0xFFFFFFFF#32 then s.counters.checkFail
        else s.counters.checkFail + 1) ∧
      (good = false → s.settings.linkMask.getLsbD 4 = true → EventPair.link .checkFail ∈ t.report.events) ∧
      t.layout = s.layout ∧ t.settings = s.settings ∧ t.receiver = s.receiver

/-- VERIFY_READ_END, with the findings of its read as operands (log entry 5), which are counted as the read ends (log entry
38). Without an uncorrectable line, corrected lines being taken as corrected: MATCH where both CRCs of the block equal their
stored values, MISMATCH with what differed otherwise. With uncorrectable lines: DAMAGED, and each of them stands
uncorrectable with the same difference for later reads. The operation, wherever it stands in the list, leaves it with its
completion, the others staying in their order, and no byte of memory changes. -/
def Obligations.VerifyReadEndCompares : Prop :=
  ∀ (s : State) (tag : BitVec 16) (reply : Bool) (i : StreamId) (slot length : Nat) (r : SlotRecord)
    (before rest : List PendingOp) (image : List Byte) (checks : List LineCheck),
    s.ops = before ++ ⟨tag, reply, .verify i slot true, none⟩ :: rest → (∀ o ∈ before ++ rest, o.ended = none) →
    s.spill.slots.find slot = some r → r.length = some length → NoneStands s slot →
    FindingsFit checks (lineCount length) → image = s.spill.dram.readAll (slot * 65536) length →
    (uncorrectableIn checks = 0 →
      exec (.verifyReadEnd before.length checks) s = .next { s with
        ops := before ++ rest
        counters := eccCounted s.counters checks
        report :=
          if reply = true then admitted s.report fun mark =>
            if imageHeaderCrc image = storedHeaderCrc image ∧ imagePayloadCrc image = storedPayloadCrc image then
              .completion tag .verify .isMatch mark slot false false
            else .completion tag .verify .mismatch mark slot
              (decide (imageHeaderCrc image ≠ storedHeaderCrc image))
              (decide (imagePayloadCrc image ≠ storedPayloadCrc image))
          else s.report }) ∧
    (0 < uncorrectableIn checks →
      ∃ t, exec (.verifyReadEnd before.length checks) s = .next t ∧ StandAfter s t slot checks 0 ∧
        t = { s with
          ops := before ++ rest
          counters := eccCounted s.counters checks
          spill := { s.spill with badLines := t.spill.badLines }
          report :=
            if reply = true then admitted s.report fun mark => .completion tag .verify .damaged mark slot false false
            else s.report })

/-! ## Timers and reports -/

/-- INTERIM_TIMER_EXPIRY of the open block's timer, which has run out (the expiry is a command: log entry 2): a block that
holds no point has its timer started again; one that holds a point, with an empty window, joins the send queue; with a
window in progress, it does so too and the next block, or a loss, begins with the window's first input. The stored header
carries SHORT, and no byte of memory outside the block's slot, and the free list's head where the next block opens, changes.
With time left on the timer, as where another block has opened since, the expiry does not take place. The memory is in its
canonical form, which every step keeps. -/
def Obligations.InterimExpiryClosesOrRestarts : Prop :=
  (∀ (s : State) (i : StreamId) (n : Nat),
    (s.stream i).interimTimer = .running (n + 1) ∨ (s.stream i).interimTimer = .stopped →
    exec (.interimTimerExpiry i) s = .next s) ∧
  ∀ (s : State) (i : StreamId) (b : OpenBlock),
    (s.stream i).interimTimer = .running 0 → (s.stream i).openBlock = some b →
    (b.points = 0 → exec (.interimTimerExpiry i) s = .next { s with
      streams := s.streams.set i { s.stream i with interimTimer := .running (s.stream i).cfg.interim } }) ∧
    (1 ≤ b.points → ∃ t, exec (.interimTimerExpiry i) s = .next t ∧
      (t.stream i).sendQueue = (s.stream i).sendQueue ++ [b.slot] ∧
      (t.stream i).counts.closed = (s.stream i).counts.closed + 1 ∧
      ((s.stream i).window = none → (t.stream i).openBlock = none ∧ (t.stream i).interimTimer = .stopped) ∧
      (∀ w, (s.stream i).window = some w → (s.stream i).loss = none →
        (∃ c, (t.stream i).openBlock = some c ∧ c.header.firstIndex = w.firstIndex ∧ c.points = 0 ∧
          (t.stream i).window = some w ∧ (t.stream i).loss = none) ∨
        (∃ l, (t.stream i).loss = some l ∧ l.record.first = w.firstIndex ∧ l.record.count = w.count ∧
          (t.stream i).window = none ∧ (t.stream i).openBlock = none ∧
          (t.stream i).counts.lost = (s.stream i).counts.lost + BitVec.ofNat 64 w.count)) ∧
      (headerLength b.gap + b.payload.length ≤ 65536 →
        (MemoryCanonical s → ((s.stream i).window = none ∨ s.spill.freeList.head? ≠ some b.slot) →
          imageFlags (t.storedBytes b.slot 64) = (b.header.flags ||| Flag.short)) ∧
        (∀ a, ¬ InSlot b.slot a → ((s.stream i).window = none ∨ ∀ n, s.spill.freeList.head? = some n → ¬ InSlot n a) →
          t.spill.dram.read a = s.spill.dram.read a)) ∧
      (∀ j, j ≠ i → t.stream j = s.stream j) ∧
      t = { s with streams := t.streams, groups := t.groups, ops := t.ops, spill := t.spill, report := t.report })

/-- The expiries of a group's three timers and of the commit timer, where they have run out (the expiry is a command: log
entry 2). The over-timer steps the ordered level up while it is below the max level, the settle-timer steps it down while it
is above 0, each restarting while a further step is left; the hold-off timer stops and the group's condition starts the
timer it calls for. The condition: over where a RUNNING member is at or above its high mark; under where it is not over,
there is a RUNNING member, and every one is below its low mark; neither otherwise. As it is judged, the over-timer stops
where the group is not over, and starts where it is over, no hold-off runs, the timer is stopped and the ordered level is
below the max level; the settle-timer follows "under" and an ordered level above 0 likewise. It is judged as a slot is
allocated or freed, as a stream enters RUNNING and as it leaves it by CLOSE or ABORT. The commit timer stands expired; an UP link becomes STALLED, with LINK_STALLED raised, and a STALLED
one stays so. An expiry of a timer that has time left, as after an accepted COMMIT, or is stopped, does not take place. -/
def Obligations.TimerExpiriesStepTheLevelAndStallTheLink : Prop :=
  (∀ (s : State) (g : GroupId),
    ((s.group g).overTimer = .running 0 → (s.group g).ordered < (s.group g).maxLevel →
      ∃ level : Level, level.val = (s.group g).ordered.val + 1 ∧
        exec (.overTimerExpiry g) s = .next { s with groups := s.groups.set g { s.group g with
          ordered := level
          overTimer := if level < (s.group g).maxLevel then .running (s.group g).degradeWait else .stopped } }) ∧
    ((s.group g).overTimer = .running 0 → (s.group g).maxLevel ≤ (s.group g).ordered →
      exec (.overTimerExpiry g) s = .next { s with
        groups := s.groups.set g { s.group g with overTimer := .stopped } }) ∧
    ((s.group g).settleTimer = .running 0 → 0 < (s.group g).ordered →
      ∃ level : Level, level.val + 1 = (s.group g).ordered.val ∧
        exec (.settleTimerExpiry g) s = .next { s with groups := s.groups.set g { s.group g with
          ordered := level
          settleTimer := if 0 < level then .running (s.group g).settleTime else .stopped } }) ∧
    ((s.group g).holdOffTimer = .running 0 → (s.group g).overTimer = .stopped → (s.group g).settleTimer = .stopped →
      exec (.holdOffTimerExpiry g) s = .next { s with groups := s.groups.set g { s.group g with
        holdOffTimer := .stopped
        overTimer := if s.condition g = .over ∧ (s.group g).ordered < (s.group g).maxLevel then
          .running (s.group g).degradeWait else .stopped
        settleTimer := if s.condition g = .under ∧ 0 < (s.group g).ordered then
          .running (s.group g).settleTime else .stopped } }) ∧
    ∀ n, ((s.group g).overTimer = .running (n + 1) ∨ (s.group g).overTimer = .stopped →
        exec (.overTimerExpiry g) s = .next s) ∧
      ((s.group g).settleTimer = .running (n + 1) ∨ (s.group g).settleTimer = .stopped →
        exec (.settleTimerExpiry g) s = .next s) ∧
      ((s.group g).holdOffTimer = .running (n + 1) ∨ (s.group g).holdOffTimer = .stopped →
        exec (.holdOffTimerExpiry g) s = .next s)) ∧
  (∀ (s : State) (g : GroupId),
    (s.condition g = .over ↔ ∃ j sub, (s.stream j).cfg.group = g ∧ (s.stream j).phase = .running sub ∧
      (s.stream j).cfg.highMark ≤ (s.stream j).occupancy) ∧
    (s.condition g = .under ↔ s.condition g ≠ .over ∧
      (∃ j sub, (s.stream j).cfg.group = g ∧ (s.stream j).phase = .running sub) ∧
      ∀ j sub, (s.stream j).cfg.group = g → (s.stream j).phase = .running sub →
        (s.stream j).occupancy < (s.stream j).cfg.lowMark) ∧
    s.judge g = { s with groups := s.groups.set g { s.group g with
      overTimer :=
        if s.condition g ≠ .over then .stopped
        else if (s.group g).overTimer = .stopped ∧ (s.group g).holdOffTimer = .stopped ∧
          (s.group g).ordered < (s.group g).maxLevel then .running (s.group g).degradeWait
        else (s.group g).overTimer
      settleTimer :=
        if s.condition g ≠ .under then .stopped
        else if (s.group g).settleTimer = .stopped ∧ (s.group g).holdOffTimer = .stopped ∧ 0 < (s.group g).ordered then
          .running (s.group g).settleTime
        else (s.group g).settleTimer } }) ∧
  (∀ (s : State) (i : StreamId) (g : GroupId) (judged : State → State), g = (s.stream i).cfg.group →
    judged = (fun t => { t with groups := s.groups }.judge g) →
    (∀ (ordinary : Bool) slot t, s.allocate i ordinary = some (slot, t) →
      (t.stream i).occupancy = (s.stream i).occupancy + 1 ∧ t.groups = (judged t).groups) ∧
    (∀ slot r t, s.spill.slots.find slot = some r → r.stream = i → s.spill.endWaits = [] → t = s.freeSlot slot →
      (t.stream i).occupancy = (s.stream i).occupancy - 1 ∧ t.groups = (judged t).groups) ∧
    (∀ (source : Byte) segment t0 period, s.receiver.inSync = true → source.toNat < 32 →
      (∀ j, (s.stream j).cfg.source.val = source.toNat ↔ j = i) → (s.stream i).phase = .armed .alone →
      ∃ t, exec (.segmentStart source segment t0 period) s = .next t ∧ (t.stream i).phase = .running .inSegment ∧
        t.groups = (judged t).groups) ∧
    ∀ (d : Directive) sub, Carries s d 1 → byteAt d.params 0 = BitVec.ofNat 8 i.val → (s.stream i).phase = .running sub →
      (s.ops.length < 4 → ∃ t, exec (.closeStream d) s = .next t ∧ (t.stream i).phase = .closing false ∧
        t.groups = (judged t).groups) ∧
      ((∀ j ∈ s.spill.endWaits, j = i) → (∀ n ∈ s.abortedSlots i, ∃ r, s.spill.slots.find n = some r ∧ r.stream = i) →
        ∃ t, exec (.abortStream d) s = .next t ∧ (∀ p, (t.stream i).phase ≠ .running p) ∧
          t.groups = (judged t).groups)) ∧
  ∀ s : State,
    (s.alt.commitTimer = .running 0 → s.alt.linkState = .up → exec .commitTimerExpiry s = .next { s with
      alt := { s.alt with commitTimer := .expired, linkState := .stalled }
      report := raisedIn s.report (s.settings.linkMask.getLsbD 2) (.link .linkStalled) }) ∧
    (s.alt.commitTimer = .running 0 → s.alt.linkState ≠ .up → exec .commitTimerExpiry s = .next { s with
      alt := { s.alt with commitTimer := .expired } }) ∧
    ∀ n, (s.alt.commitTimer = .running (n + 1) ∨ s.alt.commitTimer = .stopped ∨ s.alt.commitTimer = .expired) →
      exec .commitTimerExpiry s = .next s

/-- The return lane serves the response FIFO before the event pending set, whose oldest pair it removes, with the snapshot
taken then; an answer leaves the FIFO when its frame has been sent in full. An answer offered to the FIFO is admitted with
the mark that the replies-dropped flag gives, clearing the flag, or dropped with the flag set where the FIFO holds 32
entries; and a raised event enters the pending set at the back exactly where its class is enabled and its pair is absent.
The items of an EVENT's snapshot are the model's reading (log entry 12), and the frames that have gone out stand in a list
of the model's own (log entry 13), both DESIGN CHOICES. -/
def Obligations.ReportsAreQueuedAndSentAnswersFirst : Prop :=
  (∀ s : State,
    (s.receiver.inSync = true → s.report.lane = none →
      (s.report.fifo ≠ [] →
        exec .reportSendBegin s = .next { s with report := { s.report with lane := some .head } }) ∧
      (∀ p rest, s.report.fifo = [] → s.report.events = p :: rest →
        exec .reportSendBegin s = .next { s with
          report := { s.report with events := rest, lane := some (.event p (s.eventSnapshot p)) } })) ∧
    (∀ e rest, s.report.lane = some .head → s.report.fifo = e :: rest →
      exec .reportSendDone s = .next { s with
        report := { s.report with fifo := rest, lane := none }
        own := { s.own with reportOut := s.own.reportOut ++ [⟨.answer e, .complete⟩] } }) ∧
    (∀ p snapshot, s.report.lane = some (.event p snapshot) →
      exec .reportSendDone s = .next { s with
        report := { s.report with lane := none }
        own := { s.own with reportOut := s.own.reportOut ++ [⟨.event p snapshot, .complete⟩] } })) ∧
  ∀ s : State,
    (∀ e : Answer, s.report.fifo.length < 32 →
      (s.offer e).report = { s.report with fifo := s.report.fifo ++ [e.marked s.report.dropped], dropped := false }) ∧
    (∀ e : Answer, 32 ≤ s.report.fifo.length → (s.offer e).report = { s.report with dropped := true }) ∧
    (∀ p : EventPair, s.raise p = { s with report := raisedIn s.report (s.enabled p) p })

/-! ## Arithmetic and formats -/

/-- The effective mode and factor of a window: the factor is the lesser of 65,536 and B × 4^L, with B = 1 for PASS; above
level 0 every mode but MEAN becomes ENVELOPE. The points of a window that one input begins and others join: the first value
for PASS and DECIMATE; the least and the greatest value for ENVELOPE; and for MEAN the mean of the values, halves rounded
upward, which lies between the least and the greatest. -/
def Obligations.PointsReduceTheirWindows : Prop :=
  (∀ (cfg : StreamConfig) (level : Level),
    (cfg.mode ≠ .pass → effectiveFactor cfg level = min 65536 (cfg.baseFactor * 4 ^ level.val)) ∧
    (cfg.mode = .pass → effectiveFactor cfg level = 4 ^ level.val) ∧
    effectiveMode cfg.mode 0 = cfg.mode ∧ effectiveMode .mean level = .mean ∧
    (level ≠ 0 → cfg.mode ≠ .mean → effectiveMode cfg.mode level = .envelope)) ∧
  ∀ (cfg : StreamConfig) (level : Level) (index : Nat) (v : Int) (vs : List Int) (w : Window),
    w = vs.foldl Window.add (Window.beginWith cfg level index v) →
    (w.mode = effectiveMode cfg.mode level ∧ w.size = effectiveFactor cfg level ∧ w.firstIndex = index ∧
      w.count = vs.length + 1) ∧
    ((w.mode = .pass ∨ w.mode = .decimate) → w.point = [v]) ∧
    (w.mode = .envelope → ∃ a b, w.point = [a, b] ∧ a ∈ v :: vs ∧ b ∈ v :: vs ∧ ∀ x ∈ v :: vs, a ≤ x ∧ x ≤ b) ∧
    (w.mode = .mean → ∃ m, w.point = [m] ∧
      2 * ((v :: vs).sum - m * (vs.length + 1)) < vs.length + 1 ∧
      -(vs.length + 1 : Int) ≤ 2 * ((v :: vs).sum - m * (vs.length + 1)) ∧
      ∃ a ∈ v :: vs, ∃ b ∈ v :: vs, a ≤ m ∧ m ≤ b)

/-- Start times: the exact time of the block's first input, T_a + floor((n − n_a) × P / 1000), brought inside 64 bits, and
never below the previous start time; the block's two time flags say whether it was brought inside and whether it was
raised. As the block opens, it stands as the stream's open block, the previous start time takes its start time, the next
sequence rises by one, the interim timer starts where the block is timed and the interim flush is on, and TIME_CLAMPED is
raised exactly where the start time was raised; no other stream changes. That the run has given a sequence is noted in a
field of the model's own (log entry 33). -/
def Obligations.StartTimesAreExactSaturatedAndMonotonic : Prop :=
  (∀ (x : Machine.Stream) (i : StreamId) (slot n : Nat) (gap : Option GapSection) (a : Anchor) (t : Int),
    x.anchor = some a → t = a.time + (((n : Int) - a.index) * a.period) / 1000 →
    (State.newBlock x i slot gap n).header.startTime =
      max (x.prevStart.getD 0) (max 0 (min t (2 ^ 64 - 1))).toNat ∧
    ((State.newBlock x i slot gap n).header.flags.getLsbD 2 = true ↔ (t < 0 ∨ 2 ^ 64 ≤ t)) ∧
    ((State.newBlock x i slot gap n).header.flags.getLsbD 3 = true ↔
      ∃ p, x.prevStart = some p ∧ (max 0 (min t (2 ^ 64 - 1))).toNat < p) ∧
    ((State.newBlock x i slot gap n).header.flags.getLsbD 4 = true ↔ gap ≠ none) ∧
    ((State.newBlock x i slot gap n).header.flags.getLsbD 0 = true ↔ x.firstMark = true) ∧
    ((State.newBlock x i slot gap n).header.flags.getLsbD 1 = true ↔ x.lateStart = true) ∧
    (State.newBlock x i slot gap n).header.sequence = x.nextSeq) ∧
  ∀ (s t : State) (i : StreamId) (slot n : Nat) (gap : Option GapSection) (timed : Bool) (x : Machine.Stream) (b : OpenBlock),
    x = s.stream i → b = State.newBlock x i slot gap n → t = s.openIn i slot gap n timed →
    t.stream i = { x with
      nextSeq := x.nextSeq + 1, gaveSeq := true, prevStart := some b.header.startTime
      firstMark := false, lateStart := false, openBlock := some b
      interimTimer := if timed = true ∧ x.cfg.interim ≠ 0 then .running x.cfg.interim else .stopped } ∧
    (∀ j, j ≠ i → t.stream j = s.stream j) ∧
    t.report = (if b.header.flags.getLsbD 3 = true then
      raisedIn s.report (s.enabled (.stream i .timeClamped)) (.stream i .timeClamped) else s.report) ∧
    (∀ p, x.prevStart = some p → p ≤ b.header.startTime) ∧
    t = { s with streams := t.streams, spill := t.spill, report := t.report }

/-- The target point count is floor((S − H) / p), with a size of 0 taken as 16 KiB and SEGMENT as a whole slot; and a block
that holds its target of points, whatever its size within the range, fits in its slot. -/
def Obligations.TargetPointCountsFitTheSlot : Prop :=
  (∀ (k header point : Nat), k ≠ 0 → targetCount (.kib k) header point = (k * 1024 - header) / point) ∧
  (∀ (header point : Nat), targetCount (.kib 0) header point = (16384 - header) / point ∧
    targetCount .segment header point = (65536 - header) / point) ∧
  (∀ (size : BlockSize) (header point : Nat), header ≤ 96 → (∀ k, size = .kib k → k ≤ 64) →
    header + targetCount size header point * point ≤ 65536) ∧
  targetCount (.kib 4) 64 2 = 2016 ∧ targetCount (.kib 16) 96 4 = 4072 ∧ targetCount .segment 64 2 = 32736

/-- A SKIP, whose count is 1 to 4,096, moves the word position forward by its count and yields no input; an END makes the layout base the next entry and
empties the stack, moves no word position and yields no input. What follows the entry at the last index of the walker's top
context: a FOREVER context is kept, a context with passes
left has one fewer, and the last pass pops it; any other entry is followed by the next index. A GROUP that is passed
through pushes its context, and one with a count of 0 is skipped. -/
def Obligations.WalkerRepeatsGroupBodies : Prop :=
  (∀ (s : State) (i : StreamId) (way : WalkOver) (tail : Option GapRecord) (x : Machine.Stream), x = s.stream i →
    (∀ k, s.layoutOp x.walker.entry = .skip k → s.execEntry i way tail = ({ s with
      streams := s.streams.set i { x with
        walker := { x.walker with position := x.walker.position + k }.stepPast } }, tail)) ∧
    (s.layoutOp x.walker.entry = .endCycle → s.execEntry i way tail = ({ s with
      streams := s.streams.set i { x with
        walker := { x.walker with entry := x.cfg.layoutBase, stack := [] } } }, tail))) ∧
  (∀ (bytes : List Byte) (e : LayoutEntry) (k : Nat), layoutEntryOf bytes = some e → e.op = .skip k →
    1 ≤ k ∧ k ≤ 4096) ∧
  (∀ (w : Walker) (c : LoopContext) (rest : List LoopContext), w.stack = c :: rest → w.entry = c.last →
    (c.forever = true → w.stepPast = { w with entry := c.first }) ∧
    (c.forever = false → 1 < c.remaining →
      w.stepPast = { w with entry := c.first, stack := { c with remaining := c.remaining - 1 } :: rest }) ∧
    (c.forever = false → c.remaining = 1 → w.stepPast = { w with entry := c.last + 1, stack := rest })) ∧
  (∀ w : Walker, (∀ c ∈ w.stack.head?, w.entry ≠ c.last) → w.stepPast = { w with entry := w.entry + 1 }) ∧
  (∀ (w : Walker) (count last : Nat) (forever : Bool), (forever = true ∨ 1 ≤ count) →
    w.enterGroup count forever last =
      { w with entry := w.entry + 1, stack := ⟨w.entry + 1, last, count, forever⟩ :: w.stack }) ∧
  (∀ (w : Walker) (last : Nat), w.enterGroup 0 false last = { w with entry := last + 1 })

/-- A block as it closes checks: the bytes that its close writes carry the header CRC of its header, gap section included,
and the payload CRC of its payload, and are as long as the record says, where the payload holds its points. -/
def Obligations.ClosedBlocksPassTheirCrcs : Prop :=
  ∀ (b c : OpenBlock) (flags : BitVec 16) (tail : Option GapSection) (image : List Byte),
    (b.header.flags.getLsbD 4 = true ↔ b.gap ≠ none) → flags.getLsbD 4 = false →
    c = State.closedBlock b flags tail → image = blockImage c.header c.gap c.payload →
    imageHeaderCrc image = storedHeaderCrc image ∧ imagePayloadCrc image = storedPayloadCrc image ∧
    (b.payload.length = b.points * b.header.mode.pointSize → image.length = State.blockLength c) ∧
    (c.gap = if tail.isSome then tail else b.gap)

/-! ## What every step keeps -/

/-- Credits and outstanding blocks together never exceed 64; and the outstanding list holds consecutive link sequences, the
last of them one below the next link sequence, which the frame in SENDING carries. -/
def Obligations.StepsKeepCreditsAndLinkSequences : Prop :=
  ∀ s t : State, step s = .next t →
    (CreditsBounded s → CreditsBounded t) ∧ (LinkSequenced s → LinkSequenced t)

/-- The bounds of the pending-operation list and the response FIFO, and the event pending set without repeats or disabled
classes; and the over-timer and the settle-timer of a group never both running, nor either beside its hold-off timer. -/
def Obligations.StepsKeepReportsAndTimersBounded : Prop :=
  ∀ s t : State, step s = .next t →
    (ReportsBounded s → ReportsBounded t) ∧ (TimersExclusive s → TimersExclusive t)

/-- The stacked DRAM keeps its canonical form, in which an unlisted byte reads as zero (the model's choice, log entry 4). -/
def Obligations.StepsKeepMemoryCanonical : Prop :=
  ∀ s t : State, MemoryCanonical s → step s = .next t → MemoryCanonical t

/-- Every stored setting stays inside its range. -/
def Obligations.StepsKeepSettingsInRange : Prop :=
  ∀ s t : State, SettingsInRange s → step s = .next t → SettingsInRange t

/-- Every slot stays in exactly one place, and occupancy counts a stream's slots; the number of slots on the free list is
therefore 65,536 less the sum of the occupancies. And, with that and the consistency of the block assemblers, a held slot
goes on standing where its record says: in its stream's open block or send queue, in STAGED, in SENDING or on the
outstanding list, and in no other. -/
def Obligations.StepsKeepSlotsPartitioned : Prop :=
  (∀ s t : State, SlotsPartitioned s → step s = .next t → SlotsPartitioned t) ∧
  (∀ s t : State, SlotsPartitioned s → AssemblersConsistent s → PlacesAgree s → step s = .next t → PlacesAgree t) ∧
  ∀ s : State, SlotsPartitioned s →
    s.spill.freeList.length + (streamIds.map fun i => (s.stream i).occupancy).sum = 65536

/-- Windows, open blocks, losses and END-slot waits stay consistent. -/
def Obligations.StepsKeepAssemblersConsistent : Prop :=
  ∀ s t : State, AssemblersConsistent s → step s = .next t → AssemblersConsistent t

/-- The state after reset meets every one of these conditions. -/
def Obligations.ResetStateMeetsEveryCondition : Prop :=
  CreditsBounded State.reset ∧ LinkSequenced State.reset ∧ ReportsBounded State.reset ∧ MemoryCanonical State.reset ∧
    TimersExclusive State.reset ∧ SettingsInRange State.reset ∧ SlotsPartitioned State.reset ∧
    AssemblersConsistent State.reset ∧ PlacesAgree State.reset

/-- Configuration is written by its own directive and by power-on alone: stream configurations by CONFIGURE STREAM, group
settings by CONFIGURE GROUP, the layout table by WRITE LAYOUT, the engine settings by SET ENGINE, the commit timeout by SET
LINK. The engine counters never fall but by power-on, RESET ENGINE and CLEAR COUNTS. -/
def Obligations.SettingsAndCountersChangeByTheirCommandsAlone : Prop :=
  ∀ (c : Instr) (s t : State), exec c s = .next t → c ≠ .powerOn →
    ((∀ d, c ≠ .configureStream d) → ∀ i, (t.stream i).cfg = (s.stream i).cfg) ∧
    ((∀ d, c ≠ .configureGroup d) → ∀ g, groupSettings (t.group g) = groupSettings (s.group g)) ∧
    ((∀ d, c ≠ .writeLayout d) → t.layout = s.layout) ∧
    ((∀ d, c ≠ .setEngine d) → t.settings = s.settings) ∧
    ((∀ d, c ≠ .setLink d) → t.alt.commitTimeout = s.alt.commitTimeout) ∧
    ((∀ d, c ≠ .resetEngine d) → (∀ d, c ≠ .clearCounts d) → CountersAtMost s.counters t.counters)

end
end

