-- ==== Sys2Proof/Laws/State.lean ====
section
/-! SUPPORT. What each setter of the state does to each field, and what a read of a stream, a group or the layout table gives
after each; two states that agree on every stream or group. -/

namespace Sys2Proof.Machine.State

variable (s : State)

/-! ## setStream -/

@[simp] theorem setStream_streams (i : StreamId) (x : Stream) : (s.setStream i x).streams = s.streams.set i x := rfl
@[simp] theorem setStream_groups (i : StreamId) (x : Stream) : (s.setStream i x).groups = s.groups := rfl
@[simp] theorem setStream_layout (i : StreamId) (x : Stream) : (s.setStream i x).layout = s.layout := rfl
@[simp] theorem setStream_receiver (i : StreamId) (x : Stream) : (s.setStream i x).receiver = s.receiver := rfl
@[simp] theorem setStream_counters (i : StreamId) (x : Stream) : (s.setStream i x).counters = s.counters := rfl
@[simp] theorem setStream_settings (i : StreamId) (x : Stream) : (s.setStream i x).settings = s.settings := rfl
@[simp] theorem setStream_ops (i : StreamId) (x : Stream) : (s.setStream i x).ops = s.ops := rfl
@[simp] theorem setStream_spill (i : StreamId) (x : Stream) : (s.setStream i x).spill = s.spill := rfl
@[simp] theorem setStream_alt (i : StreamId) (x : Stream) : (s.setStream i x).alt = s.alt := rfl
@[simp] theorem setStream_report (i : StreamId) (x : Stream) : (s.setStream i x).report = s.report := rfl
@[simp] theorem setStream_own (i : StreamId) (x : Stream) : (s.setStream i x).own = s.own := rfl
@[simp] theorem setStream_pending (i : StreamId) (x : Stream) : (s.setStream i x).pending = s.pending := rfl
@[simp] theorem setStream_group (i : StreamId) (x : Stream) (h : GroupId) : (s.setStream i x).group h = s.group h := rfl
@[simp] theorem setStream_layoutOp (i : StreamId) (x : Stream) (k : Nat) : (s.setStream i x).layoutOp k = s.layoutOp k := rfl
@[simp] theorem setStream_slotRecord (i : StreamId) (x : Stream) (k : Nat) : (s.setStream i x).slotRecord k = s.slotRecord k := rfl

/-! ## setGroup -/

@[simp] theorem setGroup_streams (g : GroupId) (x : Group) : (s.setGroup g x).streams = s.streams := rfl
@[simp] theorem setGroup_groups (g : GroupId) (x : Group) : (s.setGroup g x).groups = s.groups.set g x := rfl
@[simp] theorem setGroup_layout (g : GroupId) (x : Group) : (s.setGroup g x).layout = s.layout := rfl
@[simp] theorem setGroup_receiver (g : GroupId) (x : Group) : (s.setGroup g x).receiver = s.receiver := rfl
@[simp] theorem setGroup_counters (g : GroupId) (x : Group) : (s.setGroup g x).counters = s.counters := rfl
@[simp] theorem setGroup_settings (g : GroupId) (x : Group) : (s.setGroup g x).settings = s.settings := rfl
@[simp] theorem setGroup_ops (g : GroupId) (x : Group) : (s.setGroup g x).ops = s.ops := rfl
@[simp] theorem setGroup_spill (g : GroupId) (x : Group) : (s.setGroup g x).spill = s.spill := rfl
@[simp] theorem setGroup_alt (g : GroupId) (x : Group) : (s.setGroup g x).alt = s.alt := rfl
@[simp] theorem setGroup_report (g : GroupId) (x : Group) : (s.setGroup g x).report = s.report := rfl
@[simp] theorem setGroup_own (g : GroupId) (x : Group) : (s.setGroup g x).own = s.own := rfl
@[simp] theorem setGroup_pending (g : GroupId) (x : Group) : (s.setGroup g x).pending = s.pending := rfl
@[simp] theorem setGroup_stream (g : GroupId) (x : Group) (j : StreamId) : (s.setGroup g x).stream j = s.stream j := rfl
@[simp] theorem setGroup_layoutOp (g : GroupId) (x : Group) (k : Nat) : (s.setGroup g x).layoutOp k = s.layoutOp k := rfl
@[simp] theorem setGroup_slotRecord (g : GroupId) (x : Group) (k : Nat) : (s.setGroup g x).slotRecord k = s.slotRecord k := rfl
@[simp] theorem setGroup_enabled (g : GroupId) (x : Group) (p : EventPair) : (s.setGroup g x).enabled p = s.enabled p := rfl

/-! ## setLayout -/

@[simp] theorem setLayout_streams (x : Vector LayoutEntry 512) : (s.setLayout x).streams = s.streams := rfl
@[simp] theorem setLayout_groups (x : Vector LayoutEntry 512) : (s.setLayout x).groups = s.groups := rfl
@[simp] theorem setLayout_layout (x : Vector LayoutEntry 512) : (s.setLayout x).layout = x := rfl
@[simp] theorem setLayout_receiver (x : Vector LayoutEntry 512) : (s.setLayout x).receiver = s.receiver := rfl
@[simp] theorem setLayout_counters (x : Vector LayoutEntry 512) : (s.setLayout x).counters = s.counters := rfl
@[simp] theorem setLayout_settings (x : Vector LayoutEntry 512) : (s.setLayout x).settings = s.settings := rfl
@[simp] theorem setLayout_ops (x : Vector LayoutEntry 512) : (s.setLayout x).ops = s.ops := rfl
@[simp] theorem setLayout_spill (x : Vector LayoutEntry 512) : (s.setLayout x).spill = s.spill := rfl
@[simp] theorem setLayout_alt (x : Vector LayoutEntry 512) : (s.setLayout x).alt = s.alt := rfl
@[simp] theorem setLayout_report (x : Vector LayoutEntry 512) : (s.setLayout x).report = s.report := rfl
@[simp] theorem setLayout_own (x : Vector LayoutEntry 512) : (s.setLayout x).own = s.own := rfl
@[simp] theorem setLayout_pending (x : Vector LayoutEntry 512) : (s.setLayout x).pending = s.pending := rfl
@[simp] theorem setLayout_stream (x : Vector LayoutEntry 512) (j : StreamId) : (s.setLayout x).stream j = s.stream j := rfl
@[simp] theorem setLayout_group (x : Vector LayoutEntry 512) (h : GroupId) : (s.setLayout x).group h = s.group h := rfl
@[simp] theorem setLayout_slotRecord (x : Vector LayoutEntry 512) (k : Nat) : (s.setLayout x).slotRecord k = s.slotRecord k := rfl
@[simp] theorem setLayout_enabled (x : Vector LayoutEntry 512) (p : EventPair) : (s.setLayout x).enabled p = s.enabled p := rfl

/-! ## setReceiver -/

@[simp] theorem setReceiver_streams (x : Receiver) : (s.setReceiver x).streams = s.streams := rfl
@[simp] theorem setReceiver_groups (x : Receiver) : (s.setReceiver x).groups = s.groups := rfl
@[simp] theorem setReceiver_layout (x : Receiver) : (s.setReceiver x).layout = s.layout := rfl
@[simp] theorem setReceiver_receiver (x : Receiver) : (s.setReceiver x).receiver = x := rfl
@[simp] theorem setReceiver_counters (x : Receiver) : (s.setReceiver x).counters = s.counters := rfl
@[simp] theorem setReceiver_settings (x : Receiver) : (s.setReceiver x).settings = s.settings := rfl
@[simp] theorem setReceiver_ops (x : Receiver) : (s.setReceiver x).ops = s.ops := rfl
@[simp] theorem setReceiver_spill (x : Receiver) : (s.setReceiver x).spill = s.spill := rfl
@[simp] theorem setReceiver_alt (x : Receiver) : (s.setReceiver x).alt = s.alt := rfl
@[simp] theorem setReceiver_report (x : Receiver) : (s.setReceiver x).report = s.report := rfl
@[simp] theorem setReceiver_own (x : Receiver) : (s.setReceiver x).own = s.own := rfl
@[simp] theorem setReceiver_pending (x : Receiver) : (s.setReceiver x).pending = s.pending := rfl
@[simp] theorem setReceiver_stream (x : Receiver) (j : StreamId) : (s.setReceiver x).stream j = s.stream j := rfl
@[simp] theorem setReceiver_group (x : Receiver) (h : GroupId) : (s.setReceiver x).group h = s.group h := rfl
@[simp] theorem setReceiver_layoutOp (x : Receiver) (k : Nat) : (s.setReceiver x).layoutOp k = s.layoutOp k := rfl
@[simp] theorem setReceiver_slotRecord (x : Receiver) (k : Nat) : (s.setReceiver x).slotRecord k = s.slotRecord k := rfl
@[simp] theorem setReceiver_enabled (x : Receiver) (p : EventPair) : (s.setReceiver x).enabled p = s.enabled p := rfl

/-! ## setCounters -/

@[simp] theorem setCounters_streams (x : EngineCounters) : (s.setCounters x).streams = s.streams := rfl
@[simp] theorem setCounters_groups (x : EngineCounters) : (s.setCounters x).groups = s.groups := rfl
@[simp] theorem setCounters_layout (x : EngineCounters) : (s.setCounters x).layout = s.layout := rfl
@[simp] theorem setCounters_receiver (x : EngineCounters) : (s.setCounters x).receiver = s.receiver := rfl
@[simp] theorem setCounters_counters (x : EngineCounters) : (s.setCounters x).counters = x := rfl
@[simp] theorem setCounters_settings (x : EngineCounters) : (s.setCounters x).settings = s.settings := rfl
@[simp] theorem setCounters_ops (x : EngineCounters) : (s.setCounters x).ops = s.ops := rfl
@[simp] theorem setCounters_spill (x : EngineCounters) : (s.setCounters x).spill = s.spill := rfl
@[simp] theorem setCounters_alt (x : EngineCounters) : (s.setCounters x).alt = s.alt := rfl
@[simp] theorem setCounters_report (x : EngineCounters) : (s.setCounters x).report = s.report := rfl
@[simp] theorem setCounters_own (x : EngineCounters) : (s.setCounters x).own = s.own := rfl
@[simp] theorem setCounters_pending (x : EngineCounters) : (s.setCounters x).pending = s.pending := rfl
@[simp] theorem setCounters_stream (x : EngineCounters) (j : StreamId) : (s.setCounters x).stream j = s.stream j := rfl
@[simp] theorem setCounters_group (x : EngineCounters) (h : GroupId) : (s.setCounters x).group h = s.group h := rfl
@[simp] theorem setCounters_layoutOp (x : EngineCounters) (k : Nat) : (s.setCounters x).layoutOp k = s.layoutOp k := rfl
@[simp] theorem setCounters_slotRecord (x : EngineCounters) (k : Nat) : (s.setCounters x).slotRecord k = s.slotRecord k := rfl
@[simp] theorem setCounters_enabled (x : EngineCounters) (p : EventPair) : (s.setCounters x).enabled p = s.enabled p := rfl

/-! ## setSettings -/

@[simp] theorem setSettings_streams (x : EngineSettings) : (s.setSettings x).streams = s.streams := rfl
@[simp] theorem setSettings_groups (x : EngineSettings) : (s.setSettings x).groups = s.groups := rfl
@[simp] theorem setSettings_layout (x : EngineSettings) : (s.setSettings x).layout = s.layout := rfl
@[simp] theorem setSettings_receiver (x : EngineSettings) : (s.setSettings x).receiver = s.receiver := rfl
@[simp] theorem setSettings_counters (x : EngineSettings) : (s.setSettings x).counters = s.counters := rfl
@[simp] theorem setSettings_settings (x : EngineSettings) : (s.setSettings x).settings = x := rfl
@[simp] theorem setSettings_ops (x : EngineSettings) : (s.setSettings x).ops = s.ops := rfl
@[simp] theorem setSettings_spill (x : EngineSettings) : (s.setSettings x).spill = s.spill := rfl
@[simp] theorem setSettings_alt (x : EngineSettings) : (s.setSettings x).alt = s.alt := rfl
@[simp] theorem setSettings_report (x : EngineSettings) : (s.setSettings x).report = s.report := rfl
@[simp] theorem setSettings_own (x : EngineSettings) : (s.setSettings x).own = s.own := rfl
@[simp] theorem setSettings_pending (x : EngineSettings) : (s.setSettings x).pending = s.pending := rfl
@[simp] theorem setSettings_stream (x : EngineSettings) (j : StreamId) : (s.setSettings x).stream j = s.stream j := rfl
@[simp] theorem setSettings_group (x : EngineSettings) (h : GroupId) : (s.setSettings x).group h = s.group h := rfl
@[simp] theorem setSettings_layoutOp (x : EngineSettings) (k : Nat) : (s.setSettings x).layoutOp k = s.layoutOp k := rfl
@[simp] theorem setSettings_slotRecord (x : EngineSettings) (k : Nat) : (s.setSettings x).slotRecord k = s.slotRecord k := rfl

/-! ## setOps -/

@[simp] theorem setOps_streams (x : List PendingOp) : (s.setOps x).streams = s.streams := rfl
@[simp] theorem setOps_groups (x : List PendingOp) : (s.setOps x).groups = s.groups := rfl
@[simp] theorem setOps_layout (x : List PendingOp) : (s.setOps x).layout = s.layout := rfl
@[simp] theorem setOps_receiver (x : List PendingOp) : (s.setOps x).receiver = s.receiver := rfl
@[simp] theorem setOps_counters (x : List PendingOp) : (s.setOps x).counters = s.counters := rfl
@[simp] theorem setOps_settings (x : List PendingOp) : (s.setOps x).settings = s.settings := rfl
@[simp] theorem setOps_ops (x : List PendingOp) : (s.setOps x).ops = x := rfl
@[simp] theorem setOps_spill (x : List PendingOp) : (s.setOps x).spill = s.spill := rfl
@[simp] theorem setOps_alt (x : List PendingOp) : (s.setOps x).alt = s.alt := rfl
@[simp] theorem setOps_report (x : List PendingOp) : (s.setOps x).report = s.report := rfl
@[simp] theorem setOps_own (x : List PendingOp) : (s.setOps x).own = s.own := rfl
@[simp] theorem setOps_pending (x : List PendingOp) : (s.setOps x).pending = s.pending := rfl
@[simp] theorem setOps_stream (x : List PendingOp) (j : StreamId) : (s.setOps x).stream j = s.stream j := rfl
@[simp] theorem setOps_group (x : List PendingOp) (h : GroupId) : (s.setOps x).group h = s.group h := rfl
@[simp] theorem setOps_layoutOp (x : List PendingOp) (k : Nat) : (s.setOps x).layoutOp k = s.layoutOp k := rfl
@[simp] theorem setOps_slotRecord (x : List PendingOp) (k : Nat) : (s.setOps x).slotRecord k = s.slotRecord k := rfl
@[simp] theorem setOps_enabled (x : List PendingOp) (p : EventPair) : (s.setOps x).enabled p = s.enabled p := rfl

/-! ## setSpill -/

@[simp] theorem setSpill_streams (x : Spill) : (s.setSpill x).streams = s.streams := rfl
@[simp] theorem setSpill_groups (x : Spill) : (s.setSpill x).groups = s.groups := rfl
@[simp] theorem setSpill_layout (x : Spill) : (s.setSpill x).layout = s.layout := rfl
@[simp] theorem setSpill_receiver (x : Spill) : (s.setSpill x).receiver = s.receiver := rfl
@[simp] theorem setSpill_counters (x : Spill) : (s.setSpill x).counters = s.counters := rfl
@[simp] theorem setSpill_settings (x : Spill) : (s.setSpill x).settings = s.settings := rfl
@[simp] theorem setSpill_ops (x : Spill) : (s.setSpill x).ops = s.ops := rfl
@[simp] theorem setSpill_spill (x : Spill) : (s.setSpill x).spill = x := rfl
@[simp] theorem setSpill_alt (x : Spill) : (s.setSpill x).alt = s.alt := rfl
@[simp] theorem setSpill_report (x : Spill) : (s.setSpill x).report = s.report := rfl
@[simp] theorem setSpill_own (x : Spill) : (s.setSpill x).own = s.own := rfl
@[simp] theorem setSpill_pending (x : Spill) : (s.setSpill x).pending = s.pending := rfl
@[simp] theorem setSpill_stream (x : Spill) (j : StreamId) : (s.setSpill x).stream j = s.stream j := rfl
@[simp] theorem setSpill_group (x : Spill) (h : GroupId) : (s.setSpill x).group h = s.group h := rfl
@[simp] theorem setSpill_layoutOp (x : Spill) (k : Nat) : (s.setSpill x).layoutOp k = s.layoutOp k := rfl
@[simp] theorem setSpill_enabled (x : Spill) (p : EventPair) : (s.setSpill x).enabled p = s.enabled p := rfl

/-! ## setAlt -/

@[simp] theorem setAlt_streams (x : Transmitter) : (s.setAlt x).streams = s.streams := rfl
@[simp] theorem setAlt_groups (x : Transmitter) : (s.setAlt x).groups = s.groups := rfl
@[simp] theorem setAlt_layout (x : Transmitter) : (s.setAlt x).layout = s.layout := rfl
@[simp] theorem setAlt_receiver (x : Transmitter) : (s.setAlt x).receiver = s.receiver := rfl
@[simp] theorem setAlt_counters (x : Transmitter) : (s.setAlt x).counters = s.counters := rfl
@[simp] theorem setAlt_settings (x : Transmitter) : (s.setAlt x).settings = s.settings := rfl
@[simp] theorem setAlt_ops (x : Transmitter) : (s.setAlt x).ops = s.ops := rfl
@[simp] theorem setAlt_spill (x : Transmitter) : (s.setAlt x).spill = s.spill := rfl
@[simp] theorem setAlt_alt (x : Transmitter) : (s.setAlt x).alt = x := rfl
@[simp] theorem setAlt_report (x : Transmitter) : (s.setAlt x).report = s.report := rfl
@[simp] theorem setAlt_own (x : Transmitter) : (s.setAlt x).own = s.own := rfl
@[simp] theorem setAlt_pending (x : Transmitter) : (s.setAlt x).pending = s.pending := rfl
@[simp] theorem setAlt_stream (x : Transmitter) (j : StreamId) : (s.setAlt x).stream j = s.stream j := rfl
@[simp] theorem setAlt_group (x : Transmitter) (h : GroupId) : (s.setAlt x).group h = s.group h := rfl
@[simp] theorem setAlt_layoutOp (x : Transmitter) (k : Nat) : (s.setAlt x).layoutOp k = s.layoutOp k := rfl
@[simp] theorem setAlt_slotRecord (x : Transmitter) (k : Nat) : (s.setAlt x).slotRecord k = s.slotRecord k := rfl
@[simp] theorem setAlt_enabled (x : Transmitter) (p : EventPair) : (s.setAlt x).enabled p = s.enabled p := rfl

/-! ## setReport -/

@[simp] theorem setReport_streams (x : ReportUnit) : (s.setReport x).streams = s.streams := rfl
@[simp] theorem setReport_groups (x : ReportUnit) : (s.setReport x).groups = s.groups := rfl
@[simp] theorem setReport_layout (x : ReportUnit) : (s.setReport x).layout = s.layout := rfl
@[simp] theorem setReport_receiver (x : ReportUnit) : (s.setReport x).receiver = s.receiver := rfl
@[simp] theorem setReport_counters (x : ReportUnit) : (s.setReport x).counters = s.counters := rfl
@[simp] theorem setReport_settings (x : ReportUnit) : (s.setReport x).settings = s.settings := rfl
@[simp] theorem setReport_ops (x : ReportUnit) : (s.setReport x).ops = s.ops := rfl
@[simp] theorem setReport_spill (x : ReportUnit) : (s.setReport x).spill = s.spill := rfl
@[simp] theorem setReport_alt (x : ReportUnit) : (s.setReport x).alt = s.alt := rfl
@[simp] theorem setReport_report (x : ReportUnit) : (s.setReport x).report = x := rfl
@[simp] theorem setReport_own (x : ReportUnit) : (s.setReport x).own = s.own := rfl
@[simp] theorem setReport_pending (x : ReportUnit) : (s.setReport x).pending = s.pending := rfl
@[simp] theorem setReport_stream (x : ReportUnit) (j : StreamId) : (s.setReport x).stream j = s.stream j := rfl
@[simp] theorem setReport_group (x : ReportUnit) (h : GroupId) : (s.setReport x).group h = s.group h := rfl
@[simp] theorem setReport_layoutOp (x : ReportUnit) (k : Nat) : (s.setReport x).layoutOp k = s.layoutOp k := rfl
@[simp] theorem setReport_slotRecord (x : ReportUnit) (k : Nat) : (s.setReport x).slotRecord k = s.slotRecord k := rfl
@[simp] theorem setReport_enabled (x : ReportUnit) (p : EventPair) : (s.setReport x).enabled p = s.enabled p := rfl

/-! ## setOwn -/

@[simp] theorem setOwn_streams (x : Own) : (s.setOwn x).streams = s.streams := rfl
@[simp] theorem setOwn_groups (x : Own) : (s.setOwn x).groups = s.groups := rfl
@[simp] theorem setOwn_layout (x : Own) : (s.setOwn x).layout = s.layout := rfl
@[simp] theorem setOwn_receiver (x : Own) : (s.setOwn x).receiver = s.receiver := rfl
@[simp] theorem setOwn_counters (x : Own) : (s.setOwn x).counters = s.counters := rfl
@[simp] theorem setOwn_settings (x : Own) : (s.setOwn x).settings = s.settings := rfl
@[simp] theorem setOwn_ops (x : Own) : (s.setOwn x).ops = s.ops := rfl
@[simp] theorem setOwn_spill (x : Own) : (s.setOwn x).spill = s.spill := rfl
@[simp] theorem setOwn_alt (x : Own) : (s.setOwn x).alt = s.alt := rfl
@[simp] theorem setOwn_report (x : Own) : (s.setOwn x).report = s.report := rfl
@[simp] theorem setOwn_own (x : Own) : (s.setOwn x).own = x := rfl
@[simp] theorem setOwn_pending (x : Own) : (s.setOwn x).pending = s.pending := rfl
@[simp] theorem setOwn_stream (x : Own) (j : StreamId) : (s.setOwn x).stream j = s.stream j := rfl
@[simp] theorem setOwn_group (x : Own) (h : GroupId) : (s.setOwn x).group h = s.group h := rfl
@[simp] theorem setOwn_layoutOp (x : Own) (k : Nat) : (s.setOwn x).layoutOp k = s.layoutOp k := rfl
@[simp] theorem setOwn_slotRecord (x : Own) (k : Nat) : (s.setOwn x).slotRecord k = s.slotRecord k := rfl
@[simp] theorem setOwn_enabled (x : Own) (p : EventPair) : (s.setOwn x).enabled p = s.enabled p := rfl

/-! ## Reads after a write of a stream or a group -/

theorem get_set {α : Type} {n : Nat} (v : Vector α n) (i j : Fin n) (x : α) :
    (v.set i x).get j = if j = i then x else v.get j := by
  show (v.set i x)[j.val] = if j = i then x else v[j.val]
  rw [Vector.getElem_set]
  by_cases h : j = i
  · simp [h]
  · rw [if_neg h, if_neg fun e => h (Fin.ext e.symm)]

theorem setStream_stream (i j : StreamId) (x : Stream) :
    (s.setStream i x).stream j = if j = i then x else s.stream j := get_set s.streams i j x

@[simp] theorem setStream_stream_self (i : StreamId) (x : Stream) : (s.setStream i x).stream i = x := by
  simp [setStream_stream]

theorem setStream_stream_other {i j : StreamId} (x : Stream) (h : j ≠ i) :
    (s.setStream i x).stream j = s.stream j := by
  simp [setStream_stream, h]

theorem setGroup_group (g h : GroupId) (x : Group) : (s.setGroup g x).group h = if h = g then x else s.group h :=
  get_set s.groups g h x

@[simp] theorem setGroup_group_self (g : GroupId) (x : Group) : (s.setGroup g x).group g = x := by
  simp [setGroup_group]

theorem setGroup_group_other {g h : GroupId} (x : Group) (hn : h ≠ g) : (s.setGroup g x).group h = s.group h := by
  simp [setGroup_group, hn]

/-! ## Writing what stands there, and writing twice -/

@[simp] theorem setStream_same (i : StreamId) : s.setStream i (s.stream i) = s := by
  simp [setStream, stream, Vector.get]

@[simp] theorem setStream_setStream (i : StreamId) (x y : Stream) : (s.setStream i x).setStream i y = s.setStream i y := by
  simp [setStream]

@[simp] theorem setGroup_same (g : GroupId) : s.setGroup g (s.group g) = s := by
  simp [setGroup, group, Vector.get]

@[simp] theorem setGroup_setGroup (g : GroupId) (x y : Group) : (s.setGroup g x).setGroup g y = s.setGroup g y := by
  simp [setGroup]

/-! ## States that agree on every stream, or on every group -/

theorem streams_ext {s t : State} (h : ∀ i, t.stream i = s.stream i) : t.streams = s.streams := by
  apply Vector.ext
  intro k hk
  exact h ⟨k, hk⟩

theorem groups_ext {s t : State} (h : ∀ g, t.group g = s.group g) : t.groups = s.groups := by
  apply Vector.ext
  intro k hk
  exact h ⟨k, hk⟩

theorem mem_streamIds (i : StreamId) : i ∈ streamIds := by
  revert i; decide

end Sys2Proof.Machine.State

namespace Sys2Proof.Machine

/-! ## Timers: what a tick leaves, and when a duration has run out -/

@[simp] theorem Timer.ranOut_stopped : Timer.stopped.ranOut = false := rfl
@[simp] theorem Timer.ranOut_running (n : Nat) : (Timer.running n).ranOut = (n == 0) := rfl
@[simp] theorem Timer.tick_stopped : Timer.stopped.tick = .stopped := rfl
@[simp] theorem Timer.tick_running (n : Nat) : (Timer.running n).tick = .running (n - 1) := rfl
@[simp] theorem CommitTimer.ranOut_stopped : CommitTimer.stopped.ranOut = false := rfl
@[simp] theorem CommitTimer.ranOut_expired : CommitTimer.expired.ranOut = false := rfl
@[simp] theorem CommitTimer.ranOut_running (n : Nat) : (CommitTimer.running n).ranOut = (n == 0) := rfl
@[simp] theorem CommitTimer.tick_stopped : CommitTimer.stopped.tick = .stopped := rfl
@[simp] theorem CommitTimer.tick_expired : CommitTimer.expired.tick = .expired := rfl
@[simp] theorem CommitTimer.tick_running (n : Nat) : (CommitTimer.running n).tick = .running (n - 1) := rfl

theorem Timer.ranOut_iff (t : Timer) : t.ranOut = true ↔ t = .running 0 := by
  cases t <;> simp

theorem CommitTimer.ranOut_iff (t : CommitTimer) : t.ranOut = true ↔ t = .running 0 := by
  cases t <;> simp

end Sys2Proof.Machine
end

