-- ==== Sys2Proof/Laws/Frames.lean ====
section
/-! SUPPORT. What the shared operations leave alone. `rest` gathers the seven fields that no operation of a stream's own
blocks touches; each operation keeps it, and keeps every other stream's context. -/

namespace Sys2Proof.Machine.State

/-- What the walker, the reduction unit, the block assembler and the run operations of a stream leave alone. -/
def rest (s : State) : Vector LayoutEntry 512 × Receiver × EngineCounters × EngineSettings × Transmitter × Own × List Instr :=
  (s.layout, s.receiver, s.counters, s.settings, s.alt, s.own, s.pending)

variable (s : State)

/-- Two states with the same `rest` differ in the streams, the groups, the operations, the spill buffer and the reports
alone. -/
theorem eq_of_rest {s t : State} (h : t.rest = s.rest) :
    t = { s with streams := t.streams, groups := t.groups, ops := t.ops, spill := t.spill, report := t.report } := by
  simp only [rest, Prod.mk.injEq] at h
  obtain ⟨h1, h2, h3, h4, h5, h6, h7⟩ := h
  cases s; cases t
  simp_all

/-! ## The setters -/

@[simp] theorem setStream_rest (i : StreamId) (x : Stream) : (s.setStream i x).rest = s.rest := rfl
@[simp] theorem setGroup_rest (g : GroupId) (x : Group) : (s.setGroup g x).rest = s.rest := rfl
@[simp] theorem setOps_rest (x : List PendingOp) : (s.setOps x).rest = s.rest := rfl
@[simp] theorem setSpill_rest (x : Spill) : (s.setSpill x).rest = s.rest := rfl
@[simp] theorem setReport_rest (x : ReportUnit) : (s.setReport x).rest = s.rest := rfl

/-! ## The operations -/

@[simp] theorem putRecord_rest (n : Nat) (r : SlotRecord) :
    (s.putRecord n r).rest = s.rest := rfl

@[simp] theorem putRecord_stream (n : Nat) (r : SlotRecord) (j : StreamId) :
    (s.putRecord n r).stream j = s.stream j := rfl

@[simp] theorem changeRecord_rest (n : Nat) (f : SlotRecord → SlotRecord) :
    (s.changeRecord n f).rest = s.rest := by
  simp only [changeRecord]
  repeat' split
  all_goals simp

@[simp] theorem changeRecord_stream (n : Nat) (f : SlotRecord → SlotRecord) (j : StreamId) :
    (s.changeRecord n f).stream j = s.stream j := by
  simp only [changeRecord]
  repeat' split
  all_goals simp

@[simp] theorem writeLines_rest (n l : Nat) (bs : List Byte) :
    (s.writeLines n l bs).rest = s.rest := rfl

@[simp] theorem writeLines_stream (n l : Nat) (bs : List Byte) (j : StreamId) :
    (s.writeLines n l bs).stream j = s.stream j := rfl

@[simp] theorem raise_rest (p : EventPair) :
    (s.raise p).rest = s.rest := by
  simp only [raise]
  repeat' split
  all_goals simp

@[simp] theorem raise_stream (p : EventPair) (j : StreamId) :
    (s.raise p).stream j = s.stream j := by
  simp only [raise]
  repeat' split
  all_goals simp

@[simp] theorem dropDisabled_rest (f : EventPair → Bool) :
    (s.dropDisabled f).rest = s.rest := rfl

@[simp] theorem dropDisabled_stream (f : EventPair → Bool) (j : StreamId) :
    (s.dropDisabled f).stream j = s.stream j := rfl

@[simp] theorem offer_rest (e : Answer) :
    (s.offer e).rest = s.rest := by
  simp only [offer]
  repeat' split
  all_goals simp

@[simp] theorem offer_stream (e : Answer) (j : StreamId) :
    (s.offer e).stream j = s.stream j := by
  simp only [offer]
  repeat' split
  all_goals simp

@[simp] theorem respond_rest (b : Bool) (c : Byte) (d : Directive) (r : Reply) :
    (s.respond b c d r).rest = s.rest := by
  simp only [respond]
  repeat' split
  all_goals simp

@[simp] theorem respond_stream (b : Bool) (c : Byte) (d : Directive) (r : Reply) (j : StreamId) :
    (s.respond b c d r).stream j = s.stream j := by
  simp only [respond]
  repeat' split
  all_goals simp

@[simp] theorem enterOp_rest (d : Directive) (k : OpKind) :
    (s.enterOp d k).rest = s.rest := rfl

@[simp] theorem enterOp_stream (d : Directive) (k : OpKind) (j : StreamId) :
    (s.enterOp d k).stream j = s.stream j := rfl

@[simp] theorem endOps_rest (p : OpKind → Bool) (e : OpEnd) :
    (s.endOps p e).rest = s.rest := rfl

@[simp] theorem endOps_stream (p : OpKind → Bool) (e : OpEnd) (j : StreamId) :
    (s.endOps p e).stream j = s.stream j := rfl

@[simp] theorem beginVerifies_rest (n : Nat) :
    (s.beginVerifies n).rest = s.rest := rfl

@[simp] theorem beginVerifies_stream (n : Nat) (j : StreamId) :
    (s.beginVerifies n).stream j = s.stream j := rfl

@[simp] theorem judge_rest (g : GroupId) :
    (s.judge g).rest = s.rest := rfl

@[simp] theorem judge_stream (g : GroupId) (j : StreamId) :
    (s.judge g).stream j = s.stream j := rfl

@[simp] theorem judgeFor_rest (i : StreamId) :
    (s.judgeFor i).rest = s.rest := rfl

@[simp] theorem judgeFor_stream (i : StreamId) (j : StreamId) :
    (s.judgeFor i).stream j = s.stream j := rfl

@[simp] theorem markAborted_rest (i : StreamId) :
    (s.markAborted i).rest = s.rest := rfl

@[simp] theorem markAborted_stream (i : StreamId) (j : StreamId) :
    (s.markAborted i).stream j = s.stream j := rfl

@[simp] theorem writeFilledLine_rest (b c : OpenBlock) :
    (s.writeFilledLine b c).rest = s.rest := by
  simp only [writeFilledLine]
  repeat' split
  all_goals simp

@[simp] theorem writeFilledLine_stream (b c : OpenBlock) (j : StreamId) :
    (s.writeFilledLine b c).stream j = s.stream j := by
  simp only [writeFilledLine]
  repeat' split
  all_goals simp

@[simp] theorem occupancyUp_rest (i : StreamId) :
    (s.occupancyUp i).rest = s.rest := rfl

@[simp] theorem occupancyUp_stream_other (i : StreamId) {j : StreamId} (h : j ≠ i) :
    (s.occupancyUp i).stream j = s.stream j := by simp [occupancyUp, setStream_stream_other, h]

@[simp] theorem occupancyDown_rest (i : StreamId) :
    (s.occupancyDown i).rest = s.rest := rfl

@[simp] theorem occupancyDown_stream_other (i : StreamId) {j : StreamId} (h : j ≠ i) :
    (s.occupancyDown i).stream j = s.stream j := by simp [occupancyDown, setStream_stream_other, h]

@[simp] theorem openIn_rest (i : StreamId) (n : Nat) (g : Option GapSection) (k : Nat) (b : Bool) :
    (s.openIn i n g k b).rest = s.rest := by
  simp only [openIn]
  repeat' split
  all_goals simp

@[simp] theorem openIn_stream_other (i : StreamId) (n : Nat) (g : Option GapSection) (k : Nat) (b : Bool) {j : StreamId} (h : j ≠ i) :
    (s.openIn i n g k b).stream j = s.stream j := by
  simp only [openIn]
  repeat' split
  all_goals simp [h, setStream_stream_other]

@[simp] theorem closeOpen_rest (i : StreamId) (f : BitVec 16) (t : Option GapSection) :
    (s.closeOpen i f t).rest = s.rest := by
  simp only [closeOpen]
  repeat' split
  all_goals simp

@[simp] theorem closeOpen_stream_other (i : StreamId) (f : BitVec 16) (t : Option GapSection) {j : StreamId} (h : j ≠ i) :
    (s.closeOpen i f t).stream j = s.stream j := by
  simp only [closeOpen]
  repeat' split
  all_goals simp [h, setStream_stream_other]

@[simp] theorem leaveLossy_rest (i : StreamId) :
    (s.leaveLossy i).rest = s.rest := by simp [leaveLossy]

@[simp] theorem leaveLossy_stream_other (i : StreamId) {j : StreamId} (h : j ≠ i) :
    (s.leaveLossy i).stream j = s.stream j := by
  simp only [leaveLossy]
  all_goals simp [h, setStream_stream_other]

@[simp] theorem enterLossy_rest (i : StreamId) (r : LossRecord) :
    (s.enterLossy i r).rest = s.rest := by simp [enterLossy]

@[simp] theorem enterLossy_stream_other (i : StreamId) (r : LossRecord) {j : StreamId} (h : j ≠ i) :
    (s.enterLossy i r).stream j = s.stream j := by
  simp only [enterLossy]
  all_goals simp [h, setStream_stream_other]

@[simp] theorem openCarrying_rest (i : StreamId) (n k : Nat) (b : Bool) :
    (s.openCarrying i n k b).rest = s.rest := by
  simp only [openCarrying]
  repeat' split
  all_goals simp

@[simp] theorem openCarrying_stream_other (i : StreamId) (n k : Nat) (b : Bool) {j : StreamId} (h : j ≠ i) :
    (s.openCarrying i n k b).stream j = s.stream j := by
  simp only [openCarrying]
  repeat' split
  all_goals simp [h, setStream_stream_other]

@[simp] theorem openEndBlock_rest (i : StreamId) (n : Nat) :
    (s.openEndBlock i n).rest = s.rest := by simp [openEndBlock]

@[simp] theorem openEndBlock_stream_other (i : StreamId) (n : Nat) {j : StreamId} (h : j ≠ i) :
    (s.openEndBlock i n).stream j = s.stream j := by
  simp only [openEndBlock]
  all_goals simp [h]

@[simp] theorem emitWindow_rest (i : StreamId) (b : Bool) :
    (s.emitWindow i b).rest = s.rest := by
  simp only [emitWindow]
  repeat' split
  all_goals simp

@[simp] theorem emitWindow_stream_other (i : StreamId) (b : Bool) {j : StreamId} (h : j ≠ i) :
    (s.emitWindow i b).stream j = s.stream j := by
  simp only [emitWindow]
  repeat' split
  all_goals simp [h, setStream_stream_other]

@[simp] theorem emitPartial_rest (i : StreamId) :
    (s.emitPartial i).rest = s.rest := by
  simp only [emitPartial]
  repeat' split
  all_goals simp

@[simp] theorem emitPartial_stream_other (i : StreamId) {j : StreamId} (h : j ≠ i) :
    (s.emitPartial i).stream j = s.stream j := by
  simp only [emitPartial]
  repeat' split
  all_goals simp [h]

@[simp] theorem applyLevel_rest (i : StreamId) :
    (s.applyLevel i).rest = s.rest := by
  simp only [applyLevel]
  repeat' split
  all_goals simp

@[simp] theorem applyLevel_stream_other (i : StreamId) {j : StreamId} (h : j ≠ i) :
    (s.applyLevel i).stream j = s.stream j := by
  simp only [applyLevel]
  repeat' split
  all_goals simp [h, setStream_stream_other]

@[simp] theorem beginWindow_rest (i : StreamId) (v : Int) :
    (s.beginWindow i v).rest = s.rest := by
  simp only [beginWindow]
  repeat' split
  all_goals simp

@[simp] theorem beginWindow_stream_other (i : StreamId) (v : Int) {j : StreamId} (h : j ≠ i) :
    (s.beginWindow i v).stream j = s.stream j := by
  simp only [beginWindow]
  repeat' split
  all_goals simp [h, setStream_stream_other]

@[simp] theorem takeNext_rest (i : StreamId) (w : Window) (v : Int) :
    (s.takeNext i w v).rest = s.rest := by
  simp only [takeNext]
  repeat' split
  all_goals simp

@[simp] theorem takeNext_stream_other (i : StreamId) (w : Window) (v : Int) {j : StreamId} (h : j ≠ i) :
    (s.takeNext i w v).stream j = s.stream j := by
  simp only [takeNext]
  repeat' split
  all_goals simp [h, setStream_stream_other]

@[simp] theorem countLossy_rest (i : StreamId) :
    (s.countLossy i).rest = s.rest := by
  simp only [countLossy]
  repeat' split
  all_goals simp

@[simp] theorem countLossy_stream_other (i : StreamId) {j : StreamId} (h : j ≠ i) :
    (s.countLossy i).stream j = s.stream j := by
  simp only [countLossy]
  repeat' split
  all_goals simp [h, setStream_stream_other]

/-! ## Slots -/

theorem allocate_rest {s t : State} {i : StreamId} {b : Bool} {n : Nat} (h : s.allocate i b = some (n, t)) :
    t.rest = s.rest := by
  unfold allocate at h
  split at h
  · cases h
  · split at h
    · cases h
    · cases h; simp

theorem allocate_stream_other {s t : State} {i j : StreamId} {b : Bool} {n : Nat} (h : s.allocate i b = some (n, t))
    (hj : j ≠ i) : t.stream j = s.stream j := by
  unfold allocate at h
  split at h
  · cases h
  · split at h
    · cases h
    · cases h; simp [hj]


@[simp] theorem endRun_rest (i : StreamId) :
    (s.endRun i).rest = s.rest := by
  simp only [endRun]
  repeat' split
  all_goals first | (rename_i ha; simp [allocate_rest ha]; done) | simp

@[simp] theorem endRun_stream_other (i : StreamId) {j : StreamId} (h : j ≠ i) :
    (s.endRun i).stream j = s.stream j := by
  simp only [endRun]
  repeat' split
  all_goals first | (rename_i ha; simp [allocate_stream_other ha, h]; done) | simp [h]

@[simp] theorem lossyRetry_rest (i : StreamId) :
    (s.lossyRetry i).rest = s.rest := by
  simp only [lossyRetry]
  repeat' split
  all_goals first | (rename_i ha; simp [allocate_rest ha]; done) | simp

@[simp] theorem lossyRetry_stream_other (i : StreamId) {j : StreamId} (h : j ≠ i) :
    (s.lossyRetry i).stream j = s.stream j := by
  simp only [lossyRetry]
  repeat' split
  all_goals first | (rename_i ha; simp [allocate_stream_other ha, h, setStream_stream_other]; done) | simp [h, setStream_stream_other]

@[simp] theorem takeFirst_rest (i : StreamId) (v : Int) :
    (s.takeFirst i v).rest = s.rest := by
  simp only [takeFirst]
  repeat' split
  all_goals first | (rename_i ha; simp [allocate_rest ha]; done) | simp

@[simp] theorem takeFirst_stream_other (i : StreamId) (v : Int) {j : StreamId} (h : j ≠ i) :
    (s.takeFirst i v).stream j = s.stream j := by
  simp only [takeFirst]
  repeat' split
  all_goals first | (rename_i ha; simp [allocate_stream_other ha, h]; done) | simp [h, setStream_stream_other]

@[simp] theorem handInput_rest (i : StreamId) (v : Int) :
    (s.handInput i v).rest = s.rest := by
  simp only [handInput]
  repeat' split
  all_goals simp

@[simp] theorem handInput_stream_other (i : StreamId) (v : Int) {j : StreamId} (h : j ≠ i) :
    (s.handInput i v).stream j = s.stream j := by
  simp only [handInput]
  repeat' split
  all_goals simp [h]

@[simp] theorem loseToGap_rest (i : StreamId) :
    (s.loseToGap i).rest = s.rest := by simp [loseToGap]

@[simp] theorem loseToGap_stream_other (i : StreamId) {j : StreamId} (h : j ≠ i) :
    (s.loseToGap i).stream j = s.stream j := by
  simp only [loseToGap]
  all_goals simp [h, setStream_stream_other]

@[simp] theorem loseToTail_rest (i : StreamId) (r : Option GapRecord) :
    (s.loseToTail i r).1.rest = s.rest := by simp [loseToTail]

@[simp] theorem loseToTail_stream_other (i : StreamId) (r : Option GapRecord) {j : StreamId} (h : j ≠ i) :
    (s.loseToTail i r).1.stream j = s.stream j := by
  simp only [loseToTail]
  all_goals simp [h, setStream_stream_other]

@[simp] theorem passInput_rest (i : StreamId) (b : Bool) (r : Option GapRecord) :
    (s.passInput i b r).1.rest = s.rest := by
  simp only [passInput]
  repeat' split
  all_goals simp

@[simp] theorem passInput_stream_other (i : StreamId) (b : Bool) (r : Option GapRecord) {j : StreamId} (h : j ≠ i) :
    (s.passInput i b r).1.stream j = s.stream j := by
  simp only [passInput]
  repeat' split
  all_goals simp [h]

@[simp] theorem carryGap_rest (i : StreamId) (g : GapSection) (b : Bool) :
    (s.carryGap i g b).rest = s.rest := by
  simp only [carryGap]
  repeat' split
  all_goals first | (rename_i ha; simp [allocate_rest ha]; done) | simp

@[simp] theorem carryGap_stream_other (i : StreamId) (g : GapSection) (b : Bool) {j : StreamId} (h : j ≠ i) :
    (s.carryGap i g b).stream j = s.stream j := by
  simp only [carryGap]
  repeat' split
  all_goals first | (rename_i ha; simp [allocate_stream_other ha, h, setStream_stream_other]; done) | simp [h]

@[simp] theorem endSegmentBlock_rest (i : StreamId) (b : Bool) (r : Option GapRecord) :
    (s.endSegmentBlock i b r).rest = s.rest := by
  simp only [endSegmentBlock]
  repeat' split
  all_goals simp

@[simp] theorem endSegmentBlock_stream_other (i : StreamId) (b : Bool) (r : Option GapRecord) {j : StreamId} (h : j ≠ i) :
    (s.endSegmentBlock i b r).stream j = s.stream j := by
  simp only [endSegmentBlock]
  repeat' split
  all_goals simp [h]

@[simp] theorem endSegment_rest (i : StreamId) (b : Bool) (r : Option GapRecord) :
    (s.endSegment i b r).rest = s.rest := by
  simp only [endSegment]
  repeat' split
  all_goals simp

@[simp] theorem endSegment_stream_other (i : StreamId) (b : Bool) (r : Option GapRecord) {j : StreamId} (h : j ≠ i) :
    (s.endSegment i b r).stream j = s.stream j := by
  simp only [endSegment]
  repeat' split
  all_goals simp [h, setStream_stream_other]

@[simp] theorem closeShort_rest (i : StreamId) :
    (s.closeShort i).rest = s.rest := by
  simp only [closeShort]
  repeat' split
  all_goals first | (rename_i ha; simp [allocate_rest ha]; done) | simp

@[simp] theorem closeShort_stream_other (i : StreamId) {j : StreamId} (h : j ≠ i) :
    (s.closeShort i).stream j = s.stream j := by
  simp only [closeShort]
  repeat' split
  all_goals first | (rename_i ha; simp [allocate_stream_other ha, h]; done) | simp [h, setStream_stream_other]

@[simp] theorem fieldInput_rest (i : StreamId) (o : WalkOver) (r : Option GapRecord) (a b : Nat) :
    (s.fieldInput i o r a b).1.rest = s.rest := by
  simp only [fieldInput]
  repeat' split
  all_goals simp

@[simp] theorem fieldInput_stream_other (i : StreamId) (o : WalkOver) (r : Option GapRecord) (a b : Nat) {j : StreamId} (h : j ≠ i) :
    (s.fieldInput i o r a b).1.stream j = s.stream j := by
  simp only [fieldInput]
  repeat' split
  all_goals simp [h]

@[simp] theorem advanceInput_rest (i : StreamId) :
    (s.advanceInput i).rest = s.rest := rfl

@[simp] theorem advanceInput_stream_other (i : StreamId) {j : StreamId} (h : j ≠ i) :
    (s.advanceInput i).stream j = s.stream j := by
  simp only [advanceInput]
  all_goals simp [h, setStream_stream_other]

@[simp] theorem execField_rest (i : StreamId) (o : WalkOver) (r : Option GapRecord) (a b : Nat) (c : Bool) :
    (s.execField i o r a b c).1.rest = s.rest := by
  simp only [execField]
  repeat' split
  all_goals simp

@[simp] theorem execField_stream_other (i : StreamId) (o : WalkOver) (r : Option GapRecord) (a b : Nat) (c : Bool) {j : StreamId} (h : j ≠ i) :
    (s.execField i o r a b c).1.stream j = s.stream j := by
  simp only [execField]
  repeat' split
  all_goals simp [h, setStream_stream_other]

@[simp] theorem execEntry_rest (i : StreamId) (o : WalkOver) (r : Option GapRecord) :
    (s.execEntry i o r).1.rest = s.rest := by
  simp only [execEntry]
  repeat' split
  all_goals simp

@[simp] theorem execEntry_stream_other (i : StreamId) (o : WalkOver) (r : Option GapRecord) {j : StreamId} (h : j ≠ i) :
    (s.execEntry i o r).1.stream j = s.stream j := by
  simp only [execEntry]
  repeat' split
  all_goals simp [h, setStream_stream_other]

/-! ## The walk -/

/-- The walk keeps what every entry that it executes keeps. -/
theorem walk_induction (p : State → Prop) (i : StreamId) (limit : Nat) (way : WalkOver)
    (hstep : ∀ s tail, p s → p (s.execEntry i way tail).1) (fuel : Nat) (s : State) (tail : Option GapRecord)
    (hs : p s) : p (walk i limit way fuel s tail).1 := by
  induction fuel generalizing s tail with
  | zero => exact hs
  | succ n ih =>
    simp only [walk]
    split
    · exact ih _ _ (hstep _ _ hs)
    · exact hs

@[simp] theorem walk_rest (i : StreamId) (limit : Nat) (way : WalkOver) (fuel : Nat) (r : Option GapRecord) :
    (walk i limit way fuel s r).1.rest = s.rest :=
  walk_induction (fun t => t.rest = s.rest) i limit way (fun t r h => by simp [h]) fuel s r rfl

theorem walk_stream_other (i j : StreamId) (limit : Nat) (way : WalkOver) (fuel : Nat) (r : Option GapRecord)
    (h : j ≠ i) : (walk i limit way fuel s r).1.stream j = s.stream j :=
  walk_induction (fun t => t.stream j = s.stream j) i limit way (fun t r ht => by simp [ht, h]) fuel s r rfl


@[simp] theorem setExpected_rest (i : StreamId) (n : Nat) :
    (s.setExpected i n).rest = s.rest := rfl

@[simp] theorem setExpected_stream_other (i : StreamId) (n : Nat) {j : StreamId} (h : j ≠ i) :
    (s.setExpected i n).stream j = s.stream j := by
  simp only [setExpected]
  all_goals simp [h, setStream_stream_other]

@[simp] theorem takeWords_rest (i : StreamId) (n : Nat) (ws : List SampleWord) :
    (s.takeWords i n ws).rest = s.rest := by simp [takeWords]

@[simp] theorem takeWords_stream_other (i : StreamId) (n : Nat) (ws : List SampleWord) {j : StreamId} (h : j ≠ i) :
    (s.takeWords i n ws).stream j = s.stream j := by
  simp only [takeWords]
  all_goals simp [h, walk_stream_other]

@[simp] theorem dryWalk_rest (i : StreamId) (n : Nat) (b : Bool) :
    (s.dryWalk i n b).1.rest = s.rest := by
  simp only [dryWalk]
  repeat' split
  all_goals simp

@[simp] theorem dryWalk_stream_other (i : StreamId) (n : Nat) (b : Bool) {j : StreamId} (h : j ≠ i) :
    (s.dryWalk i n b).1.stream j = s.stream j := by
  simp only [dryWalk]
  repeat' split
  all_goals simp [h, walk_stream_other]

@[simp] theorem takeSamples_rest (i : StreamId) (n : Nat) (ws : List SampleWord) :
    (s.takeSamples i n ws).1.rest = s.rest := by
  simp only [takeSamples]
  repeat' split
  all_goals simp

@[simp] theorem takeSamples_stream_other (i : StreamId) (n : Nat) (ws : List SampleWord) {j : StreamId} (h : j ≠ i) :
    (s.takeSamples i n ws).1.stream j = s.stream j := by
  simp only [takeSamples]
  repeat' split
  all_goals simp [h]

@[simp] theorem takeSegmentEnd_rest (i : StreamId) (n : Nat) :
    (s.takeSegmentEnd i n).rest = s.rest := by
  simp only [takeSegmentEnd]
  repeat' split
  all_goals simp

@[simp] theorem takeSegmentEnd_stream_other (i : StreamId) (n : Nat) {j : StreamId} (h : j ≠ i) :
    (s.takeSegmentEnd i n).stream j = s.stream j := by
  simp only [takeSegmentEnd]
  repeat' split
  all_goals simp [h]

@[simp] theorem startRun_rest (i : StreamId) (a : Arming) :
    (s.startRun i a).rest = s.rest := rfl

@[simp] theorem startRun_stream_other (i : StreamId) (a : Arming) {j : StreamId} (h : j ≠ i) :
    (s.startRun i a).stream j = s.stream j := by
  simp only [startRun]
  all_goals simp [h, setStream_stream_other]

@[simp] theorem enterIdle_rest (i : StreamId) (b : Bool) :
    (s.enterIdle i b).rest = s.rest := rfl

@[simp] theorem enterIdle_stream_other (i : StreamId) (b : Bool) {j : StreamId} (h : j ≠ i) :
    (s.enterIdle i b).stream j = s.stream j := by
  simp only [enterIdle]
  all_goals simp [h, setStream_stream_other]

@[simp] theorem beginSegment_rest (i : StreamId) (g : BitVec 32) (t : BitVec 64) (p : BitVec 32) :
    (s.beginSegment i g t p).rest = s.rest := rfl

@[simp] theorem beginSegment_stream_other (i : StreamId) (g : BitVec 32) (t : BitVec 64) (p : BitVec 32) {j : StreamId} (h : j ≠ i) :
    (s.beginSegment i g t p).stream j = s.stream j := by
  simp only [beginSegment]
  all_goals simp [h, setStream_stream_other]

@[simp] theorem enterRunning_rest (i : StreamId) (b : Bool) (g : BitVec 32) (t : BitVec 64) (p : BitVec 32) :
    (s.enterRunning i b g t p).rest = s.rest := rfl

@[simp] theorem enterRunning_stream_other (i : StreamId) (b : Bool) (g : BitVec 32) (t : BitVec 64) (p : BitVec 32) {j : StreamId} (h : j ≠ i) :
    (s.enterRunning i b g t p).stream j = s.stream j := by
  simp only [enterRunning]
  all_goals simp [h, setStream_stream_other]

@[simp] theorem takeArmedStart_rest (i : StreamId) (a : Arming) (g : BitVec 32) (t : BitVec 64) (p : BitVec 32) :
    (s.takeArmedStart i a g t p).rest = s.rest := by
  simp only [takeArmedStart]
  repeat' split
  all_goals simp

@[simp] theorem takeArmedStart_stream_other (i : StreamId) (a : Arming) (g : BitVec 32) (t : BitVec 64) (p : BitVec 32) {j : StreamId} (h : j ≠ i) :
    (s.takeArmedStart i a g t p).stream j = s.stream j := by
  simp only [takeArmedStart]
  repeat' split
  all_goals simp [h]

@[simp] theorem closeRun_rest (i : StreamId) :
    (s.closeRun i).rest = s.rest := by simp [closeRun]

@[simp] theorem closeRun_stream_other (i : StreamId) {j : StreamId} (h : j ≠ i) :
    (s.closeRun i).stream j = s.stream j := by
  simp only [closeRun]
  all_goals simp [h, setStream_stream_other]

@[simp] theorem testRunEnd_rest (i : StreamId) :
    (s.testRunEnd i).rest = s.rest := by
  simp only [testRunEnd]
  repeat' split
  all_goals simp

@[simp] theorem testRunEnd_stream_other (i : StreamId) {j : StreamId} (h : j ≠ i) :
    (s.testRunEnd i).stream j = s.stream j := by
  simp only [testRunEnd]
  repeat' split
  all_goals simp [h]

@[simp] theorem reportCommit_rest (r : SlotRecord) :
    (s.reportCommit r).rest = s.rest := by
  simp only [reportCommit]
  repeat' split
  all_goals simp

@[simp] theorem reportCommit_stream_other (r : SlotRecord) {j : StreamId} (h : j ≠ r.stream) :
    (s.reportCommit r).stream j = s.stream j := by
  simp only [reportCommit]
  repeat' split
  all_goals simp [h, setStream_stream_other]

@[simp] theorem requeue_rest (n : Nat) :
    (s.requeue n).rest = s.rest := by
  simp only [requeue]
  repeat' split
  all_goals simp

/-- The settling of operations keeps the rest, and every stream. -/
@[simp] theorem foldl_offer_rest (l : List Answer) : (l.foldl offer s).rest = s.rest := by
  induction l generalizing s with
  | nil => rfl
  | cons e l ih => simp [ih]

@[simp] theorem foldl_offer_stream (l : List Answer) (j : StreamId) : (l.foldl offer s).stream j = s.stream j := by
  induction l generalizing s with
  | nil => rfl
  | cons e l ih => simp [ih]

@[simp] theorem settleOps_rest : s.settleOps.rest = s.rest := by simp [settleOps]

@[simp] theorem settleOps_stream (j : StreamId) : s.settleOps.stream j = s.stream j := by simp [settleOps]

/-! ## The seven fields one by one -/

@[simp] theorem putRecord_layout (n : Nat) (r : SlotRecord) : (s.putRecord n r).layout = s.layout :=
  congrArg (·.1) (s.putRecord_rest n r)
@[simp] theorem putRecord_receiver (n : Nat) (r : SlotRecord) : (s.putRecord n r).receiver = s.receiver :=
  congrArg (·.2.1) (s.putRecord_rest n r)
@[simp] theorem putRecord_counters (n : Nat) (r : SlotRecord) : (s.putRecord n r).counters = s.counters :=
  congrArg (·.2.2.1) (s.putRecord_rest n r)
@[simp] theorem putRecord_settings (n : Nat) (r : SlotRecord) : (s.putRecord n r).settings = s.settings :=
  congrArg (·.2.2.2.1) (s.putRecord_rest n r)
@[simp] theorem putRecord_alt (n : Nat) (r : SlotRecord) : (s.putRecord n r).alt = s.alt :=
  congrArg (·.2.2.2.2.1) (s.putRecord_rest n r)
@[simp] theorem putRecord_own (n : Nat) (r : SlotRecord) : (s.putRecord n r).own = s.own :=
  congrArg (·.2.2.2.2.2.1) (s.putRecord_rest n r)
@[simp] theorem putRecord_pending (n : Nat) (r : SlotRecord) : (s.putRecord n r).pending = s.pending :=
  congrArg (·.2.2.2.2.2.2) (s.putRecord_rest n r)
@[simp] theorem changeRecord_layout (n : Nat) (f : SlotRecord → SlotRecord) : (s.changeRecord n f).layout = s.layout :=
  congrArg (·.1) (s.changeRecord_rest n f)
@[simp] theorem changeRecord_receiver (n : Nat) (f : SlotRecord → SlotRecord) : (s.changeRecord n f).receiver = s.receiver :=
  congrArg (·.2.1) (s.changeRecord_rest n f)
@[simp] theorem changeRecord_counters (n : Nat) (f : SlotRecord → SlotRecord) : (s.changeRecord n f).counters = s.counters :=
  congrArg (·.2.2.1) (s.changeRecord_rest n f)
@[simp] theorem changeRecord_settings (n : Nat) (f : SlotRecord → SlotRecord) : (s.changeRecord n f).settings = s.settings :=
  congrArg (·.2.2.2.1) (s.changeRecord_rest n f)
@[simp] theorem changeRecord_alt (n : Nat) (f : SlotRecord → SlotRecord) : (s.changeRecord n f).alt = s.alt :=
  congrArg (·.2.2.2.2.1) (s.changeRecord_rest n f)
@[simp] theorem changeRecord_own (n : Nat) (f : SlotRecord → SlotRecord) : (s.changeRecord n f).own = s.own :=
  congrArg (·.2.2.2.2.2.1) (s.changeRecord_rest n f)
@[simp] theorem changeRecord_pending (n : Nat) (f : SlotRecord → SlotRecord) : (s.changeRecord n f).pending = s.pending :=
  congrArg (·.2.2.2.2.2.2) (s.changeRecord_rest n f)
@[simp] theorem writeLines_layout (n l : Nat) (bs : List Byte) : (s.writeLines n l bs).layout = s.layout :=
  congrArg (·.1) (s.writeLines_rest n l bs)
@[simp] theorem writeLines_receiver (n l : Nat) (bs : List Byte) : (s.writeLines n l bs).receiver = s.receiver :=
  congrArg (·.2.1) (s.writeLines_rest n l bs)
@[simp] theorem writeLines_counters (n l : Nat) (bs : List Byte) : (s.writeLines n l bs).counters = s.counters :=
  congrArg (·.2.2.1) (s.writeLines_rest n l bs)
@[simp] theorem writeLines_settings (n l : Nat) (bs : List Byte) : (s.writeLines n l bs).settings = s.settings :=
  congrArg (·.2.2.2.1) (s.writeLines_rest n l bs)
@[simp] theorem writeLines_alt (n l : Nat) (bs : List Byte) : (s.writeLines n l bs).alt = s.alt :=
  congrArg (·.2.2.2.2.1) (s.writeLines_rest n l bs)
@[simp] theorem writeLines_own (n l : Nat) (bs : List Byte) : (s.writeLines n l bs).own = s.own :=
  congrArg (·.2.2.2.2.2.1) (s.writeLines_rest n l bs)
@[simp] theorem writeLines_pending (n l : Nat) (bs : List Byte) : (s.writeLines n l bs).pending = s.pending :=
  congrArg (·.2.2.2.2.2.2) (s.writeLines_rest n l bs)
@[simp] theorem raise_layout (p : EventPair) : (s.raise p).layout = s.layout :=
  congrArg (·.1) (s.raise_rest p)
@[simp] theorem raise_receiver (p : EventPair) : (s.raise p).receiver = s.receiver :=
  congrArg (·.2.1) (s.raise_rest p)
@[simp] theorem raise_counters (p : EventPair) : (s.raise p).counters = s.counters :=
  congrArg (·.2.2.1) (s.raise_rest p)
@[simp] theorem raise_settings (p : EventPair) : (s.raise p).settings = s.settings :=
  congrArg (·.2.2.2.1) (s.raise_rest p)
@[simp] theorem raise_alt (p : EventPair) : (s.raise p).alt = s.alt :=
  congrArg (·.2.2.2.2.1) (s.raise_rest p)
@[simp] theorem raise_own (p : EventPair) : (s.raise p).own = s.own :=
  congrArg (·.2.2.2.2.2.1) (s.raise_rest p)
@[simp] theorem raise_pending (p : EventPair) : (s.raise p).pending = s.pending :=
  congrArg (·.2.2.2.2.2.2) (s.raise_rest p)
@[simp] theorem dropDisabled_layout (f : EventPair → Bool) : (s.dropDisabled f).layout = s.layout :=
  congrArg (·.1) (s.dropDisabled_rest f)
@[simp] theorem dropDisabled_receiver (f : EventPair → Bool) : (s.dropDisabled f).receiver = s.receiver :=
  congrArg (·.2.1) (s.dropDisabled_rest f)
@[simp] theorem dropDisabled_counters (f : EventPair → Bool) : (s.dropDisabled f).counters = s.counters :=
  congrArg (·.2.2.1) (s.dropDisabled_rest f)
@[simp] theorem dropDisabled_settings (f : EventPair → Bool) : (s.dropDisabled f).settings = s.settings :=
  congrArg (·.2.2.2.1) (s.dropDisabled_rest f)
@[simp] theorem dropDisabled_alt (f : EventPair → Bool) : (s.dropDisabled f).alt = s.alt :=
  congrArg (·.2.2.2.2.1) (s.dropDisabled_rest f)
@[simp] theorem dropDisabled_own (f : EventPair → Bool) : (s.dropDisabled f).own = s.own :=
  congrArg (·.2.2.2.2.2.1) (s.dropDisabled_rest f)
@[simp] theorem dropDisabled_pending (f : EventPair → Bool) : (s.dropDisabled f).pending = s.pending :=
  congrArg (·.2.2.2.2.2.2) (s.dropDisabled_rest f)
@[simp] theorem offer_layout (e : Answer) : (s.offer e).layout = s.layout :=
  congrArg (·.1) (s.offer_rest e)
@[simp] theorem offer_receiver (e : Answer) : (s.offer e).receiver = s.receiver :=
  congrArg (·.2.1) (s.offer_rest e)
@[simp] theorem offer_counters (e : Answer) : (s.offer e).counters = s.counters :=
  congrArg (·.2.2.1) (s.offer_rest e)
@[simp] theorem offer_settings (e : Answer) : (s.offer e).settings = s.settings :=
  congrArg (·.2.2.2.1) (s.offer_rest e)
@[simp] theorem offer_alt (e : Answer) : (s.offer e).alt = s.alt :=
  congrArg (·.2.2.2.2.1) (s.offer_rest e)
@[simp] theorem offer_own (e : Answer) : (s.offer e).own = s.own :=
  congrArg (·.2.2.2.2.2.1) (s.offer_rest e)
@[simp] theorem offer_pending (e : Answer) : (s.offer e).pending = s.pending :=
  congrArg (·.2.2.2.2.2.2) (s.offer_rest e)
@[simp] theorem respond_layout (b : Bool) (c : Byte) (d : Directive) (r : Reply) : (s.respond b c d r).layout = s.layout :=
  congrArg (·.1) (s.respond_rest b c d r)
@[simp] theorem respond_receiver (b : Bool) (c : Byte) (d : Directive) (r : Reply) : (s.respond b c d r).receiver = s.receiver :=
  congrArg (·.2.1) (s.respond_rest b c d r)
@[simp] theorem respond_counters (b : Bool) (c : Byte) (d : Directive) (r : Reply) : (s.respond b c d r).counters = s.counters :=
  congrArg (·.2.2.1) (s.respond_rest b c d r)
@[simp] theorem respond_settings (b : Bool) (c : Byte) (d : Directive) (r : Reply) : (s.respond b c d r).settings = s.settings :=
  congrArg (·.2.2.2.1) (s.respond_rest b c d r)
@[simp] theorem respond_alt (b : Bool) (c : Byte) (d : Directive) (r : Reply) : (s.respond b c d r).alt = s.alt :=
  congrArg (·.2.2.2.2.1) (s.respond_rest b c d r)
@[simp] theorem respond_own (b : Bool) (c : Byte) (d : Directive) (r : Reply) : (s.respond b c d r).own = s.own :=
  congrArg (·.2.2.2.2.2.1) (s.respond_rest b c d r)
@[simp] theorem respond_pending (b : Bool) (c : Byte) (d : Directive) (r : Reply) : (s.respond b c d r).pending = s.pending :=
  congrArg (·.2.2.2.2.2.2) (s.respond_rest b c d r)
@[simp] theorem enterOp_layout (d : Directive) (k : OpKind) : (s.enterOp d k).layout = s.layout :=
  congrArg (·.1) (s.enterOp_rest d k)
@[simp] theorem enterOp_receiver (d : Directive) (k : OpKind) : (s.enterOp d k).receiver = s.receiver :=
  congrArg (·.2.1) (s.enterOp_rest d k)
@[simp] theorem enterOp_counters (d : Directive) (k : OpKind) : (s.enterOp d k).counters = s.counters :=
  congrArg (·.2.2.1) (s.enterOp_rest d k)
@[simp] theorem enterOp_settings (d : Directive) (k : OpKind) : (s.enterOp d k).settings = s.settings :=
  congrArg (·.2.2.2.1) (s.enterOp_rest d k)
@[simp] theorem enterOp_alt (d : Directive) (k : OpKind) : (s.enterOp d k).alt = s.alt :=
  congrArg (·.2.2.2.2.1) (s.enterOp_rest d k)
@[simp] theorem enterOp_own (d : Directive) (k : OpKind) : (s.enterOp d k).own = s.own :=
  congrArg (·.2.2.2.2.2.1) (s.enterOp_rest d k)
@[simp] theorem enterOp_pending (d : Directive) (k : OpKind) : (s.enterOp d k).pending = s.pending :=
  congrArg (·.2.2.2.2.2.2) (s.enterOp_rest d k)
@[simp] theorem endOps_layout (p : OpKind → Bool) (e : OpEnd) : (s.endOps p e).layout = s.layout :=
  congrArg (·.1) (s.endOps_rest p e)
@[simp] theorem endOps_receiver (p : OpKind → Bool) (e : OpEnd) : (s.endOps p e).receiver = s.receiver :=
  congrArg (·.2.1) (s.endOps_rest p e)
@[simp] theorem endOps_counters (p : OpKind → Bool) (e : OpEnd) : (s.endOps p e).counters = s.counters :=
  congrArg (·.2.2.1) (s.endOps_rest p e)
@[simp] theorem endOps_settings (p : OpKind → Bool) (e : OpEnd) : (s.endOps p e).settings = s.settings :=
  congrArg (·.2.2.2.1) (s.endOps_rest p e)
@[simp] theorem endOps_alt (p : OpKind → Bool) (e : OpEnd) : (s.endOps p e).alt = s.alt :=
  congrArg (·.2.2.2.2.1) (s.endOps_rest p e)
@[simp] theorem endOps_own (p : OpKind → Bool) (e : OpEnd) : (s.endOps p e).own = s.own :=
  congrArg (·.2.2.2.2.2.1) (s.endOps_rest p e)
@[simp] theorem endOps_pending (p : OpKind → Bool) (e : OpEnd) : (s.endOps p e).pending = s.pending :=
  congrArg (·.2.2.2.2.2.2) (s.endOps_rest p e)
@[simp] theorem beginVerifies_layout (n : Nat) : (s.beginVerifies n).layout = s.layout :=
  congrArg (·.1) (s.beginVerifies_rest n)
@[simp] theorem beginVerifies_receiver (n : Nat) : (s.beginVerifies n).receiver = s.receiver :=
  congrArg (·.2.1) (s.beginVerifies_rest n)
@[simp] theorem beginVerifies_counters (n : Nat) : (s.beginVerifies n).counters = s.counters :=
  congrArg (·.2.2.1) (s.beginVerifies_rest n)
@[simp] theorem beginVerifies_settings (n : Nat) : (s.beginVerifies n).settings = s.settings :=
  congrArg (·.2.2.2.1) (s.beginVerifies_rest n)
@[simp] theorem beginVerifies_alt (n : Nat) : (s.beginVerifies n).alt = s.alt :=
  congrArg (·.2.2.2.2.1) (s.beginVerifies_rest n)
@[simp] theorem beginVerifies_own (n : Nat) : (s.beginVerifies n).own = s.own :=
  congrArg (·.2.2.2.2.2.1) (s.beginVerifies_rest n)
@[simp] theorem beginVerifies_pending (n : Nat) : (s.beginVerifies n).pending = s.pending :=
  congrArg (·.2.2.2.2.2.2) (s.beginVerifies_rest n)
@[simp] theorem judge_layout (g : GroupId) : (s.judge g).layout = s.layout :=
  congrArg (·.1) (s.judge_rest g)
@[simp] theorem judge_receiver (g : GroupId) : (s.judge g).receiver = s.receiver :=
  congrArg (·.2.1) (s.judge_rest g)
@[simp] theorem judge_counters (g : GroupId) : (s.judge g).counters = s.counters :=
  congrArg (·.2.2.1) (s.judge_rest g)
@[simp] theorem judge_settings (g : GroupId) : (s.judge g).settings = s.settings :=
  congrArg (·.2.2.2.1) (s.judge_rest g)
@[simp] theorem judge_alt (g : GroupId) : (s.judge g).alt = s.alt :=
  congrArg (·.2.2.2.2.1) (s.judge_rest g)
@[simp] theorem judge_own (g : GroupId) : (s.judge g).own = s.own :=
  congrArg (·.2.2.2.2.2.1) (s.judge_rest g)
@[simp] theorem judge_pending (g : GroupId) : (s.judge g).pending = s.pending :=
  congrArg (·.2.2.2.2.2.2) (s.judge_rest g)
@[simp] theorem judgeFor_layout (i : StreamId) : (s.judgeFor i).layout = s.layout :=
  congrArg (·.1) (s.judgeFor_rest i)
@[simp] theorem judgeFor_receiver (i : StreamId) : (s.judgeFor i).receiver = s.receiver :=
  congrArg (·.2.1) (s.judgeFor_rest i)
@[simp] theorem judgeFor_counters (i : StreamId) : (s.judgeFor i).counters = s.counters :=
  congrArg (·.2.2.1) (s.judgeFor_rest i)
@[simp] theorem judgeFor_settings (i : StreamId) : (s.judgeFor i).settings = s.settings :=
  congrArg (·.2.2.2.1) (s.judgeFor_rest i)
@[simp] theorem judgeFor_alt (i : StreamId) : (s.judgeFor i).alt = s.alt :=
  congrArg (·.2.2.2.2.1) (s.judgeFor_rest i)
@[simp] theorem judgeFor_own (i : StreamId) : (s.judgeFor i).own = s.own :=
  congrArg (·.2.2.2.2.2.1) (s.judgeFor_rest i)
@[simp] theorem judgeFor_pending (i : StreamId) : (s.judgeFor i).pending = s.pending :=
  congrArg (·.2.2.2.2.2.2) (s.judgeFor_rest i)
@[simp] theorem markAborted_layout (i : StreamId) : (s.markAborted i).layout = s.layout :=
  congrArg (·.1) (s.markAborted_rest i)
@[simp] theorem markAborted_receiver (i : StreamId) : (s.markAborted i).receiver = s.receiver :=
  congrArg (·.2.1) (s.markAborted_rest i)
@[simp] theorem markAborted_counters (i : StreamId) : (s.markAborted i).counters = s.counters :=
  congrArg (·.2.2.1) (s.markAborted_rest i)
@[simp] theorem markAborted_settings (i : StreamId) : (s.markAborted i).settings = s.settings :=
  congrArg (·.2.2.2.1) (s.markAborted_rest i)
@[simp] theorem markAborted_alt (i : StreamId) : (s.markAborted i).alt = s.alt :=
  congrArg (·.2.2.2.2.1) (s.markAborted_rest i)
@[simp] theorem markAborted_own (i : StreamId) : (s.markAborted i).own = s.own :=
  congrArg (·.2.2.2.2.2.1) (s.markAborted_rest i)
@[simp] theorem markAborted_pending (i : StreamId) : (s.markAborted i).pending = s.pending :=
  congrArg (·.2.2.2.2.2.2) (s.markAborted_rest i)
@[simp] theorem writeFilledLine_layout (b c : OpenBlock) : (s.writeFilledLine b c).layout = s.layout :=
  congrArg (·.1) (s.writeFilledLine_rest b c)
@[simp] theorem writeFilledLine_receiver (b c : OpenBlock) : (s.writeFilledLine b c).receiver = s.receiver :=
  congrArg (·.2.1) (s.writeFilledLine_rest b c)
@[simp] theorem writeFilledLine_counters (b c : OpenBlock) : (s.writeFilledLine b c).counters = s.counters :=
  congrArg (·.2.2.1) (s.writeFilledLine_rest b c)
@[simp] theorem writeFilledLine_settings (b c : OpenBlock) : (s.writeFilledLine b c).settings = s.settings :=
  congrArg (·.2.2.2.1) (s.writeFilledLine_rest b c)
@[simp] theorem writeFilledLine_alt (b c : OpenBlock) : (s.writeFilledLine b c).alt = s.alt :=
  congrArg (·.2.2.2.2.1) (s.writeFilledLine_rest b c)
@[simp] theorem writeFilledLine_own (b c : OpenBlock) : (s.writeFilledLine b c).own = s.own :=
  congrArg (·.2.2.2.2.2.1) (s.writeFilledLine_rest b c)
@[simp] theorem writeFilledLine_pending (b c : OpenBlock) : (s.writeFilledLine b c).pending = s.pending :=
  congrArg (·.2.2.2.2.2.2) (s.writeFilledLine_rest b c)
@[simp] theorem occupancyUp_layout (i : StreamId) : (s.occupancyUp i).layout = s.layout :=
  congrArg (·.1) (s.occupancyUp_rest i)
@[simp] theorem occupancyUp_receiver (i : StreamId) : (s.occupancyUp i).receiver = s.receiver :=
  congrArg (·.2.1) (s.occupancyUp_rest i)
@[simp] theorem occupancyUp_counters (i : StreamId) : (s.occupancyUp i).counters = s.counters :=
  congrArg (·.2.2.1) (s.occupancyUp_rest i)
@[simp] theorem occupancyUp_settings (i : StreamId) : (s.occupancyUp i).settings = s.settings :=
  congrArg (·.2.2.2.1) (s.occupancyUp_rest i)
@[simp] theorem occupancyUp_alt (i : StreamId) : (s.occupancyUp i).alt = s.alt :=
  congrArg (·.2.2.2.2.1) (s.occupancyUp_rest i)
@[simp] theorem occupancyUp_own (i : StreamId) : (s.occupancyUp i).own = s.own :=
  congrArg (·.2.2.2.2.2.1) (s.occupancyUp_rest i)
@[simp] theorem occupancyUp_pending (i : StreamId) : (s.occupancyUp i).pending = s.pending :=
  congrArg (·.2.2.2.2.2.2) (s.occupancyUp_rest i)
@[simp] theorem occupancyDown_layout (i : StreamId) : (s.occupancyDown i).layout = s.layout :=
  congrArg (·.1) (s.occupancyDown_rest i)
@[simp] theorem occupancyDown_receiver (i : StreamId) : (s.occupancyDown i).receiver = s.receiver :=
  congrArg (·.2.1) (s.occupancyDown_rest i)
@[simp] theorem occupancyDown_counters (i : StreamId) : (s.occupancyDown i).counters = s.counters :=
  congrArg (·.2.2.1) (s.occupancyDown_rest i)
@[simp] theorem occupancyDown_settings (i : StreamId) : (s.occupancyDown i).settings = s.settings :=
  congrArg (·.2.2.2.1) (s.occupancyDown_rest i)
@[simp] theorem occupancyDown_alt (i : StreamId) : (s.occupancyDown i).alt = s.alt :=
  congrArg (·.2.2.2.2.1) (s.occupancyDown_rest i)
@[simp] theorem occupancyDown_own (i : StreamId) : (s.occupancyDown i).own = s.own :=
  congrArg (·.2.2.2.2.2.1) (s.occupancyDown_rest i)
@[simp] theorem occupancyDown_pending (i : StreamId) : (s.occupancyDown i).pending = s.pending :=
  congrArg (·.2.2.2.2.2.2) (s.occupancyDown_rest i)
@[simp] theorem openIn_layout (i : StreamId) (n : Nat) (g : Option GapSection) (k : Nat) (b : Bool) : (s.openIn i n g k b).layout = s.layout :=
  congrArg (·.1) (s.openIn_rest i n g k b)
@[simp] theorem openIn_receiver (i : StreamId) (n : Nat) (g : Option GapSection) (k : Nat) (b : Bool) : (s.openIn i n g k b).receiver = s.receiver :=
  congrArg (·.2.1) (s.openIn_rest i n g k b)
@[simp] theorem openIn_counters (i : StreamId) (n : Nat) (g : Option GapSection) (k : Nat) (b : Bool) : (s.openIn i n g k b).counters = s.counters :=
  congrArg (·.2.2.1) (s.openIn_rest i n g k b)
@[simp] theorem openIn_settings (i : StreamId) (n : Nat) (g : Option GapSection) (k : Nat) (b : Bool) : (s.openIn i n g k b).settings = s.settings :=
  congrArg (·.2.2.2.1) (s.openIn_rest i n g k b)
@[simp] theorem openIn_alt (i : StreamId) (n : Nat) (g : Option GapSection) (k : Nat) (b : Bool) : (s.openIn i n g k b).alt = s.alt :=
  congrArg (·.2.2.2.2.1) (s.openIn_rest i n g k b)
@[simp] theorem openIn_own (i : StreamId) (n : Nat) (g : Option GapSection) (k : Nat) (b : Bool) : (s.openIn i n g k b).own = s.own :=
  congrArg (·.2.2.2.2.2.1) (s.openIn_rest i n g k b)
@[simp] theorem openIn_pending (i : StreamId) (n : Nat) (g : Option GapSection) (k : Nat) (b : Bool) : (s.openIn i n g k b).pending = s.pending :=
  congrArg (·.2.2.2.2.2.2) (s.openIn_rest i n g k b)
@[simp] theorem closeOpen_layout (i : StreamId) (f : BitVec 16) (t : Option GapSection) : (s.closeOpen i f t).layout = s.layout :=
  congrArg (·.1) (s.closeOpen_rest i f t)
@[simp] theorem closeOpen_receiver (i : StreamId) (f : BitVec 16) (t : Option GapSection) : (s.closeOpen i f t).receiver = s.receiver :=
  congrArg (·.2.1) (s.closeOpen_rest i f t)
@[simp] theorem closeOpen_counters (i : StreamId) (f : BitVec 16) (t : Option GapSection) : (s.closeOpen i f t).counters = s.counters :=
  congrArg (·.2.2.1) (s.closeOpen_rest i f t)
@[simp] theorem closeOpen_settings (i : StreamId) (f : BitVec 16) (t : Option GapSection) : (s.closeOpen i f t).settings = s.settings :=
  congrArg (·.2.2.2.1) (s.closeOpen_rest i f t)
@[simp] theorem closeOpen_alt (i : StreamId) (f : BitVec 16) (t : Option GapSection) : (s.closeOpen i f t).alt = s.alt :=
  congrArg (·.2.2.2.2.1) (s.closeOpen_rest i f t)
@[simp] theorem closeOpen_own (i : StreamId) (f : BitVec 16) (t : Option GapSection) : (s.closeOpen i f t).own = s.own :=
  congrArg (·.2.2.2.2.2.1) (s.closeOpen_rest i f t)
@[simp] theorem closeOpen_pending (i : StreamId) (f : BitVec 16) (t : Option GapSection) : (s.closeOpen i f t).pending = s.pending :=
  congrArg (·.2.2.2.2.2.2) (s.closeOpen_rest i f t)
@[simp] theorem leaveLossy_layout (i : StreamId) : (s.leaveLossy i).layout = s.layout :=
  congrArg (·.1) (s.leaveLossy_rest i)
@[simp] theorem leaveLossy_receiver (i : StreamId) : (s.leaveLossy i).receiver = s.receiver :=
  congrArg (·.2.1) (s.leaveLossy_rest i)
@[simp] theorem leaveLossy_counters (i : StreamId) : (s.leaveLossy i).counters = s.counters :=
  congrArg (·.2.2.1) (s.leaveLossy_rest i)
@[simp] theorem leaveLossy_settings (i : StreamId) : (s.leaveLossy i).settings = s.settings :=
  congrArg (·.2.2.2.1) (s.leaveLossy_rest i)
@[simp] theorem leaveLossy_alt (i : StreamId) : (s.leaveLossy i).alt = s.alt :=
  congrArg (·.2.2.2.2.1) (s.leaveLossy_rest i)
@[simp] theorem leaveLossy_own (i : StreamId) : (s.leaveLossy i).own = s.own :=
  congrArg (·.2.2.2.2.2.1) (s.leaveLossy_rest i)
@[simp] theorem leaveLossy_pending (i : StreamId) : (s.leaveLossy i).pending = s.pending :=
  congrArg (·.2.2.2.2.2.2) (s.leaveLossy_rest i)
@[simp] theorem enterLossy_layout (i : StreamId) (r : LossRecord) : (s.enterLossy i r).layout = s.layout :=
  congrArg (·.1) (s.enterLossy_rest i r)
@[simp] theorem enterLossy_receiver (i : StreamId) (r : LossRecord) : (s.enterLossy i r).receiver = s.receiver :=
  congrArg (·.2.1) (s.enterLossy_rest i r)
@[simp] theorem enterLossy_counters (i : StreamId) (r : LossRecord) : (s.enterLossy i r).counters = s.counters :=
  congrArg (·.2.2.1) (s.enterLossy_rest i r)
@[simp] theorem enterLossy_settings (i : StreamId) (r : LossRecord) : (s.enterLossy i r).settings = s.settings :=
  congrArg (·.2.2.2.1) (s.enterLossy_rest i r)
@[simp] theorem enterLossy_alt (i : StreamId) (r : LossRecord) : (s.enterLossy i r).alt = s.alt :=
  congrArg (·.2.2.2.2.1) (s.enterLossy_rest i r)
@[simp] theorem enterLossy_own (i : StreamId) (r : LossRecord) : (s.enterLossy i r).own = s.own :=
  congrArg (·.2.2.2.2.2.1) (s.enterLossy_rest i r)
@[simp] theorem enterLossy_pending (i : StreamId) (r : LossRecord) : (s.enterLossy i r).pending = s.pending :=
  congrArg (·.2.2.2.2.2.2) (s.enterLossy_rest i r)
@[simp] theorem openCarrying_layout (i : StreamId) (n k : Nat) (b : Bool) : (s.openCarrying i n k b).layout = s.layout :=
  congrArg (·.1) (s.openCarrying_rest i n k b)
@[simp] theorem openCarrying_receiver (i : StreamId) (n k : Nat) (b : Bool) : (s.openCarrying i n k b).receiver = s.receiver :=
  congrArg (·.2.1) (s.openCarrying_rest i n k b)
@[simp] theorem openCarrying_counters (i : StreamId) (n k : Nat) (b : Bool) : (s.openCarrying i n k b).counters = s.counters :=
  congrArg (·.2.2.1) (s.openCarrying_rest i n k b)
@[simp] theorem openCarrying_settings (i : StreamId) (n k : Nat) (b : Bool) : (s.openCarrying i n k b).settings = s.settings :=
  congrArg (·.2.2.2.1) (s.openCarrying_rest i n k b)
@[simp] theorem openCarrying_alt (i : StreamId) (n k : Nat) (b : Bool) : (s.openCarrying i n k b).alt = s.alt :=
  congrArg (·.2.2.2.2.1) (s.openCarrying_rest i n k b)
@[simp] theorem openCarrying_own (i : StreamId) (n k : Nat) (b : Bool) : (s.openCarrying i n k b).own = s.own :=
  congrArg (·.2.2.2.2.2.1) (s.openCarrying_rest i n k b)
@[simp] theorem openCarrying_pending (i : StreamId) (n k : Nat) (b : Bool) : (s.openCarrying i n k b).pending = s.pending :=
  congrArg (·.2.2.2.2.2.2) (s.openCarrying_rest i n k b)
@[simp] theorem openEndBlock_layout (i : StreamId) (n : Nat) : (s.openEndBlock i n).layout = s.layout :=
  congrArg (·.1) (s.openEndBlock_rest i n)
@[simp] theorem openEndBlock_receiver (i : StreamId) (n : Nat) : (s.openEndBlock i n).receiver = s.receiver :=
  congrArg (·.2.1) (s.openEndBlock_rest i n)
@[simp] theorem openEndBlock_counters (i : StreamId) (n : Nat) : (s.openEndBlock i n).counters = s.counters :=
  congrArg (·.2.2.1) (s.openEndBlock_rest i n)
@[simp] theorem openEndBlock_settings (i : StreamId) (n : Nat) : (s.openEndBlock i n).settings = s.settings :=
  congrArg (·.2.2.2.1) (s.openEndBlock_rest i n)
@[simp] theorem openEndBlock_alt (i : StreamId) (n : Nat) : (s.openEndBlock i n).alt = s.alt :=
  congrArg (·.2.2.2.2.1) (s.openEndBlock_rest i n)
@[simp] theorem openEndBlock_own (i : StreamId) (n : Nat) : (s.openEndBlock i n).own = s.own :=
  congrArg (·.2.2.2.2.2.1) (s.openEndBlock_rest i n)
@[simp] theorem openEndBlock_pending (i : StreamId) (n : Nat) : (s.openEndBlock i n).pending = s.pending :=
  congrArg (·.2.2.2.2.2.2) (s.openEndBlock_rest i n)
@[simp] theorem emitWindow_layout (i : StreamId) (b : Bool) : (s.emitWindow i b).layout = s.layout :=
  congrArg (·.1) (s.emitWindow_rest i b)
@[simp] theorem emitWindow_receiver (i : StreamId) (b : Bool) : (s.emitWindow i b).receiver = s.receiver :=
  congrArg (·.2.1) (s.emitWindow_rest i b)
@[simp] theorem emitWindow_counters (i : StreamId) (b : Bool) : (s.emitWindow i b).counters = s.counters :=
  congrArg (·.2.2.1) (s.emitWindow_rest i b)
@[simp] theorem emitWindow_settings (i : StreamId) (b : Bool) : (s.emitWindow i b).settings = s.settings :=
  congrArg (·.2.2.2.1) (s.emitWindow_rest i b)
@[simp] theorem emitWindow_alt (i : StreamId) (b : Bool) : (s.emitWindow i b).alt = s.alt :=
  congrArg (·.2.2.2.2.1) (s.emitWindow_rest i b)
@[simp] theorem emitWindow_own (i : StreamId) (b : Bool) : (s.emitWindow i b).own = s.own :=
  congrArg (·.2.2.2.2.2.1) (s.emitWindow_rest i b)
@[simp] theorem emitWindow_pending (i : StreamId) (b : Bool) : (s.emitWindow i b).pending = s.pending :=
  congrArg (·.2.2.2.2.2.2) (s.emitWindow_rest i b)
@[simp] theorem emitPartial_layout (i : StreamId) : (s.emitPartial i).layout = s.layout :=
  congrArg (·.1) (s.emitPartial_rest i)
@[simp] theorem emitPartial_receiver (i : StreamId) : (s.emitPartial i).receiver = s.receiver :=
  congrArg (·.2.1) (s.emitPartial_rest i)
@[simp] theorem emitPartial_counters (i : StreamId) : (s.emitPartial i).counters = s.counters :=
  congrArg (·.2.2.1) (s.emitPartial_rest i)
@[simp] theorem emitPartial_settings (i : StreamId) : (s.emitPartial i).settings = s.settings :=
  congrArg (·.2.2.2.1) (s.emitPartial_rest i)
@[simp] theorem emitPartial_alt (i : StreamId) : (s.emitPartial i).alt = s.alt :=
  congrArg (·.2.2.2.2.1) (s.emitPartial_rest i)
@[simp] theorem emitPartial_own (i : StreamId) : (s.emitPartial i).own = s.own :=
  congrArg (·.2.2.2.2.2.1) (s.emitPartial_rest i)
@[simp] theorem emitPartial_pending (i : StreamId) : (s.emitPartial i).pending = s.pending :=
  congrArg (·.2.2.2.2.2.2) (s.emitPartial_rest i)
@[simp] theorem applyLevel_layout (i : StreamId) : (s.applyLevel i).layout = s.layout :=
  congrArg (·.1) (s.applyLevel_rest i)
@[simp] theorem applyLevel_receiver (i : StreamId) : (s.applyLevel i).receiver = s.receiver :=
  congrArg (·.2.1) (s.applyLevel_rest i)
@[simp] theorem applyLevel_counters (i : StreamId) : (s.applyLevel i).counters = s.counters :=
  congrArg (·.2.2.1) (s.applyLevel_rest i)
@[simp] theorem applyLevel_settings (i : StreamId) : (s.applyLevel i).settings = s.settings :=
  congrArg (·.2.2.2.1) (s.applyLevel_rest i)
@[simp] theorem applyLevel_alt (i : StreamId) : (s.applyLevel i).alt = s.alt :=
  congrArg (·.2.2.2.2.1) (s.applyLevel_rest i)
@[simp] theorem applyLevel_own (i : StreamId) : (s.applyLevel i).own = s.own :=
  congrArg (·.2.2.2.2.2.1) (s.applyLevel_rest i)
@[simp] theorem applyLevel_pending (i : StreamId) : (s.applyLevel i).pending = s.pending :=
  congrArg (·.2.2.2.2.2.2) (s.applyLevel_rest i)
@[simp] theorem beginWindow_layout (i : StreamId) (v : Int) : (s.beginWindow i v).layout = s.layout :=
  congrArg (·.1) (s.beginWindow_rest i v)
@[simp] theorem beginWindow_receiver (i : StreamId) (v : Int) : (s.beginWindow i v).receiver = s.receiver :=
  congrArg (·.2.1) (s.beginWindow_rest i v)
@[simp] theorem beginWindow_counters (i : StreamId) (v : Int) : (s.beginWindow i v).counters = s.counters :=
  congrArg (·.2.2.1) (s.beginWindow_rest i v)
@[simp] theorem beginWindow_settings (i : StreamId) (v : Int) : (s.beginWindow i v).settings = s.settings :=
  congrArg (·.2.2.2.1) (s.beginWindow_rest i v)
@[simp] theorem beginWindow_alt (i : StreamId) (v : Int) : (s.beginWindow i v).alt = s.alt :=
  congrArg (·.2.2.2.2.1) (s.beginWindow_rest i v)
@[simp] theorem beginWindow_own (i : StreamId) (v : Int) : (s.beginWindow i v).own = s.own :=
  congrArg (·.2.2.2.2.2.1) (s.beginWindow_rest i v)
@[simp] theorem beginWindow_pending (i : StreamId) (v : Int) : (s.beginWindow i v).pending = s.pending :=
  congrArg (·.2.2.2.2.2.2) (s.beginWindow_rest i v)
@[simp] theorem takeNext_layout (i : StreamId) (w : Window) (v : Int) : (s.takeNext i w v).layout = s.layout :=
  congrArg (·.1) (s.takeNext_rest i w v)
@[simp] theorem takeNext_receiver (i : StreamId) (w : Window) (v : Int) : (s.takeNext i w v).receiver = s.receiver :=
  congrArg (·.2.1) (s.takeNext_rest i w v)
@[simp] theorem takeNext_counters (i : StreamId) (w : Window) (v : Int) : (s.takeNext i w v).counters = s.counters :=
  congrArg (·.2.2.1) (s.takeNext_rest i w v)
@[simp] theorem takeNext_settings (i : StreamId) (w : Window) (v : Int) : (s.takeNext i w v).settings = s.settings :=
  congrArg (·.2.2.2.1) (s.takeNext_rest i w v)
@[simp] theorem takeNext_alt (i : StreamId) (w : Window) (v : Int) : (s.takeNext i w v).alt = s.alt :=
  congrArg (·.2.2.2.2.1) (s.takeNext_rest i w v)
@[simp] theorem takeNext_own (i : StreamId) (w : Window) (v : Int) : (s.takeNext i w v).own = s.own :=
  congrArg (·.2.2.2.2.2.1) (s.takeNext_rest i w v)
@[simp] theorem takeNext_pending (i : StreamId) (w : Window) (v : Int) : (s.takeNext i w v).pending = s.pending :=
  congrArg (·.2.2.2.2.2.2) (s.takeNext_rest i w v)
@[simp] theorem countLossy_layout (i : StreamId) : (s.countLossy i).layout = s.layout :=
  congrArg (·.1) (s.countLossy_rest i)
@[simp] theorem countLossy_receiver (i : StreamId) : (s.countLossy i).receiver = s.receiver :=
  congrArg (·.2.1) (s.countLossy_rest i)
@[simp] theorem countLossy_counters (i : StreamId) : (s.countLossy i).counters = s.counters :=
  congrArg (·.2.2.1) (s.countLossy_rest i)
@[simp] theorem countLossy_settings (i : StreamId) : (s.countLossy i).settings = s.settings :=
  congrArg (·.2.2.2.1) (s.countLossy_rest i)
@[simp] theorem countLossy_alt (i : StreamId) : (s.countLossy i).alt = s.alt :=
  congrArg (·.2.2.2.2.1) (s.countLossy_rest i)
@[simp] theorem countLossy_own (i : StreamId) : (s.countLossy i).own = s.own :=
  congrArg (·.2.2.2.2.2.1) (s.countLossy_rest i)
@[simp] theorem countLossy_pending (i : StreamId) : (s.countLossy i).pending = s.pending :=
  congrArg (·.2.2.2.2.2.2) (s.countLossy_rest i)
@[simp] theorem endRun_layout (i : StreamId) : (s.endRun i).layout = s.layout :=
  congrArg (·.1) (s.endRun_rest i)
@[simp] theorem endRun_receiver (i : StreamId) : (s.endRun i).receiver = s.receiver :=
  congrArg (·.2.1) (s.endRun_rest i)
@[simp] theorem endRun_counters (i : StreamId) : (s.endRun i).counters = s.counters :=
  congrArg (·.2.2.1) (s.endRun_rest i)
@[simp] theorem endRun_settings (i : StreamId) : (s.endRun i).settings = s.settings :=
  congrArg (·.2.2.2.1) (s.endRun_rest i)
@[simp] theorem endRun_alt (i : StreamId) : (s.endRun i).alt = s.alt :=
  congrArg (·.2.2.2.2.1) (s.endRun_rest i)
@[simp] theorem endRun_own (i : StreamId) : (s.endRun i).own = s.own :=
  congrArg (·.2.2.2.2.2.1) (s.endRun_rest i)
@[simp] theorem endRun_pending (i : StreamId) : (s.endRun i).pending = s.pending :=
  congrArg (·.2.2.2.2.2.2) (s.endRun_rest i)
@[simp] theorem lossyRetry_layout (i : StreamId) : (s.lossyRetry i).layout = s.layout :=
  congrArg (·.1) (s.lossyRetry_rest i)
@[simp] theorem lossyRetry_receiver (i : StreamId) : (s.lossyRetry i).receiver = s.receiver :=
  congrArg (·.2.1) (s.lossyRetry_rest i)
@[simp] theorem lossyRetry_counters (i : StreamId) : (s.lossyRetry i).counters = s.counters :=
  congrArg (·.2.2.1) (s.lossyRetry_rest i)
@[simp] theorem lossyRetry_settings (i : StreamId) : (s.lossyRetry i).settings = s.settings :=
  congrArg (·.2.2.2.1) (s.lossyRetry_rest i)
@[simp] theorem lossyRetry_alt (i : StreamId) : (s.lossyRetry i).alt = s.alt :=
  congrArg (·.2.2.2.2.1) (s.lossyRetry_rest i)
@[simp] theorem lossyRetry_own (i : StreamId) : (s.lossyRetry i).own = s.own :=
  congrArg (·.2.2.2.2.2.1) (s.lossyRetry_rest i)
@[simp] theorem lossyRetry_pending (i : StreamId) : (s.lossyRetry i).pending = s.pending :=
  congrArg (·.2.2.2.2.2.2) (s.lossyRetry_rest i)
@[simp] theorem takeFirst_layout (i : StreamId) (v : Int) : (s.takeFirst i v).layout = s.layout :=
  congrArg (·.1) (s.takeFirst_rest i v)
@[simp] theorem takeFirst_receiver (i : StreamId) (v : Int) : (s.takeFirst i v).receiver = s.receiver :=
  congrArg (·.2.1) (s.takeFirst_rest i v)
@[simp] theorem takeFirst_counters (i : StreamId) (v : Int) : (s.takeFirst i v).counters = s.counters :=
  congrArg (·.2.2.1) (s.takeFirst_rest i v)
@[simp] theorem takeFirst_settings (i : StreamId) (v : Int) : (s.takeFirst i v).settings = s.settings :=
  congrArg (·.2.2.2.1) (s.takeFirst_rest i v)
@[simp] theorem takeFirst_alt (i : StreamId) (v : Int) : (s.takeFirst i v).alt = s.alt :=
  congrArg (·.2.2.2.2.1) (s.takeFirst_rest i v)
@[simp] theorem takeFirst_own (i : StreamId) (v : Int) : (s.takeFirst i v).own = s.own :=
  congrArg (·.2.2.2.2.2.1) (s.takeFirst_rest i v)
@[simp] theorem takeFirst_pending (i : StreamId) (v : Int) : (s.takeFirst i v).pending = s.pending :=
  congrArg (·.2.2.2.2.2.2) (s.takeFirst_rest i v)
@[simp] theorem handInput_layout (i : StreamId) (v : Int) : (s.handInput i v).layout = s.layout :=
  congrArg (·.1) (s.handInput_rest i v)
@[simp] theorem handInput_receiver (i : StreamId) (v : Int) : (s.handInput i v).receiver = s.receiver :=
  congrArg (·.2.1) (s.handInput_rest i v)
@[simp] theorem handInput_counters (i : StreamId) (v : Int) : (s.handInput i v).counters = s.counters :=
  congrArg (·.2.2.1) (s.handInput_rest i v)
@[simp] theorem handInput_settings (i : StreamId) (v : Int) : (s.handInput i v).settings = s.settings :=
  congrArg (·.2.2.2.1) (s.handInput_rest i v)
@[simp] theorem handInput_alt (i : StreamId) (v : Int) : (s.handInput i v).alt = s.alt :=
  congrArg (·.2.2.2.2.1) (s.handInput_rest i v)
@[simp] theorem handInput_own (i : StreamId) (v : Int) : (s.handInput i v).own = s.own :=
  congrArg (·.2.2.2.2.2.1) (s.handInput_rest i v)
@[simp] theorem handInput_pending (i : StreamId) (v : Int) : (s.handInput i v).pending = s.pending :=
  congrArg (·.2.2.2.2.2.2) (s.handInput_rest i v)
@[simp] theorem loseToGap_layout (i : StreamId) : (s.loseToGap i).layout = s.layout :=
  congrArg (·.1) (s.loseToGap_rest i)
@[simp] theorem loseToGap_receiver (i : StreamId) : (s.loseToGap i).receiver = s.receiver :=
  congrArg (·.2.1) (s.loseToGap_rest i)
@[simp] theorem loseToGap_counters (i : StreamId) : (s.loseToGap i).counters = s.counters :=
  congrArg (·.2.2.1) (s.loseToGap_rest i)
@[simp] theorem loseToGap_settings (i : StreamId) : (s.loseToGap i).settings = s.settings :=
  congrArg (·.2.2.2.1) (s.loseToGap_rest i)
@[simp] theorem loseToGap_alt (i : StreamId) : (s.loseToGap i).alt = s.alt :=
  congrArg (·.2.2.2.2.1) (s.loseToGap_rest i)
@[simp] theorem loseToGap_own (i : StreamId) : (s.loseToGap i).own = s.own :=
  congrArg (·.2.2.2.2.2.1) (s.loseToGap_rest i)
@[simp] theorem loseToGap_pending (i : StreamId) : (s.loseToGap i).pending = s.pending :=
  congrArg (·.2.2.2.2.2.2) (s.loseToGap_rest i)
@[simp] theorem loseToTail_layout (i : StreamId) (r : Option GapRecord) : (s.loseToTail i r).1.layout = s.layout :=
  congrArg (·.1) (s.loseToTail_rest i r)
@[simp] theorem loseToTail_receiver (i : StreamId) (r : Option GapRecord) : (s.loseToTail i r).1.receiver = s.receiver :=
  congrArg (·.2.1) (s.loseToTail_rest i r)
@[simp] theorem loseToTail_counters (i : StreamId) (r : Option GapRecord) : (s.loseToTail i r).1.counters = s.counters :=
  congrArg (·.2.2.1) (s.loseToTail_rest i r)
@[simp] theorem loseToTail_settings (i : StreamId) (r : Option GapRecord) : (s.loseToTail i r).1.settings = s.settings :=
  congrArg (·.2.2.2.1) (s.loseToTail_rest i r)
@[simp] theorem loseToTail_alt (i : StreamId) (r : Option GapRecord) : (s.loseToTail i r).1.alt = s.alt :=
  congrArg (·.2.2.2.2.1) (s.loseToTail_rest i r)
@[simp] theorem loseToTail_own (i : StreamId) (r : Option GapRecord) : (s.loseToTail i r).1.own = s.own :=
  congrArg (·.2.2.2.2.2.1) (s.loseToTail_rest i r)
@[simp] theorem loseToTail_pending (i : StreamId) (r : Option GapRecord) : (s.loseToTail i r).1.pending = s.pending :=
  congrArg (·.2.2.2.2.2.2) (s.loseToTail_rest i r)
@[simp] theorem passInput_layout (i : StreamId) (b : Bool) (r : Option GapRecord) : (s.passInput i b r).1.layout = s.layout :=
  congrArg (·.1) (s.passInput_rest i b r)
@[simp] theorem passInput_receiver (i : StreamId) (b : Bool) (r : Option GapRecord) : (s.passInput i b r).1.receiver = s.receiver :=
  congrArg (·.2.1) (s.passInput_rest i b r)
@[simp] theorem passInput_counters (i : StreamId) (b : Bool) (r : Option GapRecord) : (s.passInput i b r).1.counters = s.counters :=
  congrArg (·.2.2.1) (s.passInput_rest i b r)
@[simp] theorem passInput_settings (i : StreamId) (b : Bool) (r : Option GapRecord) : (s.passInput i b r).1.settings = s.settings :=
  congrArg (·.2.2.2.1) (s.passInput_rest i b r)
@[simp] theorem passInput_alt (i : StreamId) (b : Bool) (r : Option GapRecord) : (s.passInput i b r).1.alt = s.alt :=
  congrArg (·.2.2.2.2.1) (s.passInput_rest i b r)
@[simp] theorem passInput_own (i : StreamId) (b : Bool) (r : Option GapRecord) : (s.passInput i b r).1.own = s.own :=
  congrArg (·.2.2.2.2.2.1) (s.passInput_rest i b r)
@[simp] theorem passInput_pending (i : StreamId) (b : Bool) (r : Option GapRecord) : (s.passInput i b r).1.pending = s.pending :=
  congrArg (·.2.2.2.2.2.2) (s.passInput_rest i b r)
@[simp] theorem carryGap_layout (i : StreamId) (g : GapSection) (b : Bool) : (s.carryGap i g b).layout = s.layout :=
  congrArg (·.1) (s.carryGap_rest i g b)
@[simp] theorem carryGap_receiver (i : StreamId) (g : GapSection) (b : Bool) : (s.carryGap i g b).receiver = s.receiver :=
  congrArg (·.2.1) (s.carryGap_rest i g b)
@[simp] theorem carryGap_counters (i : StreamId) (g : GapSection) (b : Bool) : (s.carryGap i g b).counters = s.counters :=
  congrArg (·.2.2.1) (s.carryGap_rest i g b)
@[simp] theorem carryGap_settings (i : StreamId) (g : GapSection) (b : Bool) : (s.carryGap i g b).settings = s.settings :=
  congrArg (·.2.2.2.1) (s.carryGap_rest i g b)
@[simp] theorem carryGap_alt (i : StreamId) (g : GapSection) (b : Bool) : (s.carryGap i g b).alt = s.alt :=
  congrArg (·.2.2.2.2.1) (s.carryGap_rest i g b)
@[simp] theorem carryGap_own (i : StreamId) (g : GapSection) (b : Bool) : (s.carryGap i g b).own = s.own :=
  congrArg (·.2.2.2.2.2.1) (s.carryGap_rest i g b)
@[simp] theorem carryGap_pending (i : StreamId) (g : GapSection) (b : Bool) : (s.carryGap i g b).pending = s.pending :=
  congrArg (·.2.2.2.2.2.2) (s.carryGap_rest i g b)
@[simp] theorem endSegmentBlock_layout (i : StreamId) (b : Bool) (r : Option GapRecord) : (s.endSegmentBlock i b r).layout = s.layout :=
  congrArg (·.1) (s.endSegmentBlock_rest i b r)
@[simp] theorem endSegmentBlock_receiver (i : StreamId) (b : Bool) (r : Option GapRecord) : (s.endSegmentBlock i b r).receiver = s.receiver :=
  congrArg (·.2.1) (s.endSegmentBlock_rest i b r)
@[simp] theorem endSegmentBlock_counters (i : StreamId) (b : Bool) (r : Option GapRecord) : (s.endSegmentBlock i b r).counters = s.counters :=
  congrArg (·.2.2.1) (s.endSegmentBlock_rest i b r)
@[simp] theorem endSegmentBlock_settings (i : StreamId) (b : Bool) (r : Option GapRecord) : (s.endSegmentBlock i b r).settings = s.settings :=
  congrArg (·.2.2.2.1) (s.endSegmentBlock_rest i b r)
@[simp] theorem endSegmentBlock_alt (i : StreamId) (b : Bool) (r : Option GapRecord) : (s.endSegmentBlock i b r).alt = s.alt :=
  congrArg (·.2.2.2.2.1) (s.endSegmentBlock_rest i b r)
@[simp] theorem endSegmentBlock_own (i : StreamId) (b : Bool) (r : Option GapRecord) : (s.endSegmentBlock i b r).own = s.own :=
  congrArg (·.2.2.2.2.2.1) (s.endSegmentBlock_rest i b r)
@[simp] theorem endSegmentBlock_pending (i : StreamId) (b : Bool) (r : Option GapRecord) : (s.endSegmentBlock i b r).pending = s.pending :=
  congrArg (·.2.2.2.2.2.2) (s.endSegmentBlock_rest i b r)
@[simp] theorem endSegment_layout (i : StreamId) (b : Bool) (r : Option GapRecord) : (s.endSegment i b r).layout = s.layout :=
  congrArg (·.1) (s.endSegment_rest i b r)
@[simp] theorem endSegment_receiver (i : StreamId) (b : Bool) (r : Option GapRecord) : (s.endSegment i b r).receiver = s.receiver :=
  congrArg (·.2.1) (s.endSegment_rest i b r)
@[simp] theorem endSegment_counters (i : StreamId) (b : Bool) (r : Option GapRecord) : (s.endSegment i b r).counters = s.counters :=
  congrArg (·.2.2.1) (s.endSegment_rest i b r)
@[simp] theorem endSegment_settings (i : StreamId) (b : Bool) (r : Option GapRecord) : (s.endSegment i b r).settings = s.settings :=
  congrArg (·.2.2.2.1) (s.endSegment_rest i b r)
@[simp] theorem endSegment_alt (i : StreamId) (b : Bool) (r : Option GapRecord) : (s.endSegment i b r).alt = s.alt :=
  congrArg (·.2.2.2.2.1) (s.endSegment_rest i b r)
@[simp] theorem endSegment_own (i : StreamId) (b : Bool) (r : Option GapRecord) : (s.endSegment i b r).own = s.own :=
  congrArg (·.2.2.2.2.2.1) (s.endSegment_rest i b r)
@[simp] theorem endSegment_pending (i : StreamId) (b : Bool) (r : Option GapRecord) : (s.endSegment i b r).pending = s.pending :=
  congrArg (·.2.2.2.2.2.2) (s.endSegment_rest i b r)
@[simp] theorem closeShort_layout (i : StreamId) : (s.closeShort i).layout = s.layout :=
  congrArg (·.1) (s.closeShort_rest i)
@[simp] theorem closeShort_receiver (i : StreamId) : (s.closeShort i).receiver = s.receiver :=
  congrArg (·.2.1) (s.closeShort_rest i)
@[simp] theorem closeShort_counters (i : StreamId) : (s.closeShort i).counters = s.counters :=
  congrArg (·.2.2.1) (s.closeShort_rest i)
@[simp] theorem closeShort_settings (i : StreamId) : (s.closeShort i).settings = s.settings :=
  congrArg (·.2.2.2.1) (s.closeShort_rest i)
@[simp] theorem closeShort_alt (i : StreamId) : (s.closeShort i).alt = s.alt :=
  congrArg (·.2.2.2.2.1) (s.closeShort_rest i)
@[simp] theorem closeShort_own (i : StreamId) : (s.closeShort i).own = s.own :=
  congrArg (·.2.2.2.2.2.1) (s.closeShort_rest i)
@[simp] theorem closeShort_pending (i : StreamId) : (s.closeShort i).pending = s.pending :=
  congrArg (·.2.2.2.2.2.2) (s.closeShort_rest i)
@[simp] theorem fieldInput_layout (i : StreamId) (o : WalkOver) (r : Option GapRecord) (a b : Nat) : (s.fieldInput i o r a b).1.layout = s.layout :=
  congrArg (·.1) (s.fieldInput_rest i o r a b)
@[simp] theorem fieldInput_receiver (i : StreamId) (o : WalkOver) (r : Option GapRecord) (a b : Nat) : (s.fieldInput i o r a b).1.receiver = s.receiver :=
  congrArg (·.2.1) (s.fieldInput_rest i o r a b)
@[simp] theorem fieldInput_counters (i : StreamId) (o : WalkOver) (r : Option GapRecord) (a b : Nat) : (s.fieldInput i o r a b).1.counters = s.counters :=
  congrArg (·.2.2.1) (s.fieldInput_rest i o r a b)
@[simp] theorem fieldInput_settings (i : StreamId) (o : WalkOver) (r : Option GapRecord) (a b : Nat) : (s.fieldInput i o r a b).1.settings = s.settings :=
  congrArg (·.2.2.2.1) (s.fieldInput_rest i o r a b)
@[simp] theorem fieldInput_alt (i : StreamId) (o : WalkOver) (r : Option GapRecord) (a b : Nat) : (s.fieldInput i o r a b).1.alt = s.alt :=
  congrArg (·.2.2.2.2.1) (s.fieldInput_rest i o r a b)
@[simp] theorem fieldInput_own (i : StreamId) (o : WalkOver) (r : Option GapRecord) (a b : Nat) : (s.fieldInput i o r a b).1.own = s.own :=
  congrArg (·.2.2.2.2.2.1) (s.fieldInput_rest i o r a b)
@[simp] theorem fieldInput_pending (i : StreamId) (o : WalkOver) (r : Option GapRecord) (a b : Nat) : (s.fieldInput i o r a b).1.pending = s.pending :=
  congrArg (·.2.2.2.2.2.2) (s.fieldInput_rest i o r a b)
@[simp] theorem advanceInput_layout (i : StreamId) : (s.advanceInput i).layout = s.layout :=
  congrArg (·.1) (s.advanceInput_rest i)
@[simp] theorem advanceInput_receiver (i : StreamId) : (s.advanceInput i).receiver = s.receiver :=
  congrArg (·.2.1) (s.advanceInput_rest i)
@[simp] theorem advanceInput_counters (i : StreamId) : (s.advanceInput i).counters = s.counters :=
  congrArg (·.2.2.1) (s.advanceInput_rest i)
@[simp] theorem advanceInput_settings (i : StreamId) : (s.advanceInput i).settings = s.settings :=
  congrArg (·.2.2.2.1) (s.advanceInput_rest i)
@[simp] theorem advanceInput_alt (i : StreamId) : (s.advanceInput i).alt = s.alt :=
  congrArg (·.2.2.2.2.1) (s.advanceInput_rest i)
@[simp] theorem advanceInput_own (i : StreamId) : (s.advanceInput i).own = s.own :=
  congrArg (·.2.2.2.2.2.1) (s.advanceInput_rest i)
@[simp] theorem advanceInput_pending (i : StreamId) : (s.advanceInput i).pending = s.pending :=
  congrArg (·.2.2.2.2.2.2) (s.advanceInput_rest i)
@[simp] theorem execField_layout (i : StreamId) (o : WalkOver) (r : Option GapRecord) (a b : Nat) (c : Bool) : (s.execField i o r a b c).1.layout = s.layout :=
  congrArg (·.1) (s.execField_rest i o r a b c)
@[simp] theorem execField_receiver (i : StreamId) (o : WalkOver) (r : Option GapRecord) (a b : Nat) (c : Bool) : (s.execField i o r a b c).1.receiver = s.receiver :=
  congrArg (·.2.1) (s.execField_rest i o r a b c)
@[simp] theorem execField_counters (i : StreamId) (o : WalkOver) (r : Option GapRecord) (a b : Nat) (c : Bool) : (s.execField i o r a b c).1.counters = s.counters :=
  congrArg (·.2.2.1) (s.execField_rest i o r a b c)
@[simp] theorem execField_settings (i : StreamId) (o : WalkOver) (r : Option GapRecord) (a b : Nat) (c : Bool) : (s.execField i o r a b c).1.settings = s.settings :=
  congrArg (·.2.2.2.1) (s.execField_rest i o r a b c)
@[simp] theorem execField_alt (i : StreamId) (o : WalkOver) (r : Option GapRecord) (a b : Nat) (c : Bool) : (s.execField i o r a b c).1.alt = s.alt :=
  congrArg (·.2.2.2.2.1) (s.execField_rest i o r a b c)
@[simp] theorem execField_own (i : StreamId) (o : WalkOver) (r : Option GapRecord) (a b : Nat) (c : Bool) : (s.execField i o r a b c).1.own = s.own :=
  congrArg (·.2.2.2.2.2.1) (s.execField_rest i o r a b c)
@[simp] theorem execField_pending (i : StreamId) (o : WalkOver) (r : Option GapRecord) (a b : Nat) (c : Bool) : (s.execField i o r a b c).1.pending = s.pending :=
  congrArg (·.2.2.2.2.2.2) (s.execField_rest i o r a b c)
@[simp] theorem execEntry_layout (i : StreamId) (o : WalkOver) (r : Option GapRecord) : (s.execEntry i o r).1.layout = s.layout :=
  congrArg (·.1) (s.execEntry_rest i o r)
@[simp] theorem execEntry_receiver (i : StreamId) (o : WalkOver) (r : Option GapRecord) : (s.execEntry i o r).1.receiver = s.receiver :=
  congrArg (·.2.1) (s.execEntry_rest i o r)
@[simp] theorem execEntry_counters (i : StreamId) (o : WalkOver) (r : Option GapRecord) : (s.execEntry i o r).1.counters = s.counters :=
  congrArg (·.2.2.1) (s.execEntry_rest i o r)
@[simp] theorem execEntry_settings (i : StreamId) (o : WalkOver) (r : Option GapRecord) : (s.execEntry i o r).1.settings = s.settings :=
  congrArg (·.2.2.2.1) (s.execEntry_rest i o r)
@[simp] theorem execEntry_alt (i : StreamId) (o : WalkOver) (r : Option GapRecord) : (s.execEntry i o r).1.alt = s.alt :=
  congrArg (·.2.2.2.2.1) (s.execEntry_rest i o r)
@[simp] theorem execEntry_own (i : StreamId) (o : WalkOver) (r : Option GapRecord) : (s.execEntry i o r).1.own = s.own :=
  congrArg (·.2.2.2.2.2.1) (s.execEntry_rest i o r)
@[simp] theorem execEntry_pending (i : StreamId) (o : WalkOver) (r : Option GapRecord) : (s.execEntry i o r).1.pending = s.pending :=
  congrArg (·.2.2.2.2.2.2) (s.execEntry_rest i o r)
@[simp] theorem setExpected_layout (i : StreamId) (n : Nat) : (s.setExpected i n).layout = s.layout :=
  congrArg (·.1) (s.setExpected_rest i n)
@[simp] theorem setExpected_receiver (i : StreamId) (n : Nat) : (s.setExpected i n).receiver = s.receiver :=
  congrArg (·.2.1) (s.setExpected_rest i n)
@[simp] theorem setExpected_counters (i : StreamId) (n : Nat) : (s.setExpected i n).counters = s.counters :=
  congrArg (·.2.2.1) (s.setExpected_rest i n)
@[simp] theorem setExpected_settings (i : StreamId) (n : Nat) : (s.setExpected i n).settings = s.settings :=
  congrArg (·.2.2.2.1) (s.setExpected_rest i n)
@[simp] theorem setExpected_alt (i : StreamId) (n : Nat) : (s.setExpected i n).alt = s.alt :=
  congrArg (·.2.2.2.2.1) (s.setExpected_rest i n)
@[simp] theorem setExpected_own (i : StreamId) (n : Nat) : (s.setExpected i n).own = s.own :=
  congrArg (·.2.2.2.2.2.1) (s.setExpected_rest i n)
@[simp] theorem setExpected_pending (i : StreamId) (n : Nat) : (s.setExpected i n).pending = s.pending :=
  congrArg (·.2.2.2.2.2.2) (s.setExpected_rest i n)
@[simp] theorem takeWords_layout (i : StreamId) (n : Nat) (ws : List SampleWord) : (s.takeWords i n ws).layout = s.layout :=
  congrArg (·.1) (s.takeWords_rest i n ws)
@[simp] theorem takeWords_receiver (i : StreamId) (n : Nat) (ws : List SampleWord) : (s.takeWords i n ws).receiver = s.receiver :=
  congrArg (·.2.1) (s.takeWords_rest i n ws)
@[simp] theorem takeWords_counters (i : StreamId) (n : Nat) (ws : List SampleWord) : (s.takeWords i n ws).counters = s.counters :=
  congrArg (·.2.2.1) (s.takeWords_rest i n ws)
@[simp] theorem takeWords_settings (i : StreamId) (n : Nat) (ws : List SampleWord) : (s.takeWords i n ws).settings = s.settings :=
  congrArg (·.2.2.2.1) (s.takeWords_rest i n ws)
@[simp] theorem takeWords_alt (i : StreamId) (n : Nat) (ws : List SampleWord) : (s.takeWords i n ws).alt = s.alt :=
  congrArg (·.2.2.2.2.1) (s.takeWords_rest i n ws)
@[simp] theorem takeWords_own (i : StreamId) (n : Nat) (ws : List SampleWord) : (s.takeWords i n ws).own = s.own :=
  congrArg (·.2.2.2.2.2.1) (s.takeWords_rest i n ws)
@[simp] theorem takeWords_pending (i : StreamId) (n : Nat) (ws : List SampleWord) : (s.takeWords i n ws).pending = s.pending :=
  congrArg (·.2.2.2.2.2.2) (s.takeWords_rest i n ws)
@[simp] theorem dryWalk_layout (i : StreamId) (n : Nat) (b : Bool) : (s.dryWalk i n b).1.layout = s.layout :=
  congrArg (·.1) (s.dryWalk_rest i n b)
@[simp] theorem dryWalk_receiver (i : StreamId) (n : Nat) (b : Bool) : (s.dryWalk i n b).1.receiver = s.receiver :=
  congrArg (·.2.1) (s.dryWalk_rest i n b)
@[simp] theorem dryWalk_counters (i : StreamId) (n : Nat) (b : Bool) : (s.dryWalk i n b).1.counters = s.counters :=
  congrArg (·.2.2.1) (s.dryWalk_rest i n b)
@[simp] theorem dryWalk_settings (i : StreamId) (n : Nat) (b : Bool) : (s.dryWalk i n b).1.settings = s.settings :=
  congrArg (·.2.2.2.1) (s.dryWalk_rest i n b)
@[simp] theorem dryWalk_alt (i : StreamId) (n : Nat) (b : Bool) : (s.dryWalk i n b).1.alt = s.alt :=
  congrArg (·.2.2.2.2.1) (s.dryWalk_rest i n b)
@[simp] theorem dryWalk_own (i : StreamId) (n : Nat) (b : Bool) : (s.dryWalk i n b).1.own = s.own :=
  congrArg (·.2.2.2.2.2.1) (s.dryWalk_rest i n b)
@[simp] theorem dryWalk_pending (i : StreamId) (n : Nat) (b : Bool) : (s.dryWalk i n b).1.pending = s.pending :=
  congrArg (·.2.2.2.2.2.2) (s.dryWalk_rest i n b)
@[simp] theorem takeSamples_layout (i : StreamId) (n : Nat) (ws : List SampleWord) : (s.takeSamples i n ws).1.layout = s.layout :=
  congrArg (·.1) (s.takeSamples_rest i n ws)
@[simp] theorem takeSamples_receiver (i : StreamId) (n : Nat) (ws : List SampleWord) : (s.takeSamples i n ws).1.receiver = s.receiver :=
  congrArg (·.2.1) (s.takeSamples_rest i n ws)
@[simp] theorem takeSamples_counters (i : StreamId) (n : Nat) (ws : List SampleWord) : (s.takeSamples i n ws).1.counters = s.counters :=
  congrArg (·.2.2.1) (s.takeSamples_rest i n ws)
@[simp] theorem takeSamples_settings (i : StreamId) (n : Nat) (ws : List SampleWord) : (s.takeSamples i n ws).1.settings = s.settings :=
  congrArg (·.2.2.2.1) (s.takeSamples_rest i n ws)
@[simp] theorem takeSamples_alt (i : StreamId) (n : Nat) (ws : List SampleWord) : (s.takeSamples i n ws).1.alt = s.alt :=
  congrArg (·.2.2.2.2.1) (s.takeSamples_rest i n ws)
@[simp] theorem takeSamples_own (i : StreamId) (n : Nat) (ws : List SampleWord) : (s.takeSamples i n ws).1.own = s.own :=
  congrArg (·.2.2.2.2.2.1) (s.takeSamples_rest i n ws)
@[simp] theorem takeSamples_pending (i : StreamId) (n : Nat) (ws : List SampleWord) : (s.takeSamples i n ws).1.pending = s.pending :=
  congrArg (·.2.2.2.2.2.2) (s.takeSamples_rest i n ws)
@[simp] theorem takeSegmentEnd_layout (i : StreamId) (n : Nat) : (s.takeSegmentEnd i n).layout = s.layout :=
  congrArg (·.1) (s.takeSegmentEnd_rest i n)
@[simp] theorem takeSegmentEnd_receiver (i : StreamId) (n : Nat) : (s.takeSegmentEnd i n).receiver = s.receiver :=
  congrArg (·.2.1) (s.takeSegmentEnd_rest i n)
@[simp] theorem takeSegmentEnd_counters (i : StreamId) (n : Nat) : (s.takeSegmentEnd i n).counters = s.counters :=
  congrArg (·.2.2.1) (s.takeSegmentEnd_rest i n)
@[simp] theorem takeSegmentEnd_settings (i : StreamId) (n : Nat) : (s.takeSegmentEnd i n).settings = s.settings :=
  congrArg (·.2.2.2.1) (s.takeSegmentEnd_rest i n)
@[simp] theorem takeSegmentEnd_alt (i : StreamId) (n : Nat) : (s.takeSegmentEnd i n).alt = s.alt :=
  congrArg (·.2.2.2.2.1) (s.takeSegmentEnd_rest i n)
@[simp] theorem takeSegmentEnd_own (i : StreamId) (n : Nat) : (s.takeSegmentEnd i n).own = s.own :=
  congrArg (·.2.2.2.2.2.1) (s.takeSegmentEnd_rest i n)
@[simp] theorem takeSegmentEnd_pending (i : StreamId) (n : Nat) : (s.takeSegmentEnd i n).pending = s.pending :=
  congrArg (·.2.2.2.2.2.2) (s.takeSegmentEnd_rest i n)
@[simp] theorem startRun_layout (i : StreamId) (a : Arming) : (s.startRun i a).layout = s.layout :=
  congrArg (·.1) (s.startRun_rest i a)
@[simp] theorem startRun_receiver (i : StreamId) (a : Arming) : (s.startRun i a).receiver = s.receiver :=
  congrArg (·.2.1) (s.startRun_rest i a)
@[simp] theorem startRun_counters (i : StreamId) (a : Arming) : (s.startRun i a).counters = s.counters :=
  congrArg (·.2.2.1) (s.startRun_rest i a)
@[simp] theorem startRun_settings (i : StreamId) (a : Arming) : (s.startRun i a).settings = s.settings :=
  congrArg (·.2.2.2.1) (s.startRun_rest i a)
@[simp] theorem startRun_alt (i : StreamId) (a : Arming) : (s.startRun i a).alt = s.alt :=
  congrArg (·.2.2.2.2.1) (s.startRun_rest i a)
@[simp] theorem startRun_own (i : StreamId) (a : Arming) : (s.startRun i a).own = s.own :=
  congrArg (·.2.2.2.2.2.1) (s.startRun_rest i a)
@[simp] theorem startRun_pending (i : StreamId) (a : Arming) : (s.startRun i a).pending = s.pending :=
  congrArg (·.2.2.2.2.2.2) (s.startRun_rest i a)
@[simp] theorem enterIdle_layout (i : StreamId) (b : Bool) : (s.enterIdle i b).layout = s.layout :=
  congrArg (·.1) (s.enterIdle_rest i b)
@[simp] theorem enterIdle_receiver (i : StreamId) (b : Bool) : (s.enterIdle i b).receiver = s.receiver :=
  congrArg (·.2.1) (s.enterIdle_rest i b)
@[simp] theorem enterIdle_counters (i : StreamId) (b : Bool) : (s.enterIdle i b).counters = s.counters :=
  congrArg (·.2.2.1) (s.enterIdle_rest i b)
@[simp] theorem enterIdle_settings (i : StreamId) (b : Bool) : (s.enterIdle i b).settings = s.settings :=
  congrArg (·.2.2.2.1) (s.enterIdle_rest i b)
@[simp] theorem enterIdle_alt (i : StreamId) (b : Bool) : (s.enterIdle i b).alt = s.alt :=
  congrArg (·.2.2.2.2.1) (s.enterIdle_rest i b)
@[simp] theorem enterIdle_own (i : StreamId) (b : Bool) : (s.enterIdle i b).own = s.own :=
  congrArg (·.2.2.2.2.2.1) (s.enterIdle_rest i b)
@[simp] theorem enterIdle_pending (i : StreamId) (b : Bool) : (s.enterIdle i b).pending = s.pending :=
  congrArg (·.2.2.2.2.2.2) (s.enterIdle_rest i b)
@[simp] theorem beginSegment_layout (i : StreamId) (g : BitVec 32) (t : BitVec 64) (p : BitVec 32) : (s.beginSegment i g t p).layout = s.layout :=
  congrArg (·.1) (s.beginSegment_rest i g t p)
@[simp] theorem beginSegment_receiver (i : StreamId) (g : BitVec 32) (t : BitVec 64) (p : BitVec 32) : (s.beginSegment i g t p).receiver = s.receiver :=
  congrArg (·.2.1) (s.beginSegment_rest i g t p)
@[simp] theorem beginSegment_counters (i : StreamId) (g : BitVec 32) (t : BitVec 64) (p : BitVec 32) : (s.beginSegment i g t p).counters = s.counters :=
  congrArg (·.2.2.1) (s.beginSegment_rest i g t p)
@[simp] theorem beginSegment_settings (i : StreamId) (g : BitVec 32) (t : BitVec 64) (p : BitVec 32) : (s.beginSegment i g t p).settings = s.settings :=
  congrArg (·.2.2.2.1) (s.beginSegment_rest i g t p)
@[simp] theorem beginSegment_alt (i : StreamId) (g : BitVec 32) (t : BitVec 64) (p : BitVec 32) : (s.beginSegment i g t p).alt = s.alt :=
  congrArg (·.2.2.2.2.1) (s.beginSegment_rest i g t p)
@[simp] theorem beginSegment_own (i : StreamId) (g : BitVec 32) (t : BitVec 64) (p : BitVec 32) : (s.beginSegment i g t p).own = s.own :=
  congrArg (·.2.2.2.2.2.1) (s.beginSegment_rest i g t p)
@[simp] theorem beginSegment_pending (i : StreamId) (g : BitVec 32) (t : BitVec 64) (p : BitVec 32) : (s.beginSegment i g t p).pending = s.pending :=
  congrArg (·.2.2.2.2.2.2) (s.beginSegment_rest i g t p)
@[simp] theorem enterRunning_layout (i : StreamId) (b : Bool) (g : BitVec 32) (t : BitVec 64) (p : BitVec 32) : (s.enterRunning i b g t p).layout = s.layout :=
  congrArg (·.1) (s.enterRunning_rest i b g t p)
@[simp] theorem enterRunning_receiver (i : StreamId) (b : Bool) (g : BitVec 32) (t : BitVec 64) (p : BitVec 32) : (s.enterRunning i b g t p).receiver = s.receiver :=
  congrArg (·.2.1) (s.enterRunning_rest i b g t p)
@[simp] theorem enterRunning_counters (i : StreamId) (b : Bool) (g : BitVec 32) (t : BitVec 64) (p : BitVec 32) : (s.enterRunning i b g t p).counters = s.counters :=
  congrArg (·.2.2.1) (s.enterRunning_rest i b g t p)
@[simp] theorem enterRunning_settings (i : StreamId) (b : Bool) (g : BitVec 32) (t : BitVec 64) (p : BitVec 32) : (s.enterRunning i b g t p).settings = s.settings :=
  congrArg (·.2.2.2.1) (s.enterRunning_rest i b g t p)
@[simp] theorem enterRunning_alt (i : StreamId) (b : Bool) (g : BitVec 32) (t : BitVec 64) (p : BitVec 32) : (s.enterRunning i b g t p).alt = s.alt :=
  congrArg (·.2.2.2.2.1) (s.enterRunning_rest i b g t p)
@[simp] theorem enterRunning_own (i : StreamId) (b : Bool) (g : BitVec 32) (t : BitVec 64) (p : BitVec 32) : (s.enterRunning i b g t p).own = s.own :=
  congrArg (·.2.2.2.2.2.1) (s.enterRunning_rest i b g t p)
@[simp] theorem enterRunning_pending (i : StreamId) (b : Bool) (g : BitVec 32) (t : BitVec 64) (p : BitVec 32) : (s.enterRunning i b g t p).pending = s.pending :=
  congrArg (·.2.2.2.2.2.2) (s.enterRunning_rest i b g t p)
@[simp] theorem takeArmedStart_layout (i : StreamId) (a : Arming) (g : BitVec 32) (t : BitVec 64) (p : BitVec 32) : (s.takeArmedStart i a g t p).layout = s.layout :=
  congrArg (·.1) (s.takeArmedStart_rest i a g t p)
@[simp] theorem takeArmedStart_receiver (i : StreamId) (a : Arming) (g : BitVec 32) (t : BitVec 64) (p : BitVec 32) : (s.takeArmedStart i a g t p).receiver = s.receiver :=
  congrArg (·.2.1) (s.takeArmedStart_rest i a g t p)
@[simp] theorem takeArmedStart_counters (i : StreamId) (a : Arming) (g : BitVec 32) (t : BitVec 64) (p : BitVec 32) : (s.takeArmedStart i a g t p).counters = s.counters :=
  congrArg (·.2.2.1) (s.takeArmedStart_rest i a g t p)
@[simp] theorem takeArmedStart_settings (i : StreamId) (a : Arming) (g : BitVec 32) (t : BitVec 64) (p : BitVec 32) : (s.takeArmedStart i a g t p).settings = s.settings :=
  congrArg (·.2.2.2.1) (s.takeArmedStart_rest i a g t p)
@[simp] theorem takeArmedStart_alt (i : StreamId) (a : Arming) (g : BitVec 32) (t : BitVec 64) (p : BitVec 32) : (s.takeArmedStart i a g t p).alt = s.alt :=
  congrArg (·.2.2.2.2.1) (s.takeArmedStart_rest i a g t p)
@[simp] theorem takeArmedStart_own (i : StreamId) (a : Arming) (g : BitVec 32) (t : BitVec 64) (p : BitVec 32) : (s.takeArmedStart i a g t p).own = s.own :=
  congrArg (·.2.2.2.2.2.1) (s.takeArmedStart_rest i a g t p)
@[simp] theorem takeArmedStart_pending (i : StreamId) (a : Arming) (g : BitVec 32) (t : BitVec 64) (p : BitVec 32) : (s.takeArmedStart i a g t p).pending = s.pending :=
  congrArg (·.2.2.2.2.2.2) (s.takeArmedStart_rest i a g t p)
@[simp] theorem closeRun_layout (i : StreamId) : (s.closeRun i).layout = s.layout :=
  congrArg (·.1) (s.closeRun_rest i)
@[simp] theorem closeRun_receiver (i : StreamId) : (s.closeRun i).receiver = s.receiver :=
  congrArg (·.2.1) (s.closeRun_rest i)
@[simp] theorem closeRun_counters (i : StreamId) : (s.closeRun i).counters = s.counters :=
  congrArg (·.2.2.1) (s.closeRun_rest i)
@[simp] theorem closeRun_settings (i : StreamId) : (s.closeRun i).settings = s.settings :=
  congrArg (·.2.2.2.1) (s.closeRun_rest i)
@[simp] theorem closeRun_alt (i : StreamId) : (s.closeRun i).alt = s.alt :=
  congrArg (·.2.2.2.2.1) (s.closeRun_rest i)
@[simp] theorem closeRun_own (i : StreamId) : (s.closeRun i).own = s.own :=
  congrArg (·.2.2.2.2.2.1) (s.closeRun_rest i)
@[simp] theorem closeRun_pending (i : StreamId) : (s.closeRun i).pending = s.pending :=
  congrArg (·.2.2.2.2.2.2) (s.closeRun_rest i)
@[simp] theorem testRunEnd_layout (i : StreamId) : (s.testRunEnd i).layout = s.layout :=
  congrArg (·.1) (s.testRunEnd_rest i)
@[simp] theorem testRunEnd_receiver (i : StreamId) : (s.testRunEnd i).receiver = s.receiver :=
  congrArg (·.2.1) (s.testRunEnd_rest i)
@[simp] theorem testRunEnd_counters (i : StreamId) : (s.testRunEnd i).counters = s.counters :=
  congrArg (·.2.2.1) (s.testRunEnd_rest i)
@[simp] theorem testRunEnd_settings (i : StreamId) : (s.testRunEnd i).settings = s.settings :=
  congrArg (·.2.2.2.1) (s.testRunEnd_rest i)
@[simp] theorem testRunEnd_alt (i : StreamId) : (s.testRunEnd i).alt = s.alt :=
  congrArg (·.2.2.2.2.1) (s.testRunEnd_rest i)
@[simp] theorem testRunEnd_own (i : StreamId) : (s.testRunEnd i).own = s.own :=
  congrArg (·.2.2.2.2.2.1) (s.testRunEnd_rest i)
@[simp] theorem testRunEnd_pending (i : StreamId) : (s.testRunEnd i).pending = s.pending :=
  congrArg (·.2.2.2.2.2.2) (s.testRunEnd_rest i)
@[simp] theorem reportCommit_layout (r : SlotRecord) : (s.reportCommit r).layout = s.layout :=
  congrArg (·.1) (s.reportCommit_rest r)
@[simp] theorem reportCommit_receiver (r : SlotRecord) : (s.reportCommit r).receiver = s.receiver :=
  congrArg (·.2.1) (s.reportCommit_rest r)
@[simp] theorem reportCommit_counters (r : SlotRecord) : (s.reportCommit r).counters = s.counters :=
  congrArg (·.2.2.1) (s.reportCommit_rest r)
@[simp] theorem reportCommit_settings (r : SlotRecord) : (s.reportCommit r).settings = s.settings :=
  congrArg (·.2.2.2.1) (s.reportCommit_rest r)
@[simp] theorem reportCommit_alt (r : SlotRecord) : (s.reportCommit r).alt = s.alt :=
  congrArg (·.2.2.2.2.1) (s.reportCommit_rest r)
@[simp] theorem reportCommit_own (r : SlotRecord) : (s.reportCommit r).own = s.own :=
  congrArg (·.2.2.2.2.2.1) (s.reportCommit_rest r)
@[simp] theorem reportCommit_pending (r : SlotRecord) : (s.reportCommit r).pending = s.pending :=
  congrArg (·.2.2.2.2.2.2) (s.reportCommit_rest r)
@[simp] theorem requeue_layout (n : Nat) : (s.requeue n).layout = s.layout :=
  congrArg (·.1) (s.requeue_rest n)
@[simp] theorem requeue_receiver (n : Nat) : (s.requeue n).receiver = s.receiver :=
  congrArg (·.2.1) (s.requeue_rest n)
@[simp] theorem requeue_counters (n : Nat) : (s.requeue n).counters = s.counters :=
  congrArg (·.2.2.1) (s.requeue_rest n)
@[simp] theorem requeue_settings (n : Nat) : (s.requeue n).settings = s.settings :=
  congrArg (·.2.2.2.1) (s.requeue_rest n)
@[simp] theorem requeue_alt (n : Nat) : (s.requeue n).alt = s.alt :=
  congrArg (·.2.2.2.2.1) (s.requeue_rest n)
@[simp] theorem requeue_own (n : Nat) : (s.requeue n).own = s.own :=
  congrArg (·.2.2.2.2.2.1) (s.requeue_rest n)
@[simp] theorem requeue_pending (n : Nat) : (s.requeue n).pending = s.pending :=
  congrArg (·.2.2.2.2.2.2) (s.requeue_rest n)
@[simp] theorem settleOps_layout : s.settleOps.layout = s.layout := congrArg (·.1) s.settleOps_rest
@[simp] theorem settleOps_receiver : s.settleOps.receiver = s.receiver := congrArg (·.2.1) s.settleOps_rest
@[simp] theorem settleOps_counters : s.settleOps.counters = s.counters := congrArg (·.2.2.1) s.settleOps_rest
@[simp] theorem settleOps_settings : s.settleOps.settings = s.settings := congrArg (·.2.2.2.1) s.settleOps_rest
@[simp] theorem settleOps_alt : s.settleOps.alt = s.alt := congrArg (·.2.2.2.2.1) s.settleOps_rest
@[simp] theorem settleOps_own : s.settleOps.own = s.own := congrArg (·.2.2.2.2.2.1) s.settleOps_rest
@[simp] theorem settleOps_pending : s.settleOps.pending = s.pending := congrArg (·.2.2.2.2.2.2) s.settleOps_rest

end Sys2Proof.Machine.State
end

