-- ==== Sys2Proof/Laws/Blocks.lean ====
section
/-! SUPPORT. What the shared operations leave alone of the groups, the operations, the reports and the spill buffer; and the
streams' contexts that the block assembler's operations leave. -/

namespace Sys2Proof.Machine.State

variable (s : State)

/-! ## Groups, operations, reports, free list, END-slot waits, DRAM -/

@[simp] theorem putRecord_groups (n : Nat) (r : SlotRecord) : (s.putRecord n r).groups = s.groups := rfl
@[simp] theorem putRecord_ops (n : Nat) (r : SlotRecord) : (s.putRecord n r).ops = s.ops := rfl
@[simp] theorem putRecord_report (n : Nat) (r : SlotRecord) : (s.putRecord n r).report = s.report := rfl
@[simp] theorem putRecord_freeList (n : Nat) (r : SlotRecord) : (s.putRecord n r).spill.freeList = s.spill.freeList := rfl
@[simp] theorem putRecord_endWaits (n : Nat) (r : SlotRecord) : (s.putRecord n r).spill.endWaits = s.spill.endWaits := rfl
@[simp] theorem putRecord_dram (n : Nat) (r : SlotRecord) : (s.putRecord n r).spill.dram = s.spill.dram := rfl

@[simp] theorem changeRecord_groups (n : Nat) (f : SlotRecord → SlotRecord) : (s.changeRecord n f).groups = s.groups := by
  simp only [changeRecord]
  repeat' split
  all_goals simp
@[simp] theorem changeRecord_ops (n : Nat) (f : SlotRecord → SlotRecord) : (s.changeRecord n f).ops = s.ops := by
  simp only [changeRecord]
  repeat' split
  all_goals simp
@[simp] theorem changeRecord_report (n : Nat) (f : SlotRecord → SlotRecord) : (s.changeRecord n f).report = s.report := by
  simp only [changeRecord]
  repeat' split
  all_goals simp
@[simp] theorem changeRecord_freeList (n : Nat) (f : SlotRecord → SlotRecord) : (s.changeRecord n f).spill.freeList = s.spill.freeList := by
  simp only [changeRecord]
  repeat' split
  all_goals simp
@[simp] theorem changeRecord_endWaits (n : Nat) (f : SlotRecord → SlotRecord) : (s.changeRecord n f).spill.endWaits = s.spill.endWaits := by
  simp only [changeRecord]
  repeat' split
  all_goals simp
@[simp] theorem changeRecord_dram (n : Nat) (f : SlotRecord → SlotRecord) : (s.changeRecord n f).spill.dram = s.spill.dram := by
  simp only [changeRecord]
  repeat' split
  all_goals simp

@[simp] theorem writeLines_groups (n l : Nat) (bs : List Byte) : (s.writeLines n l bs).groups = s.groups := rfl
@[simp] theorem writeLines_ops (n l : Nat) (bs : List Byte) : (s.writeLines n l bs).ops = s.ops := rfl
@[simp] theorem writeLines_report (n l : Nat) (bs : List Byte) : (s.writeLines n l bs).report = s.report := rfl
@[simp] theorem writeLines_freeList (n l : Nat) (bs : List Byte) : (s.writeLines n l bs).spill.freeList = s.spill.freeList := rfl
@[simp] theorem writeLines_endWaits (n l : Nat) (bs : List Byte) : (s.writeLines n l bs).spill.endWaits = s.spill.endWaits := rfl
@[simp] theorem writeLines_slots (n l : Nat) (bs : List Byte) : (s.writeLines n l bs).spill.slots = s.spill.slots := rfl

@[simp] theorem raise_groups (p : EventPair) : (s.raise p).groups = s.groups := by
  simp only [raise]
  repeat' split
  all_goals simp
@[simp] theorem raise_ops (p : EventPair) : (s.raise p).ops = s.ops := by
  simp only [raise]
  repeat' split
  all_goals simp
@[simp] theorem raise_freeList (p : EventPair) : (s.raise p).spill.freeList = s.spill.freeList := by
  simp only [raise]
  repeat' split
  all_goals simp
@[simp] theorem raise_endWaits (p : EventPair) : (s.raise p).spill.endWaits = s.spill.endWaits := by
  simp only [raise]
  repeat' split
  all_goals simp
@[simp] theorem raise_dram (p : EventPair) : (s.raise p).spill.dram = s.spill.dram := by
  simp only [raise]
  repeat' split
  all_goals simp
@[simp] theorem raise_slots (p : EventPair) : (s.raise p).spill.slots = s.spill.slots := by
  simp only [raise]
  repeat' split
  all_goals simp

@[simp] theorem offer_groups (e : Answer) : (s.offer e).groups = s.groups := by
  simp only [offer]
  repeat' split
  all_goals simp
@[simp] theorem offer_ops (e : Answer) : (s.offer e).ops = s.ops := by
  simp only [offer]
  repeat' split
  all_goals simp
@[simp] theorem offer_freeList (e : Answer) : (s.offer e).spill.freeList = s.spill.freeList := by
  simp only [offer]
  repeat' split
  all_goals simp
@[simp] theorem offer_endWaits (e : Answer) : (s.offer e).spill.endWaits = s.spill.endWaits := by
  simp only [offer]
  repeat' split
  all_goals simp
@[simp] theorem offer_dram (e : Answer) : (s.offer e).spill.dram = s.spill.dram := by
  simp only [offer]
  repeat' split
  all_goals simp
@[simp] theorem offer_slots (e : Answer) : (s.offer e).spill.slots = s.spill.slots := by
  simp only [offer]
  repeat' split
  all_goals simp

@[simp] theorem beginVerifies_groups (n : Nat) : (s.beginVerifies n).groups = s.groups := rfl
@[simp] theorem beginVerifies_report (n : Nat) : (s.beginVerifies n).report = s.report := rfl
@[simp] theorem beginVerifies_freeList (n : Nat) : (s.beginVerifies n).spill.freeList = s.spill.freeList := rfl
@[simp] theorem beginVerifies_endWaits (n : Nat) : (s.beginVerifies n).spill.endWaits = s.spill.endWaits := rfl
@[simp] theorem beginVerifies_dram (n : Nat) : (s.beginVerifies n).spill.dram = s.spill.dram := rfl
@[simp] theorem beginVerifies_slots (n : Nat) : (s.beginVerifies n).spill.slots = s.spill.slots := rfl

@[simp] theorem endOps_groups (p : OpKind → Bool) (e : OpEnd) : (s.endOps p e).groups = s.groups := rfl
@[simp] theorem endOps_report (p : OpKind → Bool) (e : OpEnd) : (s.endOps p e).report = s.report := rfl
@[simp] theorem endOps_freeList (p : OpKind → Bool) (e : OpEnd) : (s.endOps p e).spill.freeList = s.spill.freeList := rfl
@[simp] theorem endOps_endWaits (p : OpKind → Bool) (e : OpEnd) : (s.endOps p e).spill.endWaits = s.spill.endWaits := rfl
@[simp] theorem endOps_dram (p : OpKind → Bool) (e : OpEnd) : (s.endOps p e).spill.dram = s.spill.dram := rfl
@[simp] theorem endOps_slots (p : OpKind → Bool) (e : OpEnd) : (s.endOps p e).spill.slots = s.spill.slots := rfl

@[simp] theorem judge_ops (g : GroupId) : (s.judge g).ops = s.ops := rfl
@[simp] theorem judge_report (g : GroupId) : (s.judge g).report = s.report := rfl
@[simp] theorem judge_freeList (g : GroupId) : (s.judge g).spill.freeList = s.spill.freeList := rfl
@[simp] theorem judge_endWaits (g : GroupId) : (s.judge g).spill.endWaits = s.spill.endWaits := rfl
@[simp] theorem judge_dram (g : GroupId) : (s.judge g).spill.dram = s.spill.dram := rfl
@[simp] theorem judge_slots (g : GroupId) : (s.judge g).spill.slots = s.spill.slots := rfl

@[simp] theorem judgeFor_ops (i : StreamId) : (s.judgeFor i).ops = s.ops := rfl
@[simp] theorem judgeFor_report (i : StreamId) : (s.judgeFor i).report = s.report := rfl
@[simp] theorem judgeFor_freeList (i : StreamId) : (s.judgeFor i).spill.freeList = s.spill.freeList := rfl
@[simp] theorem judgeFor_endWaits (i : StreamId) : (s.judgeFor i).spill.endWaits = s.spill.endWaits := rfl
@[simp] theorem judgeFor_dram (i : StreamId) : (s.judgeFor i).spill.dram = s.spill.dram := rfl
@[simp] theorem judgeFor_slots (i : StreamId) : (s.judgeFor i).spill.slots = s.spill.slots := rfl

@[simp] theorem markAborted_groups (i : StreamId) : (s.markAborted i).groups = s.groups := rfl
@[simp] theorem markAborted_ops (i : StreamId) : (s.markAborted i).ops = s.ops := rfl
@[simp] theorem markAborted_report (i : StreamId) : (s.markAborted i).report = s.report := rfl
@[simp] theorem markAborted_freeList (i : StreamId) : (s.markAborted i).spill.freeList = s.spill.freeList := rfl
@[simp] theorem markAborted_endWaits (i : StreamId) : (s.markAborted i).spill.endWaits = s.spill.endWaits := rfl
@[simp] theorem markAborted_dram (i : StreamId) : (s.markAborted i).spill.dram = s.spill.dram := rfl

@[simp] theorem writeFilledLine_groups (b c : OpenBlock) : (s.writeFilledLine b c).groups = s.groups := by
  simp only [writeFilledLine]
  repeat' split
  all_goals simp
@[simp] theorem writeFilledLine_ops (b c : OpenBlock) : (s.writeFilledLine b c).ops = s.ops := by
  simp only [writeFilledLine]
  repeat' split
  all_goals simp
@[simp] theorem writeFilledLine_report (b c : OpenBlock) : (s.writeFilledLine b c).report = s.report := by
  simp only [writeFilledLine]
  repeat' split
  all_goals simp
@[simp] theorem writeFilledLine_freeList (b c : OpenBlock) : (s.writeFilledLine b c).spill.freeList = s.spill.freeList := by
  simp only [writeFilledLine]
  repeat' split
  all_goals simp
@[simp] theorem writeFilledLine_endWaits (b c : OpenBlock) : (s.writeFilledLine b c).spill.endWaits = s.spill.endWaits := by
  simp only [writeFilledLine]
  repeat' split
  all_goals simp
@[simp] theorem writeFilledLine_slots (b c : OpenBlock) : (s.writeFilledLine b c).spill.slots = s.spill.slots := by
  simp only [writeFilledLine]
  repeat' split
  all_goals simp

@[simp] theorem occupancyUp_ops (i : StreamId) : (s.occupancyUp i).ops = s.ops := rfl
@[simp] theorem occupancyUp_report (i : StreamId) : (s.occupancyUp i).report = s.report := rfl
@[simp] theorem occupancyUp_freeList (i : StreamId) : (s.occupancyUp i).spill.freeList = s.spill.freeList := rfl
@[simp] theorem occupancyUp_endWaits (i : StreamId) : (s.occupancyUp i).spill.endWaits = s.spill.endWaits := rfl
@[simp] theorem occupancyUp_dram (i : StreamId) : (s.occupancyUp i).spill.dram = s.spill.dram := rfl
@[simp] theorem occupancyUp_slots (i : StreamId) : (s.occupancyUp i).spill.slots = s.spill.slots := rfl

@[simp] theorem occupancyDown_ops (i : StreamId) : (s.occupancyDown i).ops = s.ops := rfl
@[simp] theorem occupancyDown_report (i : StreamId) : (s.occupancyDown i).report = s.report := rfl
@[simp] theorem occupancyDown_freeList (i : StreamId) : (s.occupancyDown i).spill.freeList = s.spill.freeList := rfl
@[simp] theorem occupancyDown_endWaits (i : StreamId) : (s.occupancyDown i).spill.endWaits = s.spill.endWaits := rfl
@[simp] theorem occupancyDown_dram (i : StreamId) : (s.occupancyDown i).spill.dram = s.spill.dram := rfl
@[simp] theorem occupancyDown_slots (i : StreamId) : (s.occupancyDown i).spill.slots = s.spill.slots := rfl

@[simp] theorem openIn_groups (i : StreamId) (n : Nat) (g : Option GapSection) (k : Nat) (b : Bool) : (s.openIn i n g k b).groups = s.groups := by
  simp only [openIn]
  repeat' split
  all_goals simp
@[simp] theorem openIn_ops (i : StreamId) (n : Nat) (g : Option GapSection) (k : Nat) (b : Bool) : (s.openIn i n g k b).ops = s.ops := by
  simp only [openIn]
  repeat' split
  all_goals simp
@[simp] theorem openIn_freeList (i : StreamId) (n : Nat) (g : Option GapSection) (k : Nat) (b : Bool) : (s.openIn i n g k b).spill.freeList = s.spill.freeList := by
  simp only [openIn]
  repeat' split
  all_goals simp
@[simp] theorem openIn_endWaits (i : StreamId) (n : Nat) (g : Option GapSection) (k : Nat) (b : Bool) : (s.openIn i n g k b).spill.endWaits = s.spill.endWaits := by
  simp only [openIn]
  repeat' split
  all_goals simp

@[simp] theorem closeOpen_groups (i : StreamId) (f : BitVec 16) (t : Option GapSection) : (s.closeOpen i f t).groups = s.groups := by
  simp only [closeOpen]
  repeat' split
  all_goals simp
@[simp] theorem closeOpen_report (i : StreamId) (f : BitVec 16) (t : Option GapSection) : (s.closeOpen i f t).report = s.report := by
  simp only [closeOpen]
  repeat' split
  all_goals simp
@[simp] theorem closeOpen_freeList (i : StreamId) (f : BitVec 16) (t : Option GapSection) : (s.closeOpen i f t).spill.freeList = s.spill.freeList := by
  simp only [closeOpen]
  repeat' split
  all_goals simp
@[simp] theorem closeOpen_endWaits (i : StreamId) (f : BitVec 16) (t : Option GapSection) : (s.closeOpen i f t).spill.endWaits = s.spill.endWaits := by
  simp only [closeOpen]
  repeat' split
  all_goals simp

@[simp] theorem leaveLossy_groups (i : StreamId) : (s.leaveLossy i).groups = s.groups := by simp [leaveLossy]
@[simp] theorem leaveLossy_ops (i : StreamId) : (s.leaveLossy i).ops = s.ops := by simp [leaveLossy]
@[simp] theorem leaveLossy_freeList (i : StreamId) : (s.leaveLossy i).spill.freeList = s.spill.freeList := by simp [leaveLossy]
@[simp] theorem leaveLossy_endWaits (i : StreamId) : (s.leaveLossy i).spill.endWaits = s.spill.endWaits := by simp [leaveLossy]
@[simp] theorem leaveLossy_dram (i : StreamId) : (s.leaveLossy i).spill.dram = s.spill.dram := by simp [leaveLossy]
@[simp] theorem leaveLossy_slots (i : StreamId) : (s.leaveLossy i).spill.slots = s.spill.slots := by simp [leaveLossy]

@[simp] theorem enterLossy_groups (i : StreamId) (r : LossRecord) : (s.enterLossy i r).groups = s.groups := by simp [enterLossy]
@[simp] theorem enterLossy_ops (i : StreamId) (r : LossRecord) : (s.enterLossy i r).ops = s.ops := by simp [enterLossy]
@[simp] theorem enterLossy_freeList (i : StreamId) (r : LossRecord) : (s.enterLossy i r).spill.freeList = s.spill.freeList := by simp [enterLossy]
@[simp] theorem enterLossy_endWaits (i : StreamId) (r : LossRecord) : (s.enterLossy i r).spill.endWaits = s.spill.endWaits := by simp [enterLossy]
@[simp] theorem enterLossy_dram (i : StreamId) (r : LossRecord) : (s.enterLossy i r).spill.dram = s.spill.dram := by simp [enterLossy]
@[simp] theorem enterLossy_slots (i : StreamId) (r : LossRecord) : (s.enterLossy i r).spill.slots = s.spill.slots := by simp [enterLossy]

@[simp] theorem openCarrying_groups (i : StreamId) (n k : Nat) (b : Bool) : (s.openCarrying i n k b).groups = s.groups := by
  simp only [openCarrying]
  repeat' split
  all_goals simp
@[simp] theorem openCarrying_ops (i : StreamId) (n k : Nat) (b : Bool) : (s.openCarrying i n k b).ops = s.ops := by
  simp only [openCarrying]
  repeat' split
  all_goals simp
@[simp] theorem openCarrying_freeList (i : StreamId) (n k : Nat) (b : Bool) : (s.openCarrying i n k b).spill.freeList = s.spill.freeList := by
  simp only [openCarrying]
  repeat' split
  all_goals simp
@[simp] theorem openCarrying_endWaits (i : StreamId) (n k : Nat) (b : Bool) : (s.openCarrying i n k b).spill.endWaits = s.spill.endWaits := by
  simp only [openCarrying]
  repeat' split
  all_goals simp

@[simp] theorem openEndBlock_groups (i : StreamId) (n : Nat) : (s.openEndBlock i n).groups = s.groups := by simp [openEndBlock]
@[simp] theorem openEndBlock_freeList (i : StreamId) (n : Nat) : (s.openEndBlock i n).spill.freeList = s.spill.freeList := by simp [openEndBlock]
@[simp] theorem openEndBlock_endWaits (i : StreamId) (n : Nat) : (s.openEndBlock i n).spill.endWaits = s.spill.endWaits := by simp [openEndBlock]

@[simp] theorem emitWindow_groups (i : StreamId) (b : Bool) : (s.emitWindow i b).groups = s.groups := by
  simp only [emitWindow]
  repeat' split
  all_goals simp
@[simp] theorem emitWindow_report (i : StreamId) (b : Bool) : (s.emitWindow i b).report = s.report := by
  simp only [emitWindow]
  repeat' split
  all_goals simp
@[simp] theorem emitWindow_freeList (i : StreamId) (b : Bool) : (s.emitWindow i b).spill.freeList = s.spill.freeList := by
  simp only [emitWindow]
  repeat' split
  all_goals simp
@[simp] theorem emitWindow_endWaits (i : StreamId) (b : Bool) : (s.emitWindow i b).spill.endWaits = s.spill.endWaits := by
  simp only [emitWindow]
  repeat' split
  all_goals simp

@[simp] theorem emitPartial_groups (i : StreamId) : (s.emitPartial i).groups = s.groups := by
  simp only [emitPartial]
  repeat' split
  all_goals simp
@[simp] theorem emitPartial_report (i : StreamId) : (s.emitPartial i).report = s.report := by
  simp only [emitPartial]
  repeat' split
  all_goals simp
@[simp] theorem emitPartial_freeList (i : StreamId) : (s.emitPartial i).spill.freeList = s.spill.freeList := by
  simp only [emitPartial]
  repeat' split
  all_goals simp
@[simp] theorem emitPartial_endWaits (i : StreamId) : (s.emitPartial i).spill.endWaits = s.spill.endWaits := by
  simp only [emitPartial]
  repeat' split
  all_goals simp

@[simp] theorem applyLevel_groups (i : StreamId) : (s.applyLevel i).groups = s.groups := by
  simp only [applyLevel]
  repeat' split
  all_goals simp
@[simp] theorem applyLevel_freeList (i : StreamId) : (s.applyLevel i).spill.freeList = s.spill.freeList := by
  simp only [applyLevel]
  repeat' split
  all_goals simp
@[simp] theorem applyLevel_endWaits (i : StreamId) : (s.applyLevel i).spill.endWaits = s.spill.endWaits := by
  simp only [applyLevel]
  repeat' split
  all_goals simp

@[simp] theorem beginWindow_groups (i : StreamId) (v : Int) : (s.beginWindow i v).groups = s.groups := by
  simp only [beginWindow]
  repeat' split
  all_goals simp
@[simp] theorem beginWindow_report (i : StreamId) (v : Int) : (s.beginWindow i v).report = s.report := by
  simp only [beginWindow]
  repeat' split
  all_goals simp
@[simp] theorem beginWindow_freeList (i : StreamId) (v : Int) : (s.beginWindow i v).spill.freeList = s.spill.freeList := by
  simp only [beginWindow]
  repeat' split
  all_goals simp
@[simp] theorem beginWindow_endWaits (i : StreamId) (v : Int) : (s.beginWindow i v).spill.endWaits = s.spill.endWaits := by
  simp only [beginWindow]
  repeat' split
  all_goals simp

@[simp] theorem takeNext_groups (i : StreamId) (w : Window) (v : Int) : (s.takeNext i w v).groups = s.groups := by
  simp only [takeNext]
  repeat' split
  all_goals simp
@[simp] theorem takeNext_report (i : StreamId) (w : Window) (v : Int) : (s.takeNext i w v).report = s.report := by
  simp only [takeNext]
  repeat' split
  all_goals simp
@[simp] theorem takeNext_freeList (i : StreamId) (w : Window) (v : Int) : (s.takeNext i w v).spill.freeList = s.spill.freeList := by
  simp only [takeNext]
  repeat' split
  all_goals simp
@[simp] theorem takeNext_endWaits (i : StreamId) (w : Window) (v : Int) : (s.takeNext i w v).spill.endWaits = s.spill.endWaits := by
  simp only [takeNext]
  repeat' split
  all_goals simp

@[simp] theorem countLossy_groups (i : StreamId) : (s.countLossy i).groups = s.groups := by
  simp only [countLossy]
  repeat' split
  all_goals simp
@[simp] theorem countLossy_ops (i : StreamId) : (s.countLossy i).ops = s.ops := by
  simp only [countLossy]
  repeat' split
  all_goals simp
@[simp] theorem countLossy_report (i : StreamId) : (s.countLossy i).report = s.report := by
  simp only [countLossy]
  repeat' split
  all_goals simp
@[simp] theorem countLossy_freeList (i : StreamId) : (s.countLossy i).spill.freeList = s.spill.freeList := by
  simp only [countLossy]
  repeat' split
  all_goals simp
@[simp] theorem countLossy_endWaits (i : StreamId) : (s.countLossy i).spill.endWaits = s.spill.endWaits := by
  simp only [countLossy]
  repeat' split
  all_goals simp
@[simp] theorem countLossy_dram (i : StreamId) : (s.countLossy i).spill.dram = s.spill.dram := by
  simp only [countLossy]
  repeat' split
  all_goals simp
@[simp] theorem countLossy_slots (i : StreamId) : (s.countLossy i).spill.slots = s.spill.slots := by
  simp only [countLossy]
  repeat' split
  all_goals simp

@[simp] theorem loseToGap_groups (i : StreamId) : (s.loseToGap i).groups = s.groups := by simp [loseToGap]
@[simp] theorem loseToGap_report (i : StreamId) : (s.loseToGap i).report = s.report := by simp [loseToGap]
@[simp] theorem loseToGap_freeList (i : StreamId) : (s.loseToGap i).spill.freeList = s.spill.freeList := by simp [loseToGap]
@[simp] theorem loseToGap_endWaits (i : StreamId) : (s.loseToGap i).spill.endWaits = s.spill.endWaits := by simp [loseToGap]

@[simp] theorem enterIdle_groups (i : StreamId) (b : Bool) : (s.enterIdle i b).groups = s.groups := rfl
@[simp] theorem enterIdle_report (i : StreamId) (b : Bool) : (s.enterIdle i b).report = s.report := rfl
@[simp] theorem enterIdle_freeList (i : StreamId) (b : Bool) : (s.enterIdle i b).spill.freeList = s.spill.freeList := rfl
@[simp] theorem enterIdle_endWaits (i : StreamId) (b : Bool) : (s.enterIdle i b).spill.endWaits = s.spill.endWaits := rfl
@[simp] theorem enterIdle_dram (i : StreamId) (b : Bool) : (s.enterIdle i b).spill.dram = s.spill.dram := rfl
@[simp] theorem enterIdle_slots (i : StreamId) (b : Bool) : (s.enterIdle i b).spill.slots = s.spill.slots := rfl

@[simp] theorem testRunEnd_groups (i : StreamId) : (s.testRunEnd i).groups = s.groups := by
  simp only [testRunEnd]
  repeat' split
  all_goals simp
@[simp] theorem testRunEnd_report (i : StreamId) : (s.testRunEnd i).report = s.report := by
  simp only [testRunEnd]
  repeat' split
  all_goals simp
@[simp] theorem testRunEnd_freeList (i : StreamId) : (s.testRunEnd i).spill.freeList = s.spill.freeList := by
  simp only [testRunEnd]
  repeat' split
  all_goals simp
@[simp] theorem testRunEnd_endWaits (i : StreamId) : (s.testRunEnd i).spill.endWaits = s.spill.endWaits := by
  simp only [testRunEnd]
  repeat' split
  all_goals simp
@[simp] theorem testRunEnd_dram (i : StreamId) : (s.testRunEnd i).spill.dram = s.spill.dram := by
  simp only [testRunEnd]
  repeat' split
  all_goals simp
@[simp] theorem testRunEnd_slots (i : StreamId) : (s.testRunEnd i).spill.slots = s.spill.slots := by
  simp only [testRunEnd]
  repeat' split
  all_goals simp

@[simp] theorem reportCommit_groups (r : SlotRecord) : (s.reportCommit r).groups = s.groups := by
  simp only [reportCommit]
  repeat' split
  all_goals simp
@[simp] theorem reportCommit_report (r : SlotRecord) : (s.reportCommit r).report = s.report := by
  simp only [reportCommit]
  repeat' split
  all_goals simp
@[simp] theorem reportCommit_freeList (r : SlotRecord) : (s.reportCommit r).spill.freeList = s.spill.freeList := by
  simp only [reportCommit]
  repeat' split
  all_goals simp
@[simp] theorem reportCommit_endWaits (r : SlotRecord) : (s.reportCommit r).spill.endWaits = s.spill.endWaits := by
  simp only [reportCommit]
  repeat' split
  all_goals simp
@[simp] theorem reportCommit_dram (r : SlotRecord) : (s.reportCommit r).spill.dram = s.spill.dram := by
  simp only [reportCommit]
  repeat' split
  all_goals simp
@[simp] theorem reportCommit_slots (r : SlotRecord) : (s.reportCommit r).spill.slots = s.spill.slots := by
  simp only [reportCommit]
  repeat' split
  all_goals simp

@[simp] theorem requeue_groups (n : Nat) : (s.requeue n).groups = s.groups := by
  simp only [requeue]
  repeat' split
  all_goals simp
@[simp] theorem requeue_ops (n : Nat) : (s.requeue n).ops = s.ops := by
  simp only [requeue]
  repeat' split
  all_goals simp
@[simp] theorem requeue_report (n : Nat) : (s.requeue n).report = s.report := by
  simp only [requeue]
  repeat' split
  all_goals simp
@[simp] theorem requeue_freeList (n : Nat) : (s.requeue n).spill.freeList = s.spill.freeList := by
  simp only [requeue]
  repeat' split
  all_goals simp
@[simp] theorem requeue_endWaits (n : Nat) : (s.requeue n).spill.endWaits = s.spill.endWaits := by
  simp only [requeue]
  repeat' split
  all_goals simp
@[simp] theorem requeue_dram (n : Nat) : (s.requeue n).spill.dram = s.spill.dram := by
  simp only [requeue]
  repeat' split
  all_goals simp

@[simp] theorem countEcc_groups (a b : Nat) : (s.countEcc a b).groups = s.groups := rfl
@[simp] theorem countEcc_ops (a b : Nat) : (s.countEcc a b).ops = s.ops := rfl
@[simp] theorem countEcc_report (a b : Nat) : (s.countEcc a b).report = s.report := rfl
@[simp] theorem countEcc_freeList (a b : Nat) : (s.countEcc a b).spill.freeList = s.spill.freeList := rfl
@[simp] theorem countEcc_endWaits (a b : Nat) : (s.countEcc a b).spill.endWaits = s.spill.endWaits := rfl
@[simp] theorem countEcc_dram (a b : Nat) : (s.countEcc a b).spill.dram = s.spill.dram := rfl
@[simp] theorem countEcc_slots (a b : Nat) : (s.countEcc a b).spill.slots = s.spill.slots := rfl

@[simp] theorem countEcc_stream (a b : Nat) (j : StreamId) : (s.countEcc a b).stream j = s.stream j := rfl
@[simp] theorem countEcc_layout (a b : Nat) : (s.countEcc a b).layout = s.layout := rfl
@[simp] theorem countEcc_receiver (a b : Nat) : (s.countEcc a b).receiver = s.receiver := rfl
@[simp] theorem countEcc_settings (a b : Nat) : (s.countEcc a b).settings = s.settings := rfl
@[simp] theorem countEcc_alt (a b : Nat) : (s.countEcc a b).alt = s.alt := rfl
@[simp] theorem countEcc_pending (a b : Nat) : (s.countEcc a b).pending = s.pending := rfl

@[simp] theorem abandonRead_groups (n : Nat) : (s.abandonRead n).groups = s.groups := by simp [abandonRead]
@[simp] theorem abandonRead_ops (n : Nat) : (s.abandonRead n).ops = s.ops := by simp [abandonRead]
@[simp] theorem abandonRead_report (n : Nat) : (s.abandonRead n).report = s.report := by simp [abandonRead]
@[simp] theorem abandonRead_freeList (n : Nat) : (s.abandonRead n).spill.freeList = s.spill.freeList := by simp [abandonRead]
@[simp] theorem abandonRead_endWaits (n : Nat) : (s.abandonRead n).spill.endWaits = s.spill.endWaits := by simp [abandonRead]
@[simp] theorem abandonRead_dram (n : Nat) : (s.abandonRead n).spill.dram = s.spill.dram := by simp [abandonRead]
@[simp] theorem abandonRead_slots (n : Nat) : (s.abandonRead n).spill.slots = s.spill.slots := by simp [abandonRead]

@[simp] theorem abandonRead_stream (n : Nat) (j : StreamId) : (s.abandonRead n).stream j = s.stream j := rfl
@[simp] theorem abandonRead_layout (n : Nat) : (s.abandonRead n).layout = s.layout := rfl
@[simp] theorem abandonRead_receiver (n : Nat) : (s.abandonRead n).receiver = s.receiver := rfl
@[simp] theorem abandonRead_settings (n : Nat) : (s.abandonRead n).settings = s.settings := rfl
@[simp] theorem abandonRead_alt (n : Nat) : (s.abandonRead n).alt = s.alt := rfl
@[simp] theorem abandonRead_pending (n : Nat) : (s.abandonRead n).pending = s.pending := rfl

/-- The reads that are abandoned touch the counters and the model's own count alone. -/
theorem abandonVerifies_induction (p : State → Prop) (n : Nat) (hstep : ∀ t, p t → p (t.abandonRead n)) (hs : p s) :
    p (s.abandonVerifies n) := by
  unfold abandonVerifies
  generalize s.readsInFlight n = k
  induction k with
  | zero => exact hs
  | succ k ih => exact hstep _ ih

@[simp] theorem abandonVerifies_groups (n : Nat) : (s.abandonVerifies n).groups = s.groups := s.abandonVerifies_induction (fun t => t.groups = s.groups) n (fun t h => by simp [h]) rfl
@[simp] theorem abandonVerifies_ops (n : Nat) : (s.abandonVerifies n).ops = s.ops := s.abandonVerifies_induction (fun t => t.ops = s.ops) n (fun t h => by simp [h]) rfl
@[simp] theorem abandonVerifies_report (n : Nat) : (s.abandonVerifies n).report = s.report := s.abandonVerifies_induction (fun t => t.report = s.report) n (fun t h => by simp [h]) rfl
@[simp] theorem abandonVerifies_freeList (n : Nat) : (s.abandonVerifies n).spill.freeList = s.spill.freeList := s.abandonVerifies_induction (fun t => t.spill.freeList = s.spill.freeList) n (fun t h => by simp [h]) rfl
@[simp] theorem abandonVerifies_endWaits (n : Nat) : (s.abandonVerifies n).spill.endWaits = s.spill.endWaits := s.abandonVerifies_induction (fun t => t.spill.endWaits = s.spill.endWaits) n (fun t h => by simp [h]) rfl
@[simp] theorem abandonVerifies_dram (n : Nat) : (s.abandonVerifies n).spill.dram = s.spill.dram := s.abandonVerifies_induction (fun t => t.spill.dram = s.spill.dram) n (fun t h => by simp [h]) rfl
@[simp] theorem abandonVerifies_slots (n : Nat) : (s.abandonVerifies n).spill.slots = s.spill.slots := s.abandonVerifies_induction (fun t => t.spill.slots = s.spill.slots) n (fun t h => by simp [h]) rfl

@[simp] theorem abandonVerifies_stream (n : Nat) (j : StreamId) : (s.abandonVerifies n).stream j = s.stream j := s.abandonVerifies_induction (fun t => t.stream j = s.stream j) n (fun t h => by simp [h]) rfl
@[simp] theorem abandonVerifies_layout (n : Nat) : (s.abandonVerifies n).layout = s.layout := s.abandonVerifies_induction (fun t => t.layout = s.layout) n (fun t h => by simp [h]) rfl
@[simp] theorem abandonVerifies_receiver (n : Nat) : (s.abandonVerifies n).receiver = s.receiver := s.abandonVerifies_induction (fun t => t.receiver = s.receiver) n (fun t h => by simp [h]) rfl
@[simp] theorem abandonVerifies_settings (n : Nat) : (s.abandonVerifies n).settings = s.settings := s.abandonVerifies_induction (fun t => t.settings = s.settings) n (fun t h => by simp [h]) rfl
@[simp] theorem abandonVerifies_alt (n : Nat) : (s.abandonVerifies n).alt = s.alt := s.abandonVerifies_induction (fun t => t.alt = s.alt) n (fun t h => by simp [h]) rfl
@[simp] theorem abandonVerifies_pending (n : Nat) : (s.abandonVerifies n).pending = s.pending := s.abandonVerifies_induction (fun t => t.pending = s.pending) n (fun t h => by simp [h]) rfl

@[simp] theorem verifiesGone_groups (n : Nat) : (s.verifiesGone n).groups = s.groups := by simp [verifiesGone]
@[simp] theorem verifiesGone_report (n : Nat) : (s.verifiesGone n).report = s.report := by simp [verifiesGone]
@[simp] theorem verifiesGone_freeList (n : Nat) : (s.verifiesGone n).spill.freeList = s.spill.freeList := by simp [verifiesGone]
@[simp] theorem verifiesGone_endWaits (n : Nat) : (s.verifiesGone n).spill.endWaits = s.spill.endWaits := by simp [verifiesGone]
@[simp] theorem verifiesGone_dram (n : Nat) : (s.verifiesGone n).spill.dram = s.spill.dram := by simp [verifiesGone]
@[simp] theorem verifiesGone_slots (n : Nat) : (s.verifiesGone n).spill.slots = s.spill.slots := by simp [verifiesGone]

@[simp] theorem verifiesGone_stream (n : Nat) (j : StreamId) : (s.verifiesGone n).stream j = s.stream j := by simp [verifiesGone]
@[simp] theorem verifiesGone_layout (n : Nat) : (s.verifiesGone n).layout = s.layout := by simp [verifiesGone]
@[simp] theorem verifiesGone_receiver (n : Nat) : (s.verifiesGone n).receiver = s.receiver := by simp [verifiesGone]
@[simp] theorem verifiesGone_settings (n : Nat) : (s.verifiesGone n).settings = s.settings := by simp [verifiesGone]
@[simp] theorem verifiesGone_alt (n : Nat) : (s.verifiesGone n).alt = s.alt := by simp [verifiesGone]
@[simp] theorem verifiesGone_pending (n : Nat) : (s.verifiesGone n).pending = s.pending := by simp [verifiesGone]

theorem foldl_offer_induction {α : Type} (f : State → α) (h : ∀ t e, f (offer t e) = f t) (l : List Answer) :
    f (l.foldl offer s) = f s := by
  induction l generalizing s with
  | nil => rfl
  | cons e l ih => rw [List.foldl_cons, ih, h]

@[simp] theorem settleOps_groups  : s.settleOps.groups = s.groups := by
  unfold settleOps
  exact foldl_offer_induction _ (fun t => t.groups) (fun t e => by simp) _
@[simp] theorem settleOps_freeList  : s.settleOps.spill.freeList = s.spill.freeList := by
  unfold settleOps
  exact foldl_offer_induction _ (fun t => t.spill.freeList) (fun t e => by simp) _
@[simp] theorem settleOps_endWaits  : s.settleOps.spill.endWaits = s.spill.endWaits := by
  unfold settleOps
  exact foldl_offer_induction _ (fun t => t.spill.endWaits) (fun t e => by simp) _
@[simp] theorem settleOps_dram  : s.settleOps.spill.dram = s.spill.dram := by
  unfold settleOps
  exact foldl_offer_induction _ (fun t => t.spill.dram) (fun t e => by simp) _
@[simp] theorem settleOps_slots  : s.settleOps.spill.slots = s.spill.slots := by
  unfold settleOps
  exact foldl_offer_induction _ (fun t => t.spill.slots) (fun t e => by simp) _

/-! ## What the block assembler leaves of its stream -/

/-- R85: a request that is granted takes the slot at the head of the free list. -/
theorem allocate_some {s t : State} {i : StreamId} {b : Bool} {n : Nat} (h : s.allocate i b = some (n, t)) :
    s.spill.freeList = n :: t.spill.freeList ∧ (b = true → (s.stream i).occupancy < (s.stream i).cfg.quota) ∧
      t.stream i = { s.stream i with occupancy := (s.stream i).occupancy + 1 } ∧
      t.spill.endWaits = s.spill.endWaits ∧ t.spill.dram = s.spill.dram ∧ t.spill.badLines = s.spill.badLines ∧
      t.spill.slots = s.spill.slots.put n (s.newRecord i) ∧ t.ops = s.ops ∧ t.report = s.report ∧
      ∀ g, g ≠ (s.stream i).cfg.group → t.group g = s.group g := by
  unfold allocate at h
  split at h
  · cases h
  · next slot rest hf =>
    split at h
    · cases h
    · next hq =>
      cases h
      refine ⟨by simp [hf], fun hb => ?_, by simp [occupancyUp], by simp, by simp, rfl, rfl, by simp, by simp, ?_⟩
      · subst hb; simpa using hq
      · intro g hg
        simp [occupancyUp, judgeFor, judge, setGroup_group, hg]; rfl

/-- R85: a request is refused where the free list is empty, and an ordinary one where the quota is reached. -/
theorem allocate_eq_none {s : State} {i : StreamId} {b : Bool} :
    s.allocate i b = none ↔
      s.spill.freeList = [] ∨ (b = true ∧ (s.stream i).cfg.quota ≤ (s.stream i).occupancy) := by
  unfold allocate
  split
  · next h => simp [h]
  · next h => simp [h]

/-- R71: what closing the open block leaves of its stream. -/
theorem closeOpen_stream_self {s : State} {i : StreamId} {b : OpenBlock} (h : (s.stream i).openBlock = some b)
    (f : BitVec 16) (t : Option GapSection) :
    (s.closeOpen i f t).stream i = { s.stream i with
      openBlock := none
      interimTimer := .stopped
      counts := { (s.stream i).counts with closed := (s.stream i).counts.closed + 1 }
      sendQueue := (s.stream i).sendQueue ++ [b.slot] } := by
  simp [closeOpen, h]

/-- R71: where no block is open, nothing closes. -/
@[simp] theorem closeOpen_of_none {s : State} {i : StreamId} (h : (s.stream i).openBlock = none) (f : BitVec 16)
    (t : Option GapSection) : s.closeOpen i f t = s := by
  simp [closeOpen, h]

/-- R68: what opening a block leaves of its stream. -/
@[simp] theorem openIn_stream_self (i : StreamId) (n : Nat) (g : Option GapSection) (k : Nat) (b : Bool) :
    (s.openIn i n g k b).stream i = openedStream (s.stream i) (newBlock (s.stream i) i n g k) b := by
  unfold openIn
  simp only
  split <;> simp

/-- R78, R116: what opening a block that carries what awaits leaves of its stream. -/
theorem openCarrying_stream_self (i : StreamId) (n k : Nat) (b : Bool) :
    (s.openCarrying i n k b).stream i =
      openedStream { s.stream i with loss := none, awaiting := none }
        (newBlock { s.stream i with loss := none, awaiting := none } i n (gapAtOpen (s.stream i)) k) b := by
  unfold openCarrying
  simp only
  split
  · simp [leaveLossy]
  · next h =>
    have : (s.stream i).loss = none := by simpa [Stream.lossy] using h
    simp [this]

/-- The number of operations is kept by an operation that maps them. -/
@[simp] theorem closeOpen_ops_length (i : StreamId) (f : BitVec 16) (t : Option GapSection) :
    (s.closeOpen i f t).ops.length = s.ops.length := by
  simp only [closeOpen]
  split <;> simp [beginVerifies]

@[simp] theorem emitWindow_ops_length (i : StreamId) (b : Bool) : (s.emitWindow i b).ops.length = s.ops.length := by
  simp only [emitWindow]
  repeat' split
  all_goals simp

@[simp] theorem emitPartial_ops_length (i : StreamId) : (s.emitPartial i).ops.length = s.ops.length := by
  unfold emitPartial
  split <;> simp

@[simp] theorem openEndBlock_ops_length (i : StreamId) (n : Nat) : (s.openEndBlock i n).ops.length = s.ops.length := by
  simp [openEndBlock]

/-- R55: what emitting the open window as a partial point leaves of its stream: the window is empty, the open block, in the
same slot, has the point. -/
theorem emitPartial_stream_self (i : StreamId) :
    ∃ (b : Option OpenBlock) (points : BitVec 64),
      (s.emitPartial i).stream i = { s.stream i with
        window := none, openBlock := b, counts := { (s.stream i).counts with points := points } } ∧
      b.map OpenBlock.slot = (s.stream i).openBlock.map OpenBlock.slot := by
  unfold emitPartial
  split
  · simp only [emitWindow]
    split
    · next w b hw hb =>
      refine ⟨some (placePoint b (pointBytes w.point) true), (s.stream i).counts.points + 1, ?_, by simp [hb, placePoint]⟩
      simp
    · exact ⟨(s.stream i).openBlock, (s.stream i).counts.points, by simp, rfl⟩
  · next h =>
    refine ⟨(s.stream i).openBlock, (s.stream i).counts.points, ?_, rfl⟩
    have : (s.stream i).window = none := by simpa using h
    rw [← this]

end Sys2Proof.Machine.State
end

