-- ==== Sys2Proof/Laws/Directives.lean ====
section
/-! SUPPORT. What the intake of a directive, its answer, an offered answer and a raised event do to the state, and what a
stream or group number in a parameter byte gives. -/

namespace Sys2Proof.Machine

open Sys2Proof.Safety

variable {s : State} {d : Directive}

/-! ## Answers and events -/

/-- R164: an answer offered to the response FIFO. -/
theorem State.offer_eq (s : State) (e : Answer) :
    s.offer e = { s with report := admitted s.report fun mark => e.marked mark } := by
  unfold State.offer admitted
  by_cases h : s.report.fifo.length < 32 <;> simp [Config.fifoDepth, h, State.setReport]

/-- R153: a response that is due. -/
theorem State.respond_eq (s : State) (strict : Bool) (code : Byte) (r : Reply) :
    s.respond strict code d r =
      { s with report := answered s.report (r.verdict.isAnswered (wantsReply d) strict) code d r.verdict r.payload } := by
  unfold State.respond answered wantsReply replyFlag
  split
  · rw [State.offer_eq]; rfl
  · rfl

/-- R165: a raised event. -/
theorem State.raise_eq (s : State) (p : EventPair) :
    s.raise p = { s with report := raisedIn s.report (s.enabled p) p } := by
  unfold State.raise raisedIn
  by_cases h : s.enabled p = true <;> by_cases h2 : p ∈ s.report.events <;> simp [h, h2, State.setReport]

/-! ## Directives -/

/-- A directive of the right length, in sync, has its effect and is answered. -/
theorem State.directive_taken {n : Nat} (h : Carries s d n) (code : Byte) (effect : State × Reply) :
    s.directive code d (lengthOk d n) effect = { effect.1 with
      report := answered effect.1.report (effect.2.verdict.isAnswered (wantsReply d) s.settings.strict) code d
        effect.2.verdict effect.2.payload } := by
  obtain ⟨h1, h2, h3⟩ := h
  have hl : lengthOk d n = true := by simp [lengthOk, h2, h3]
  simp only [State.directive, h1, hl, Bool.not_true, Bool.false_eq_true, if_false]
  exact State.respond_eq ..

/-- R154: a byte below 8 is a stream number. -/
theorem streamOf_ofNat (i : StreamId) {b : Byte} (h : b = BitVec.ofNat 8 i.val) : streamOf b = some i := by
  subst h; revert i; decide

/-- R154: a byte below 8 is a group number. -/
theorem groupOf_ofNat (g : GroupId) {b : Byte} (h : b = BitVec.ofNat 8 g.val) : groupOf b = some g := by
  subst h; revert g; decide

theorem streamOf_none {b : Byte} (h : 8 ≤ b.toNat) : streamOf b = none := by
  simp [streamOf, Nat.not_lt.2 h]

theorem groupOf_none {b : Byte} (h : 8 ≤ b.toNat) : groupOf b = none := by
  simp [groupOf, Nat.not_lt.2 h]

/-- R154: an annotation word number below 4. -/
theorem noteOf_ofNat (w : Fin 4) {b : Byte} (h : b = BitVec.ofNat 8 w.val) : noteOf b = some w := by
  subst h; revert w; decide

/-- R154: off and on. -/
theorem switchOf_ofNat (x : Bool) {b : Byte} (h : b = BitVec.ofNat 8 x.toNat) : switchOf b = some x := by
  subst h; revert x; decide

theorem withStream_some {p : List Byte} {i : StreamId} (h : byteAt p 0 = BitVec.ofNat 8 i.val)
    (f : StreamId → State × Reply) : withStream p s f = f i := by
  simp [withStream, streamOf_ofNat i h]

theorem withGroup_some {p : List Byte} {g : GroupId} (h : byteAt p 0 = BitVec.ofNat 8 g.val)
    (f : GroupId → State × Reply) : withGroup p s f = f g := by
  simp [withGroup, groupOf_ofNat g h]

/-- R99: what the close of a slot's block does to the pending operations. -/
theorem beginVerifies_ops (s : State) (slot : Nat) : (s.beginVerifies slot).ops = verifiesBegun slot s.ops := by
  show s.ops.map _ = s.ops.map _
  congr 1
  funext o
  obtain ⟨tag, reply, kind, ended⟩ := o
  cases kind <;> rfl

end Sys2Proof.Machine
end

