-- ==== Sys2Proof/Laws/Formats.lean ====
section
/-! SUPPORT. Little-endian fields, the saturating counters, and the header as bytes: lengths and fields read back. -/

namespace Sys2Proof.Machine

/-! ## Little-endian fields -/

@[simp] theorem length_leBytes (size n : Nat) : (leBytes size n).length = size := by
  induction size generalizing n with
  | zero => rfl
  | succ k ih => simp [leBytes, ih]

/-- The number in the little-endian bytes of `n` is `n`, cut to their size. -/
theorem leNat_leBytes (size n : Nat) : leNat (leBytes size n) = n % 256 ^ size := by
  induction size generalizing n with
  | zero => simp [leBytes, leNat, Nat.mod_one]
  | succ k ih =>
    simp only [leBytes, leNat, ih]
    rw [Nat.pow_succ, Nat.mul_comm (256 ^ k) 256, Nat.mod_mul]
    simp

/-- A field that stands behind `front` bytes is read back. -/
theorem field_leBytes (front back : List Byte) (size n : Nat) :
    field (front ++ (leBytes size n ++ back)) front.length size = n % 256 ^ size := by
  simp [field, List.drop_left', List.take_left', leNat_leBytes]

theorem length_splice {bs new : List Byte} {offset : Nat} (h : offset + new.length ≤ bs.length) :
    (splice bs offset new).length = bs.length := by
  simp [splice]; omega

/-! ## Counters (R168) -/

theorem satAdd_zero (c : BitVec 32) : satAdd c 0 = c := by
  have := c.isLt
  apply BitVec.eq_of_toNat_eq
  simp [satAdd]; omega

theorem satAdd_one (c : BitVec 32) : satAdd c 1 = if c = 0xFFFFFFFF#32 then 0xFFFFFFFF#32 else c + 1 := by
  unfold satAdd
  split
  · next h => subst h; rfl
  · next h =>
    have : c.toNat ≠ 0xFFFFFFFF := fun e => h (BitVec.eq_of_toNat_eq (by simpa using e))
    have := c.isLt
    apply BitVec.eq_of_toNat_eq
    simp; omega

/-- A saturating counter never falls. -/
theorem le_satAdd (c : BitVec 32) (n : Nat) : c ≤ satAdd c n := by
  have := c.isLt
  simp [BitVec.le_def, satAdd]; omega

/-! ## The header (R171) -/

theorem length_notes (notes : Vector (BitVec 32) 4) : ((notes.toList.map fun w => leBytes 4 w.toNat).flatten).length = 16 := by
  rw [List.length_flatten, List.map_map, show (List.length ∘ fun w : BitVec 32 => leBytes 4 w.toNat) = fun _ => 4 by
    funext w; simp]
  simp

@[simp] theorem BlockHeader.length_fieldBytes (h : BlockHeader) : h.fieldBytes.length = 56 := by
  simp only [BlockHeader.fieldBytes, List.length_append, length_leBytes, length_notes, List.length_cons, List.length_nil]

@[simp] theorem BlockHeader.length_bytes (h : BlockHeader) : h.bytes.length = 64 := by
  simp [BlockHeader.bytes]

@[simp] theorem GapSection.length_bytes (g : GapSection) : g.bytes.length = 32 := by
  simp [GapSection.bytes]

/-- R68, R171: header and gap section are as long as the header length says. -/
theorem length_header (h : BlockHeader) (gap : Option GapSection) :
    (h.bytes ++ gapBytes gap).length = headerLength gap := by
  cases gap <;> simp [gapBytes, headerLength]

/-- R171: the flags field of a block's bytes. -/
theorem imageFlags_bytes (h : BlockHeader) (back : List Byte) : imageFlags (h.bytes ++ back) = h.flags := by
  have key : field (h.bytes ++ back) 14 2 = h.flags.toNat := by
    let front := leBytes 1 h.stream ++ leBytes 1 h.run.toNat ++ leBytes 1 h.source ++ [h.mode.code, h.signedness.code]
      ++ leBytes 1 h.level ++ leBytes 1 h.mode.pointSize ++ leBytes 7 h.firstIndex
    have hf : front.length = 14 := by simp [front]
    have := field_leBytes front (leBytes 4 h.segment.toNat ++ leBytes 4 h.sequence.toNat ++ leBytes 2 (h.factor - 1)
      ++ leBytes 2 h.pointCount ++ leBytes 8 h.startTime ++ leBytes 4 h.period
      ++ (h.notes.toList.map fun w => leBytes 4 w.toNat).flatten ++ leBytes 4 h.payloadCrc.toNat
      ++ leBytes 4 h.headerCrc.toNat ++ back) 2 h.flags.toNat
    rw [hf] at this
    have hm : h.flags.toNat % 256 ^ 2 = h.flags.toNat := Nat.mod_eq_of_lt h.flags.isLt
    rw [hm] at this
    rw [← this]
    simp only [BlockHeader.bytes, BlockHeader.fieldBytes, front, List.append_assoc]
  simp [imageFlags, Offset.flags, key]

end Sys2Proof.Machine
end

