-- ==== Sys2Proof/Laws/Memory.lean ====
section
/-! SUPPORT. The stacked DRAM: a read after a write, and the canonical form, which every operation on the memory keeps; and
the slot records: a find after a put or an erase. -/

namespace Sys2Proof.Machine

/-! ## One byte -/

/-- A write leaves every other address as it reads. -/
theorem Memory.read_write_other {m : Memory} {a x : Nat} (b : Byte) (h : x ≠ a) :
    (Memory.write m a b).read x = Memory.read m x := by
  induction m with
  | nil => simp only [Memory.write]; split <;> simp [Memory.read, Ne.symm h]
  | cons c rest ih =>
    obtain ⟨k, v⟩ := c
    simp only [Memory.write]
    split
    · simp [Memory.read, ih]
    · split
      · next _ hk => subst hk; split <;> simp [Memory.read, Ne.symm h]
      · split <;> simp [Memory.read, Ne.symm h]

/-- No entry of a canonical memory stands below its first address. -/
theorem Memory.read_below {k a : Nat} {v : Byte} {rest : Memory} (h : Memory.wf ((k, v) :: rest)) (ha : a < k) :
    Memory.read ((k, v) :: rest) a = 0 := by
  have key : ∀ m : Memory, (∀ c ∈ m, a < c.1) → Memory.read m a = 0 := by
    intro m
    induction m with
    | nil => simp [Memory.read]
    | cons c rest ih =>
      intro hc
      have h1 := hc c (by simp)
      simp only [Memory.read, if_neg (Nat.ne_of_gt h1)]
      exact ih fun d hd => hc d (by simp [hd])
  apply key
  have hp := h.1
  simp only [List.map_cons, List.pairwise_cons, List.mem_map, forall_exists_index, and_imp,
    forall_apply_eq_imp_iff₂] at hp
  intro c hc
  rcases List.mem_cons.1 hc with rfl | hm
  · exact ha
  · exact Nat.lt_trans ha (hp.1 c hm)

theorem Memory.wf_tail {c : Host.Cell} {rest : Memory} (h : Memory.wf (c :: rest)) : Memory.wf rest :=
  ⟨(List.pairwise_cons.1 h.1).2, fun d hd => h.2 d (by simp [hd])⟩

/-- In a canonical memory, the address written reads as what was written. -/
theorem Memory.read_write_same {m : Memory} (hm : Memory.wf m) (a : Nat) (b : Byte) :
    (Memory.write m a b).read a = b := by
  induction m with
  | nil => simp only [Memory.write]; split <;> simp_all [Memory.read]
  | cons c rest ih =>
    obtain ⟨k, v⟩ := c
    simp only [Memory.write]
    split
    · next h => simp only [Memory.read, if_neg (Nat.ne_of_lt h)]; exact ih (Memory.wf_tail hm)
    · split
      · next _ hk =>
        subst hk
        split
        · next hb =>
          subst hb
          cases rest with
          | nil => simp [Memory.read]
          | cons d rest =>
            obtain ⟨j, u⟩ := d
            refine Memory.read_below (Memory.wf_tail hm) ?_
            have := (List.pairwise_cons.1 hm.1).1 j (by simp)
            exact this
        · simp [Memory.read]
      · next h1 h2 =>
        split
        · next hb => subst hb; exact Memory.read_below hm (by omega)
        · simp [Memory.read]

/-- The addresses of a memory after a write: those before it, and the one written. -/
theorem Memory.mem_write {m : Memory} {a : Nat} {b : Byte} {c : Host.Cell} (h : c ∈ Memory.write m a b) :
    c ∈ m ∨ (c = (a, b) ∧ b ≠ 0) := by
  induction m with
  | nil => by_cases hb : b = 0 <;> simp_all [Memory.write]
  | cons d rest ih =>
    obtain ⟨k, v⟩ := d
    simp only [Memory.write] at h
    split at h
    · rcases List.mem_cons.1 h with rfl | h
      · simp
      · rcases ih h with h | h
        · simp [h]
        · exact .inr h
    · split at h
      · split at h
        · simp [h]
        · rcases List.mem_cons.1 h with rfl | h
          · simp_all
          · simp [h]
      · split at h
        · exact .inl h
        · rcases List.mem_cons.1 h with rfl | h
          · simp_all
          · exact .inl h

/-- A write keeps the canonical form. -/
theorem Memory.wf_write {m : Memory} (hm : Memory.wf m) (a : Nat) (b : Byte) : Memory.wf (Memory.write m a b) := by
  refine ⟨?_, fun c hc => ?_⟩
  · induction m with
    | nil => simp only [Memory.write]; split <;> simp
    | cons d rest ih =>
      obtain ⟨k, v⟩ := d
      have hp := List.pairwise_cons.1 hm.1
      simp only [Memory.write]
      split
      · next hk =>
        refine List.pairwise_cons.2 ⟨?_, ih (Memory.wf_tail hm)⟩
        intro x hx
        obtain ⟨c, hc, rfl⟩ := List.mem_map.1 hx
        rcases Memory.mem_write hc with h | ⟨rfl, -⟩
        · exact hp.1 _ (List.mem_map.2 ⟨c, h, rfl⟩)
        · exact hk
      · split
        · next _ hk => subst hk; split; exacts [hp.2, List.pairwise_cons.2 hp]
        · next h1 h2 =>
          split
          · exact hm.1
          · refine List.pairwise_cons.2 ⟨?_, hm.1⟩
            intro x hx
            have hka : a < k := by omega
            rcases List.mem_cons.1 hx with rfl | hx
            · exact hka
            · exact Nat.lt_trans hka (hp.1 x hx)
  · rcases Memory.mem_write hc with h | ⟨rfl, hb⟩
    · exact hm.2 c h
    · exact hb

/-! ## Runs of bytes -/

/-- Writing bytes one after another keeps the canonical form. -/
theorem Memory.wf_writeAll {m : Memory} (hm : Memory.wf m) (a : Nat) (bs : List Byte) :
    Memory.wf (Memory.writeAll m a bs) := by
  induction bs generalizing m a with
  | nil => exact hm
  | cons b bs ih => exact ih (Memory.wf_write hm a b) _

/-- Bytes written leave every address outside them as it reads. -/
theorem Memory.read_writeAll_outside (m : Memory) (a : Nat) (bs : List Byte) {x : Nat}
    (h : x < a ∨ a + bs.length ≤ x) : (Memory.writeAll m a bs).read x = Memory.read m x := by
  induction bs generalizing m a with
  | nil => rfl
  | cons b bs ih =>
    simp only [List.length_cons] at h
    rw [Memory.writeAll, ih _ _ (by omega), Memory.read_write_other b (by omega)]

/-- Bytes written into a canonical memory read back. -/
theorem Memory.read_writeAll_inside {m : Memory} (hm : Memory.wf m) (a : Nat) (bs : List Byte) {k : Nat}
    (h : k < bs.length) : (Memory.writeAll m a bs).read (a + k) = bs[k] := by
  induction bs generalizing m a k with
  | nil => simp at h
  | cons b bs ih =>
    cases k with
    | zero =>
      rw [Memory.writeAll, Memory.read_writeAll_outside _ _ _ (by omega)]
      simpa using Memory.read_write_same hm a b
    | succ k =>
      have := ih (Memory.wf_write hm a b) (a + 1) (k := k) (by simpa using h)
      rw [Memory.writeAll, show a + (k + 1) = a + 1 + k by omega, this]
      rfl

@[simp] theorem Memory.length_readAll (m : Memory) (a n : Nat) : (Memory.readAll m a n).length = n := by
  induction n generalizing a with
  | zero => rfl
  | succ n ih => simp [Memory.readAll, ih]

theorem Memory.getElem_readAll (m : Memory) (a n : Nat) {k : Nat} (h : k < n) :
    (Memory.readAll m a n)[k]'(by simpa using h) = Memory.read m (a + k) := by
  induction n generalizing a k with
  | zero => omega
  | succ n ih =>
    cases k with
    | zero => rfl
    | succ k =>
      simp only [Memory.readAll, List.getElem_cons_succ]
      rw [ih (a + 1) (by omega)]
      congr 1; omega

/-- Bytes written into a canonical memory read back, as a run. -/
theorem Memory.readAll_writeAll {m : Memory} (hm : Memory.wf m) (a : Nat) (bs : List Byte) :
    Memory.readAll (Memory.writeAll m a bs) a bs.length = bs := by
  apply List.ext_getElem (by simp)
  intro k h1 h2
  rw [Memory.getElem_readAll _ _ _ h2, Memory.read_writeAll_inside hm a bs h2]

/-- A shorter read from the same address is the front of a longer one. -/
theorem Memory.take_readAll (m : Memory) (a : Nat) {n k : Nat} (h : k ≤ n) :
    (Memory.readAll m a n).take k = Memory.readAll m a k := by
  apply List.ext_getElem (by simpa using h)
  intro j h1 h2
  simp only [Memory.length_readAll] at h2
  rw [List.getElem_take, Memory.getElem_readAll _ _ _ (by omega), Memory.getElem_readAll _ _ _ h2]

/-- The memory after reset is in its canonical form. -/
theorem Memory.wf_reset : Memory.wf State.reset.spill.dram := ⟨.nil, by intro c hc; cases hc⟩

/-! ## Lines (R91) -/

/-- Padding to whole lines adds fewer than 64 bytes, and none to whole lines. -/
theorem length_padLines (bs : List Byte) : (padLines bs).length = lineCount bs.length * 64 := by
  simp only [padLines, List.length_append, List.length_replicate, lineCount, Config.lineBytes]
  omega

theorem padLines_whole {bs : List Byte} {n : Nat} (h : bs.length = 64 * n) : padLines bs = bs := by
  simp only [padLines, lineCount, Config.lineBytes, h]
  rw [show (64 * n + 64 - 1) / 64 * 64 - 64 * n = 0 by omega]
  simp

/-- R91: what writing lines into a slot does to the DRAM. -/
theorem State.writeLines_spill_dram (s : State) (slot line : Nat) (bs : List Byte) :
    (s.writeLines slot line bs).spill.dram = s.spill.dram.writeAll (slot * 65536 + line * 64) (padLines bs) := rfl

/-- R91: lines written leave every byte outside them. -/
theorem State.read_writeLines_outside (s : State) (slot line : Nat) (bs : List Byte) {a : Nat}
    (h : a < slot * 65536 + line * 64 ∨ slot * 65536 + line * 64 + lineCount bs.length * 64 ≤ a) :
    (s.writeLines slot line bs).spill.dram.read a = s.spill.dram.read a :=
  Memory.read_writeAll_outside _ _ _ (by rw [length_padLines]; exact h)

/-- R91: the writing of lines keeps the canonical form. -/
theorem State.wf_writeLines {s : State} (h : Memory.wf s.spill.dram) (slot line : Nat) (bs : List Byte) :
    Memory.wf (s.writeLines slot line bs).spill.dram := Memory.wf_writeAll h _ _

/-! ## Slot records (R83) -/

theorem SlotMap.find_put_self (m : SlotMap) (k : Nat) (r : SlotRecord) : (SlotMap.put m k r).find k = some r := by
  induction m with
  | nil => simp [SlotMap.put, SlotMap.find]
  | cons c rest ih =>
    obtain ⟨j, q⟩ := c
    simp only [SlotMap.put]
    split
    · next h => simp [SlotMap.find, Nat.ne_of_lt h, ih]
    · split <;> simp [SlotMap.find]

theorem SlotMap.find_put_other (m : SlotMap) {k a : Nat} (r : SlotRecord) (h : a ≠ k) :
    (SlotMap.put m k r).find a = SlotMap.find m a := by
  induction m with
  | nil => simp [SlotMap.put, SlotMap.find, Ne.symm h]
  | cons c rest ih =>
    obtain ⟨j, q⟩ := c
    simp only [SlotMap.put]
    split
    · simp [SlotMap.find, ih]
    · split
      · next _ hj => subst hj; simp [SlotMap.find, Ne.symm h]
      · simp [SlotMap.find, Ne.symm h]

theorem SlotMap.find_put (m : SlotMap) (k a : Nat) (r : SlotRecord) :
    (SlotMap.put m k r).find a = if a = k then some r else SlotMap.find m a := by
  by_cases h : a = k
  · subst h; simp [SlotMap.find_put_self]
  · simp [h, SlotMap.find_put_other]

theorem SlotMap.find_erase_other (m : SlotMap) {k a : Nat} (h : a ≠ k) :
    (SlotMap.erase m k).find a = SlotMap.find m a := by
  induction m with
  | nil => rfl
  | cons c rest ih =>
    obtain ⟨j, q⟩ := c
    simp only [SlotMap.erase]
    split
    · next hj => subst hj; simp [SlotMap.find, Ne.symm h]
    · simp [SlotMap.find, ih]

/-- A number outside the map's keys has no record. -/
theorem SlotMap.find_eq_none {m : SlotMap} {k : Nat} : SlotMap.find m k = none ↔ k ∉ m.map Prod.fst := by
  induction m with
  | nil => simp [SlotMap.find]
  | cons c rest ih =>
    obtain ⟨j, q⟩ := c
    simp only [SlotMap.find, List.map_cons, List.mem_cons, not_or]
    split
    · next h => simp [h]
    · next h => simp [ih, Ne.symm h]

/-- Where no key stands twice, an erased number has no record. -/
theorem SlotMap.find_erase_self {m : SlotMap} (hm : (m.map Prod.fst).Nodup) (k : Nat) :
    (SlotMap.erase m k).find k = none := by
  induction m with
  | nil => rfl
  | cons c rest ih =>
    obtain ⟨j, q⟩ := c
    obtain ⟨h1, h2⟩ := List.nodup_cons.1 hm
    simp only [SlotMap.erase]
    split
    · next hj => subst hj; exact SlotMap.find_eq_none.2 h1
    · next hj => simp [SlotMap.find, hj, ih h2]

theorem SlotMap.keys_erase_sublist (m : SlotMap) (k : Nat) :
    ((SlotMap.erase m k).map Prod.fst).Sublist (m.map Prod.fst) := by
  induction m with
  | nil => exact .slnil
  | cons c rest ih =>
    obtain ⟨j, q⟩ := c
    simp only [SlotMap.erase]
    split
    · simp
    · simpa using ih

end Sys2Proof.Machine
end

