-- ==== Sys2Proof/Laws/Slots.lean ====
section
/-! SUPPORT. DRAM reads without findings, the freeing of a slot and the commit of an entry, for which no stream waits; the
settling of operations. -/

namespace Sys2Proof.Machine.State

/-! ## Reads (R92) -/

theorem flatten_chunks (l : List Byte) (n : Nat) (h : l.length = n * 64) :
    ((List.range n).map fun k => (l.drop (k * 64)).take 64).flatten = l := by
  induction n generalizing l with
  | zero => simp at h; subst h; rfl
  | succ n ih =>
    rw [List.range_succ_eq_map, List.map_cons, List.map_map, List.flatten_cons]
    have := ih (l.drop 64) (by simp; omega)
    rw [show ((fun k => List.take 64 (List.drop (k * 64) l)) ∘ Nat.succ) = fun k => ((l.drop 64).drop (k * 64)).take 64 by
      funext k; simp [List.drop_drop]; congr 2; omega]
    rw [this]; simp

/-- R92: a read without findings, where no line stands uncorrectable, gives the stored bytes. -/
theorem readBlock_clean {s : State} (h : s.spill.badLines = []) (slot n : Nat) :
    s.readBlock slot n [] = ⟨s.spill.dram.readAll (slot * 65536) n, 0, []⟩ := by
  have hf : ∀ l, lineFinding (s.standingFlips slot l) [] l = none := by
    intro l; simp [standingFlips, h, lineFinding]
  simp only [readBlock, hf]
  have e1 : ((List.range (lineCount n)).map fun l =>
      ((s.storedBytes slot (lineCount n * Config.lineBytes)).drop (l * Config.lineBytes)).take Config.lineBytes).flatten =
      s.storedBytes slot (lineCount n * Config.lineBytes) :=
    flatten_chunks _ _ (by simp [storedBytes, Config.lineBytes])
  rw [e1]
  simp only [storedBytes]
  rw [Memory.take_readAll _ _ (by simp [lineCount, Config.lineBytes]; omega)]
  simp [slotAddress, Config.slotBytes]

/-- R92: a read without findings changes nothing. -/
theorem noteRead_clean {s : State} (h : s.spill.badLines = []) (slot : Nat) (bs : List Byte) :
    s.noteRead slot ⟨bs, 0, []⟩ = s := by
  cases s
  simp_all [noteRead, countEcc, satAdd_zero, setSpill, setCounters]
  cases ‹Spill›
  simp_all

/-! ## Settling (R158) -/

@[simp] theorem settleOps_spill (s : State) : s.settleOps.spill = s.spill := by
  unfold settleOps
  exact foldl_offer_induction _ (fun t => t.spill) (fun t e => by unfold offer; split <;> rfl) _

/-- R164: the settling of operations raises no event. -/
@[simp] theorem settleOps_events (s : State) : s.settleOps.report.events = s.report.events := by
  unfold settleOps
  exact foldl_offer_induction _ (fun t => t.report.events) (fun t e => by unfold offer; split <;> rfl) _

/-! ## Freeing and committing where no stream waits (R86, R128) -/

/-- R86: a held slot joins the tail of the free list, its record is gone, and its stream's occupancy falls by one. -/
theorem freeSlot_spec {s : State} {n : Nat} {r : SlotRecord} (h : s.slotRecord n = some r)
    (hw : s.spill.endWaits = []) :
    (s.freeSlot n).spill.freeList = s.spill.freeList ++ [n] ∧ (s.freeSlot n).spill.endWaits = [] ∧
    (s.freeSlot n).spill.dram = s.spill.dram ∧ (s.freeSlot n).spill.slots = s.spill.slots.erase n ∧
    (s.freeSlot n).alt = s.alt ∧ (s.freeSlot n).report = s.report ∧
    (∀ j, j ≠ r.stream → (s.freeSlot n).stream j = s.stream j) ∧
    (s.freeSlot n).stream r.stream = { s.stream r.stream with occupancy := (s.stream r.stream).occupancy - 1 } ∧
    (s.freeSlot n).layout = s.layout ∧ (s.freeSlot n).settings = s.settings ∧ (s.freeSlot n).receiver = s.receiver ∧
    (s.freeSlot n).pending = s.pending := by
  let t := (s.verifiesGone n).occupancyDown r.stream
  have e : s.freeSlot n = t.setSpill { t.spill with
      slots := t.spill.slots.erase n, freeList := s.spill.freeList ++ [n] } := by
    simp only [freeSlot, h, placeFreed, t]
    simp [hw, setSpill]
  rw [e]
  refine ⟨by simp, by simp [t, hw], by simp [t], by simp [t], by simp [t], by simp [t], fun j hj => by simp [t, hj], ?_,
    by simp [t], by simp [t], by simp [t], by simp [t]⟩
  simp [t, occupancyDown]

/-- R128: the entry at the head of the outstanding list is committed. -/
theorem commitHead_spec {s : State} {b : SentBlock} {rest : List SentBlock} {r : SlotRecord}
    (ho : s.alt.outstanding = b :: rest) (h : s.slotRecord b.slot = some r) (hw : s.spill.endWaits = []) :
    s.commitHead.alt = { s.alt with outstanding := rest } ∧
    s.commitHead.spill.freeList = s.spill.freeList ++ [b.slot] ∧ s.commitHead.spill.endWaits = [] ∧
    s.commitHead.spill.dram = s.spill.dram ∧ s.commitHead.spill.slots = s.spill.slots.erase b.slot ∧
    s.commitHead.report = s.report ∧ (∀ j, j ≠ r.stream → s.commitHead.stream j = s.stream j) ∧
    (∀ j, (s.commitHead.stream j).counts.committed =
      (s.stream j).counts.committed + (if r.stream = j ∧ r.aborted = false then 1 else 0)) ∧
    s.commitHead.layout = s.layout ∧ s.commitHead.settings = s.settings ∧ s.commitHead.receiver = s.receiver := by
  let u := s.setAlt { s.alt with outstanding := rest }
  have hr : u.slotRecord b.slot = some r := h
  have ht : s.commitHead = (u.reportCommit r).freeSlot b.slot := by
    simp only [commitHead, ho]
    rw [show (s.setAlt { s.alt with outstanding := rest }) = u from rfl, hr]
  have h2 : (u.reportCommit r).slotRecord b.slot = some r := by
    simp only [slotRecord, reportCommit_slots]; exact h
  obtain ⟨a1, a2, a3, a4, a5, a6, a7, a8, a9, a10, a11, -⟩ :=
    freeSlot_spec (s := u.reportCommit r) h2 (by simp [u, hw])
  rw [ht]
  refine ⟨by rw [a5]; simp [u], by rw [a1]; simp [u], a2, by rw [a3]; simp [u], by rw [a4]; simp [u],
    by rw [a6]; simp [u], fun j hj => by rw [a7 j hj, reportCommit_stream_other _ _ hj]; simp [u], ?_,
    by rw [a9]; simp [u], by rw [a10]; simp [u], by rw [a11]; simp [u]⟩
  intro j
  by_cases hj : j = r.stream
  · subst hj
    rw [a8]
    unfold reportCommit
    cases hab : r.aborted
    · simp only [Bool.false_eq_true, if_false, testRunEnd]
      split
      · simp [enterIdle, endOps, u]
      · simp [u]
    · simp [u]
  · rw [a7 j hj, reportCommit_stream_other _ _ hj]
    simp [u, Ne.symm hj]

end Sys2Proof.Machine.State
end

