-- ==== Sys2Proof/Laws/Snapshots.lean ====
section
/-! SUPPORT. What a snapshot shows under an item number (R172), item by item. -/

namespace Sys2Proof.Safety

open Machine

@[simp] theorem shown_nil (number : Nat) : shown [] number = [] := rfl

/-- An item is shown under its own number and under no other. -/
theorem shown_cons (item : SnapItem) (items : List SnapItem) (number : Nat) :
    shown (item :: items) number = (if item.number = number then [item.value] else []) ++ shown items number := by
  by_cases h : item.number = number <;> simp [shown, h]

@[simp] theorem shown_append (front back : List SnapItem) (number : Nat) :
    shown (front ++ back) number = shown front number ++ shown back number := by simp [shown]

/-- Items of one number: all of them are shown under it, and none under another. -/
theorem shown_map {α : Type} (xs : List α) (f : α → List Byte) (own number : Nat) :
    shown (xs.map fun x => ⟨own, f x⟩) number = if own = number then xs.map f else [] := by
  induction xs with
  | nil => simp
  | cons x rest ih => by_cases h : own = number <;> simp_all [shown_cons]

@[simp] theorem shown_numItem (own size value number : Nat) :
    shown [numItem own size value] number = if own = number then [leBytes size value] else [] := by
  simp [numItem, shown_cons]

@[simp] theorem shown_optItem (own size : Nat) (value : Option Nat) (number : Nat) :
    shown [optItem own size value] number = if own = number then [valueBytes size value] else [] := by
  cases value <;> simp [optItem, shown_cons, valueBytes]

end Sys2Proof.Safety
end

