-- ==== Sys2Proof/WellFormed.lean ====
section
/-! DEFINITION. Well-formed commands: those whose operands a frame or an event of the FG-832 can carry. A meaning answers for
every command, well-formed or not. -/

namespace Sys2Proof

open Machine

/-- R169: a directive frame's body length is a 16-bit field, and holds 6 bytes before the parameters. -/
def Directive.fits (d : Directive) : Bool := d.params.length + 6 < 2 ^ 16

/-- R91, R92: the findings of a read lie on lines of a slot, at most one on a line. -/
def checksFit (checks : List LineCheck) : Bool :=
  (checks.all fun c => c.line < 1024) && (checks.map LineCheck.line).Nodup

/-- R143, R169: an acquisition frame that is not a bad frame names a source of 31 or below. -/
def sourceFits (source : Byte) : Bool := source.toNat < 32

/-- R152, R170: the eighteen directive codes. -/
def knownCodes : List Byte :=
  [0x01, 0x02, 0x03, 0x04, 0x05, 0x10, 0x11, 0x12, 0x13, 0x14, 0x15, 0x16, 0x17, 0x20, 0x21, 0x22, 0x30, 0x31]

/-- The check of every command's operands. -/
def Instr.wellFormed : Instr → Bool
  | .powerOn => true
  | .setEngine d => d.fits
  | .setLink d => d.fits
  | .writeLayout d => d.fits
  | .configureStream d => d.fits
  | .configureGroup d => d.fits
  | .startStream d => d.fits
  | .startGroup d => d.fits
  | .closeStream d => d.fits
  | .closeGroup d => d.fits
  | .abortStream d => d.fits
  | .flushStream d => d.fits
  | .amend d checks => d.fits && checksFit checks
  | .verify d => d.fits
  | .queryStream d => d.fits
  | .queryGroup d => d.fits
  | .queryLink d => d.fits
  | .clearCounts d => d.fits
  | .resetEngine d => d.fits
  | .unknownDirective code d => d.fits && !knownCodes.contains code
  | .badFrame bytes => isBadCapture bytes
  | .samples source _ first words => sourceFits source && samplesShapeOk first words.length
  | .segmentStart source _ _ _ => sourceFits source
  | .segmentEnd source _ _ => sourceFits source
  | .resync source _ _ _ => sourceFits source
  | .captureSyncLoss => true
  | .captureSyncGain => true
  | .linkUp => true
  | .linkDown => true
  | .credit _ => true
  | .commit _ => true
  | .rewind _ => true
  | .protocolViolation bytes => isBadArchive bytes
  | .interimTimerExpiry _ => true
  | .overTimerExpiry _ => true
  | .settleTimerExpiry _ => true
  | .holdOffTimerExpiry _ => true
  | .commitTimerExpiry => true
  | .arbiterGrant => true
  | .stagingDone checks => checksFit checks
  | .moveToSending => true
  | .sendDone => true
  | .checkDone => true
  | .verifyReadEnd position checks => position < Config.opsRoom && checksFit checks
  | .reportSendBegin => true
  | .reportSendDone => true

end Sys2Proof
end

