-- ==== Sys2Proof/Tests/Slice0.lean ====
section
/-! SUPPORT. The tests of the model: ill-formed commands, frames written out from R169 and R172, one step of each command,
and a witness for the hypotheses of each statement. Expected values come from the rules named and hand calculation. -/

namespace Sys2Proof.Tests

-- One theorem at a time: the tests of one thread each would exhaust the memory of a small machine.
set_option Elab.async false

open Machine Safety

/-! ## Small states -/

/-- A directive with the reply flag set. -/
def dir (params : List Nat) : Directive := ⟨7, 1, BitVec.ofNat 16 params.length, params.map (BitVec.ofNat 8)⟩

def fieldEntry : LayoutEntry := ⟨.field 0 16 true, [1, 0, 16, 1, 0, 0, 0, 0]⟩

/-- The part in sync, a layout of one FIELD of 16 bits with ADVANCE and an END, and three free slots. -/
def lab : State := { State.reset with
  receiver := ⟨true, none⟩
  layout := State.reset.layout.set 0 fieldEntry
  spill := { State.reset.spill with freeList := [3, 4, 5] } }

/-- Stream `i`, configured on source `i`, running in segment 9 in run 1. -/
def runner (i : StreamId) : Machine.Stream := { Stream.cleared (.powerOn i) (some (0, 1)) with
  phase := .running .inSegment, runNumber := 1, segment := 9, anchor := some ⟨0, 1000, 4000000⟩ }

/-- An open block of stream 0 in slot 2, sequence 0, with its points. -/
def block (points : Nat) : OpenBlock := { State.newBlock { runner 0 with firstMark := true } 0 2 none 0 with
  points := points, payload := List.replicate (2 * points) 0x11 }

/-- Stream 0 with a block open in slot 2. -/
def opener (points : Nat) : Machine.Stream := { runner 0 with
  openBlock := some (block points), nextSeq := 1, gaveSeq := true, occupancy := 1, inputIndex := points
  walker := ⟨0, [], points, points⟩, prevStart := some 1000 }

/-- A slot record of stream 0, run 1, sequence 0. -/
def record (place : SlotPlace) (length : Option Nat) : SlotRecord :=
  ⟨place, 0, 1, false, some 0, length, length.map fun _ => 64⟩

/-- `lab` with stream 0 and the record of slot 2 given. -/
def labWith (x : Machine.Stream) (r : SlotRecord) : State :=
  (lab.setStream 0 x).setSpill { lab.spill with slots := [(2, r)] }

/-- Stream 0 with a block open that holds points. -/
def labOpen (points : Nat) : State := labWith (opener points) (record .openBlock none)

/-- Stream 0, closing, with its one block in slot 2 in a place. -/
def labClosed (place : SlotPlace) (queue : List Nat) : State :=
  labWith { runner 0 with
    phase := .closing false, nextSeq := 1, gaveSeq := true, occupancy := 1, sendQueue := queue
    counts := ⟨0, 0, 0, 1, 0⟩ } (record place (some 64))

/-- The archive link UP with credits. -/
def up (s : State) : State :=
  s.setAlt { s.alt with linkState := .up, archiveSync := true, credits := 2, nextLink := 7 }

/-- What a command leaves, seen through a projection. -/
def after {α : Type} (c : Instr) (s : State) (f : State → α) : Option α :=
  match exec c s with
  | .next t => some (f t)
  | _ => none

/-! ## Ill-formed commands -/

theorem test_wf_directive_too_long (d : Directive) (h : d.params.length = 65530) :
    (Instr.setEngine d).wellFormed = false := by simp [Instr.wellFormed, Directive.fits, h]
theorem test_wf_check_outside_slot : (Instr.stagingDone [⟨1024, .corrected⟩]).wellFormed = false := by decide
theorem test_wf_check_twice : (Instr.amend (dir []) [⟨1, .corrected⟩, ⟨1, .corrected⟩]).wellFormed = false := by decide
theorem test_wf_known_code_as_unknown : (Instr.unknownDirective 0x31 (dir [])).wellFormed = false := by decide
theorem test_wf_source : (Instr.segmentStart 32 0 0 0).wellFormed = false := by decide
theorem test_wf_segment_end_source : (Instr.segmentEnd 32 0 0).wellFormed = false := by decide
theorem test_wf_resync_source : (Instr.resync 255 0 0 0).wellFormed = false := by decide
theorem test_wf_samples_source : (Instr.samples 32 0 0 [0]).wellFormed = false := by decide
theorem test_wf_samples_none : (Instr.samples 0 0 0 []).wellFormed = false := by decide
theorem test_wf_samples_513 : (Instr.samples 0 0 0 (List.replicate 513 0)).wellFormed = false := by decide +kernel
theorem test_wf_samples_past_48_bits : (Instr.samples 0 0 0xFFFFFFFFFFFF [0, 0]).wellFormed = false := by decide
theorem test_wf_verify_position : (Instr.verifyReadEnd 4 []).wellFormed = false := by decide
theorem test_wf_good : (Instr.samples 31 9 0xFFFFFFFFFFFF [0]).wellFormed = true := by decide

/-! ## Frames, written out byte by byte from R169 and R172; their CRCs are zlib's -/

/-- A SAMPLES frame of source 4, segment 9, first word 5, one word 0x1122334455667788. -/
def samplesFrame : List Byte :=
  [0x01, 0x04, 0x14, 0x00, 0x09, 0x00, 0x00, 0x00, 0x05, 0x00, 0x00, 0x00, 0x00, 0x00, 0x01, 0x00,
   0x88, 0x77, 0x66, 0x55, 0x44, 0x33, 0x22, 0x11, 0x4e, 0xa2, 0xdf, 0xc2]

theorem test_decode_samples :
    decodeCapture samplesFrame [] = some (.samples 4 9 5 [0x1122334455667788]) := by decide +kernel
theorem test_decode_segment_start :
    decodeCapture [0x02, 0x1f, 0x10, 0x00, 0x09, 0x00, 0x00, 0x00, 0xe8, 0x03, 0x00, 0x00, 0x00, 0x00, 0x00, 0x00,
      0x00, 0x09, 0x3d, 0x00, 0x25, 0x72, 0x5c, 0xd4] [] = some (.segmentStart 31 9 1000 4000000) := by decide +kernel
theorem test_decode_segment_end :
    decodeCapture [0x03, 0x00, 0x0a, 0x00, 0x09, 0x00, 0x00, 0x00, 0x2c, 0x01, 0x00, 0x00, 0x00, 0x00,
      0x4a, 0x73, 0xf6, 0xf6] [] = some (.segmentEnd 0 9 300) := by decide +kernel
theorem test_decode_resync :
    decodeCapture [0x04, 0x04, 0x14, 0x00, 0x09, 0x00, 0x00, 0x00, 0x14, 0x00, 0x00, 0x00, 0x00, 0x00, 0x00, 0x00,
      0x4d, 0x00, 0x00, 0x00, 0x00, 0x00, 0x00, 0x00, 0x7c, 0x64, 0xff, 0x47] [] = some (.resync 4 9 20 77) := by
  decide +kernel
/-- START STREAM of stream 3, tag 0x1234, with the reply flag. -/
theorem test_decode_directive :
    decodeCapture [0x10, 0x00, 0x07, 0x00, 0x34, 0x12, 0x01, 0x10, 0x01, 0x00, 0x03, 0x9d, 0x7f, 0x90, 0x46] [] =
      some (.startStream ⟨0x1234, 1, 1, [3]⟩) := by decide +kernel
theorem test_decode_credit : decodeArchive [0x81, 0x40, 0x65, 0xfa, 0x9d, 0x15] = some (.credit 64) := by decide +kernel
theorem test_decode_commit :
    decodeArchive [0x82, 0x07, 0x00, 0x00, 0x00, 0x56, 0x2c, 0xd3, 0x90] = some (.commit 7) := by decide +kernel
theorem test_decode_rewind :
    decodeArchive [0x83, 0xff, 0xff, 0xff, 0xff, 0xbc, 0x1d, 0xdf, 0xee] = some (.rewind 0xFFFFFFFF) := by
  decide +kernel
/-- One bit of the CRC is wrong. -/
theorem test_decode_bad_crc : isBadArchive [0x81, 0x40, 0x65, 0xfa, 0x9d, 0x14] = true := by decide +kernel
theorem test_wf_bad_frame_that_is_good : (Instr.badFrame samplesFrame).wellFormed = false := by decide +kernel
theorem test_wf_violation_that_is_good :
    (Instr.protocolViolation [0x81, 0x40, 0x65, 0xfa, 0x9d, 0x15]).wellFormed = false := by decide +kernel
/-- R81: the two check values. -/
theorem test_crc_check_values :
    crc [0x31, 0x32, 0x33, 0x34, 0x35, 0x36, 0x37, 0x38, 0x39] = 0xCBF43926#32 ∧ crc [] = 0#32 := by decide +kernel
/-- The table gives no bits. -/
theorem test_table_words_spell_nothing : decodeTableWord 8 1 = none ∧ State.reset.withFetchWord 8 1 = State.reset :=
  ⟨rfl, rfl⟩

/-! ## One step of each command -/

theorem test_powerOn : after .powerOn (lab.setSettings ⟨true, true, 0⟩) (fun t => (t.settings, t.receiver.inSync)) =
    some (⟨false, false, 0b11111#5⟩, false) := by decide +kernel
/-- R137: entry into loopback gives 64 credits. -/
theorem test_setEngine_loopback : after (.setEngine (dir [1, 1, 0xFF])) lab
    (fun t => (t.settings, t.alt.credits, t.alt.linkState)) = some (⟨true, true, 0b11111#5⟩, 64, .up) := by
  decide +kernel
/-- R154: an off-or-on field of 2. -/
theorem test_setEngine_bad_value : after (.setEngine (dir [2, 0, 0])) lab (fun t => (t.settings, t.report.fifo)) =
    some (⟨false, false, 0b11111#5⟩, [.response 7 0x01 .badValue false []]) := by decide +kernel
theorem test_setLink_clamps : after (.setLink (dir [5, 0, 0, 0])) lab (fun t => t.alt.commitTimeout) = some 1000 := by
  decide +kernel
/-- R26: a FIELD at offset 60, 16 bits wide, is taken at offset 48. -/
theorem test_writeLayout_clamps : after (.writeLayout (dir [255, 1, 1, 1, 60, 16, 0, 0, 0, 0, 0])) lab
    (fun t => t.layoutOp 511) = some (.field 48 16 false) := by decide +kernel
/-- R156: the first entry of no kind names its index, 0x0101. -/
theorem test_writeLayout_bad_kind : after (.writeLayout (dir ([0, 1, 2] ++ List.replicate 8 0 ++ List.replicate 8 9))) lab
    (fun t => t.report.fifo) = some [.response 7 0x03 .badValue false [0x01, 0x01]] := by decide +kernel

/-- CONFIGURE STREAM of stream 1: source 4, layout base 0, group 2, UNSIGNED, MEAN, 10 KiB, factor 100, no interim flush,
quota 10, high 9000, low 9000, class 9, weight 0, mask 1. -/
def configureParams (stream : Nat) : List Nat :=
  [stream, 4, 0, 0, 2, 1, 3, 10, 0, 100, 0, 0, 0, 0, 0, 10, 0, 0, 0, 40, 35, 0, 0, 40, 35, 0, 0, 9, 0, 1]

/-- R155: 10 KiB is taken as 8, the quota as 16, the marks as 16 and 15, the class as 3, the weight as 1. -/
theorem test_configureStream_clamps : after (.configureStream (dir (configureParams 1))) lab (fun t => (t.stream 1).cfg) =
    some ⟨4, 0, 2, .unsigned, .mean, 100, .kib 8, 0, 16, 16, 15, 3, 1, 1⟩ := by decide +kernel
/-- R2: the answer gives the span. -/
theorem test_configureStream_answer : after (.configureStream (dir (configureParams 1))) lab
    (fun t => t.report.fifo) = some [.response 7 0x04 .done false [0, 0, 1, 0]] := by decide +kernel
theorem test_configureGroup_clamps : after (.configureGroup (dir [7, 9, 0, 0, 0, 0, 0, 0, 0, 0, 0, 0, 0, 0])) lab
    (fun t => ((t.group 7).maxLevel, (t.group 7).degradeWait, (t.group 7).settleTime)) = some (3, 1000, 1000) := by
  decide +kernel
/-- R6: the run number is taken modulo 256. -/
theorem test_startStream_wraps : after (.startStream (dir [0]))
    (lab.setStream 0 { runner 0 with phase := .idle, runNumber := 255 }) (fun t => ((t.stream 0).phase, (t.stream 0).runNumber)) =
    some (.armed .alone, 0) := by decide +kernel
theorem test_startStream_without_span : after (.startStream (dir [0])) lab (fun t => t.report.fifo) =
    some [.response 7 0x10 .badState false []] := by decide +kernel
/-- R15, R172: of group 0, stream 0 is armed and the answer lists it alone. -/
theorem test_startGroup : after (.startGroup (dir [0])) (lab.setStream 0 { runner 0 with phase := .idle })
    (fun t => ((t.stream 0).phase, t.report.fifo)) =
    some (.armed .group, [.response 7 0x11 .done false [1, 0, 0, 2]]) := by decide +kernel
/-- R10, R76: the open block becomes the END block. -/
theorem test_closeStream_end_block : after (.closeStream (dir [0])) (labOpen 5)
    (fun t => ((t.stream 0).phase, (t.stream 0).sendQueue, imageFlags (t.storedBytes 2 64))) =
    some (.closing false, [2], Flag.firstOfSegment ||| Flag.endOfStream) := by decide +kernel
/-- R76: with no block open and no free slot, the wait begins. -/
theorem test_closeStream_waits : after (.closeStream (dir [0]))
    ((lab.setStream 0 (runner 0)).setSpill { lab.spill with freeList := [] }) (fun t => t.spill.endWaits) = some [0] := by
  decide +kernel
theorem test_closeGroup : after (.closeGroup (dir [0])) (labOpen 5)
    (fun t => ((t.stream 0).phase, t.ops.map PendingOp.kind)) =
    some (.closing false, [.groupClose 0 [0] [0] false]) := by decide +kernel
/-- R12: the open block's slot joins the tail of the free list. -/
theorem test_abortStream : after (.abortStream (dir [0])) (labOpen 5)
    (fun t => ((t.stream 0).phase, t.spill.freeList, (t.stream 0).occupancy)) = some (.idle, [3, 4, 5, 2], 0) := by
  decide +kernel
/-- R75: the response carries the sequence of the block closed with SHORT. -/
theorem test_flushStream : after (.flushStream (dir [0])) (labOpen 5)
    (fun t => (imageFlags (t.storedBytes 2 64), t.report.fifo)) =
    some (Flag.firstOfSegment ||| Flag.short, [.response 7 0x15 .done false [1, 0, 0, 0, 0]]) := by decide +kernel
theorem test_flushStream_empty_block : after (.flushStream (dir [0])) (labOpen 0)
    (fun t => ((t.stream 0).openBlock.isSome, t.report.fifo)) =
    some (true, [.response 7 0x15 .done false [0, 0, 0, 0, 0]]) := by decide +kernel
/-- R98: annotation word 1 of a queued block, at offset 44. -/
theorem test_amend_queued : after (.amend (dir [0, 1, 0, 0, 0, 0, 0x78, 0x56, 0x34, 0x12]) []) (labClosed .queued [2])
    (fun t => ((t.storedBytes 2 48).drop 44, imageFlags (t.storedBytes 2 64))) =
    some ([0x78, 0x56, 0x34, 0x12], Flag.amended) := by decide +kernel
/-- R96: a block in SENDING can no longer be amended. -/
theorem test_amend_too_late : after (.amend (dir [0, 1, 0, 0, 0, 0, 0, 0, 0, 0]) []) (labClosed .sending [])
    (fun t => t.report.fifo) = some [.response 7 0x16 .tooLate false []] := by decide +kernel
theorem test_verify_enters : after (.verify (dir [0, 0, 0, 0, 0])) (labClosed .queued [2])
    (fun t => t.ops) = some [⟨7, true, .verify 0 2 true, none⟩] := by decide +kernel
/-- R99: a sequence not given yet. -/
theorem test_verify_no_block : after (.verify (dir [0, 1, 0, 0, 0])) (labClosed .queued [2])
    (fun t => t.report.fifo) = some [.response 7 0x17 .noBlock false []] := by decide +kernel
/-- R170: the first item of the answer, the stream's source. -/
theorem test_queryStream : after (.queryStream (dir [7])) lab (fun t => t.report.fifo.length) = some 1 := by
  decide +kernel
theorem test_queryGroup_bad_number : after (.queryGroup (dir [8])) lab (fun t => t.report.fifo) =
    some [.response 7 0x21 .badValue false []] := by decide +kernel
theorem test_queryLink_malformed : after (.queryLink (dir [0])) lab (fun t => t.report.fifo) =
    some [.response 7 0x22 .malformed false []] := by decide +kernel
theorem test_clearCounts : after (.clearCounts (dir [])) (lab.setCounters ⟨1, 2, 3, 4, 5, 6, 7, 0xFFFFFFFF⟩)
    (fun t => t.counters) = some ⟨0, 0, 0, 0, 0, 0, 0, 0⟩ := by decide +kernel
/-- R21, R161: the free list is whole again, and the response stands alone although no reply was asked for. -/
theorem test_resetEngine : after (.resetEngine ⟨7, 0, 0, []⟩) (labOpen 5)
    (fun t => (t.spill.freeList.head?, (t.stream 0).phase, (t.stream 0).span, t.report.fifo)) =
    some (some 0, .idle, some (0, 1), [.response 7 0x31 .done false []]) := by decide +kernel
theorem test_unknownDirective : after (.unknownDirective 0x40 (dir [])) lab (fun t => t.report.fifo) =
    some [.response 7 0x40 .unknown false []] := by decide +kernel
/-- R152: without the reply flag and strict mode there is no answer. -/
theorem test_unknownDirective_silent : after (.unknownDirective 0x40 ⟨7, 0, 0, []⟩) lab (fun t => t.report.fifo) =
    some [] := by decide +kernel
theorem test_badFrame : after (.badFrame [0x01, 0x04]) lab (fun t => t.counters.badFrames) = some 1 := by decide +kernel
/-- R23: 0x8000 in a SIGNED stream is −32,768, and its two bytes are 00 80. -/
theorem test_samples_takes_word : after (.samples 0 9 5 [0x8000]) (labOpen 5)
    (fun t => ((t.stream 0).openBlock.map fun b => (b.points, b.payload.drop 10), (t.stream 0).inputIndex,
      (t.stream 0).walker.expected)) = some (some (6, [0x00, 0x80]), 6, 6) := by decide +kernel
/-- R41: a frame that lies below the expected word is counted once and changes no stream. -/
theorem test_samples_overlap : after (.samples 0 9 4 [1]) (labOpen 5)
    (fun t => (t.counters.overlaps, (t.stream 0).inputIndex)) = some (1, 5) := by decide +kernel
/-- R8: a period of 0 is taken as 1 fs. -/
theorem test_segmentStart : after (.segmentStart 0 10 2000 0)
    (lab.setStream 0 { runner 0 with phase := .armed .alone, segment := 0 })
    (fun t => ((t.stream 0).phase, (t.stream 0).segment, (t.stream 0).anchor)) =
    some (.running .inSegment, 10, some ⟨0, 2000, 1⟩) := by decide +kernel
/-- R16: a segment below S* leaves a stream of the group ARMED. -/
theorem test_segmentStart_below_first : after (.segmentStart 0 10 2000 1)
    ((lab.setStream 0 { runner 0 with phase := .armed .group }).setGroup 0 { Group.powerOn with startSegment := some 11 })
    (fun t => (t.stream 0).phase) = some (.armed .group) := by decide +kernel
theorem test_segmentEnd : after (.segmentEnd 0 9 5) (labOpen 5)
    (fun t => ((t.stream 0).phase, (t.stream 0).sendQueue, imageFlags (t.storedBytes 2 64))) =
    some (.running .betweenSegments, [2], Flag.firstOfSegment ||| Flag.endOfSegment) := by decide +kernel
/-- R47, R79: three words that never came are the TAIL section of the open block. -/
theorem test_segmentEnd_tail : after (.segmentEnd 0 9 8) (labOpen 5)
    (fun t => ((t.stream 0).counts.lost, imageFlags (t.storedBytes 2 16))) =
    some (3, Flag.firstOfSegment ||| Flag.endOfSegment ||| Flag.gapSection) := by decide +kernel
theorem test_resync_now : after (.resync 0 9 5 77) (labOpen 5) (fun t => (t.stream 0).anchor) =
    some (some ⟨5, 77, 4000000⟩) := by decide +kernel
theorem test_resync_held : after (.resync 0 9 6 77) (labOpen 5) (fun t => ((t.stream 0).anchor, (t.stream 0).resync)) =
    some (some ⟨0, 1000, 4000000⟩, some ⟨6, 77⟩) := by decide +kernel
/-- R59: a resync at 2^56 is never reached. -/
theorem test_resync_never_reached : (({ runner 0 with inputIndex := 2 ^ 56 - 1, resync := some ⟨2 ^ 56, 77⟩ } :
    Machine.Stream).advanceIndex.anchor, ({ runner 0 with inputIndex := 4, resync := some ⟨5, 77⟩ } :
    Machine.Stream).advanceIndex.anchor) = (some ⟨0, 1000, 4000000⟩, some ⟨5, 77, 4000000⟩) := by decide +kernel
/-- R167: an EVENT that is cut off goes back as the oldest. -/
theorem test_captureSyncLoss : after .captureSyncLoss
    (lab.setReport ⟨[], [.link .linkDown], false, some (.event (.link .linkUp) [])⟩)
    (fun t => (t.receiver.inSync, t.report.events, t.report.lane)) =
    some (false, [.link .linkUp, .link .linkDown], none) := by decide +kernel
theorem test_captureSyncGain : after .captureSyncGain State.reset (fun t => t.receiver.inSync) = some true := by
  decide +kernel
theorem test_linkUp : after .linkUp lab (fun t => (t.alt.linkState, t.report.events)) = some (.up, [.link .linkUp]) := by
  decide +kernel

/-- The block of slot 2 on the outstanding list under link sequence 6. -/
def labSent : State :=
  (up (labClosed .outstanding [])).setAlt { (up lab).alt with outstanding := [⟨6, 2⟩], commitTimer := .running 9 }

theorem test_linkDown_returns : after .linkDown labSent
    (fun t => ((t.stream 0).sendQueue, t.alt.credits, t.alt.nextLink, t.alt.outstanding)) = some ([2], 0, 7, []) := by
  decide +kernel
/-- R126: 63 credits are added to 2 beside one outstanding block. -/
theorem test_credit_caps : after (.credit 63) labSent (fun t => t.alt.credits) = some 63 := by decide +kernel
theorem test_credit_zero : after (.credit 0) labSent (fun t => (t.counters.linkProtocol, t.alt.credits)) =
    some (1, 2) := by decide +kernel
/-- R10, R128: the END block's commit ends the run. -/
theorem test_commit_ends_run : after (.commit 6) labSent
    (fun t => ((t.stream 0).phase, t.spill.freeList, t.alt.commitTimer, (t.stream 0).counts.committed)) =
    some (.idle, [3, 4, 5, 2], .stopped, 1) := by decide +kernel
/-- R127: 5 is stale. -/
theorem test_commit_stale : after (.commit 5) labSent (fun t => (t.counters.linkProtocol, t.alt.outstanding.length)) =
    some (0, 1) := by decide +kernel
theorem test_rewind_returns : after (.rewind 6) labSent
    (fun t => ((t.stream 0).sendQueue, t.alt.nextLink, t.alt.credits)) = some ([2], 7, 2) := by decide +kernel
/-- R129: a REWIND to the next sequence commits all. -/
theorem test_rewind_next : after (.rewind 7) labSent (fun t => ((t.stream 0).phase, t.alt.outstanding)) =
    some (.idle, []) := by decide +kernel
theorem test_protocolViolation : after (.protocolViolation [0x84]) labSent
    (fun t => (t.counters.linkProtocol, t.report.events)) = some (1, [.link .linkProtocol]) := by decide +kernel
theorem test_interimTimerExpiry : after (.interimTimerExpiry 0)
    (labWith { opener 5 with interimTimer := .running 0 } (record .openBlock none))
    (fun t => ((t.stream 0).openBlock, (t.stream 0).sendQueue)) = some (none, [2]) := by decide +kernel
/-- R74: the timer of a block opened since has time left, and an expiry of its predecessor's does not take place. -/
theorem test_interimTimerExpiry_overtaken : after (.interimTimerExpiry 0)
    (labWith { opener 5 with interimTimer := .running 100 } (record .openBlock none))
    (fun t => ((t.stream 0).openBlock.isSome, (t.stream 0).sendQueue)) = some (true, []) := by decide +kernel
/-- R107: one step below the max level the timer restarts. -/
theorem test_overTimerExpiry : after (.overTimerExpiry 0)
    (lab.setGroup 0 { Group.powerOn with ordered := 1, overTimer := .running 0 })
    (fun t => ((t.group 0).ordered, (t.group 0).overTimer)) = some (2, .running 500000) := by decide +kernel
theorem test_settleTimerExpiry : after (.settleTimerExpiry 0)
    (lab.setGroup 0 { Group.powerOn with ordered := 1, settleTimer := .running 0 })
    (fun t => ((t.group 0).ordered, (t.group 0).settleTimer)) = some (0, .stopped) := by decide +kernel
theorem test_holdOffTimerExpiry : after (.holdOffTimerExpiry 0)
    ((lab.setStream 0 { runner 0 with occupancy := 6144 }).setGroup 0 { Group.powerOn with holdOffTimer := .running 0 })
    (fun t => ((t.group 0).holdOffTimer, (t.group 0).overTimer)) = some (.stopped, .running 500000) := by decide +kernel
theorem test_commitTimerExpiry : after .commitTimerExpiry (labSent.setAlt { labSent.alt with commitTimer := .running 0 })
    (fun t => (t.alt.linkState, t.alt.commitTimer)) = some (.stalled, .expired) := by decide +kernel
/-- R124: an expiry that a COMMIT has overtaken does not take place: the timer has been started again. -/
theorem test_commitTimerExpiry_overtaken : after .commitTimerExpiry
    (labSent.setAlt { labSent.alt with outstanding := [⟨5, 6⟩, ⟨6, 2⟩], commitTimer := .running 0 }) (fun t => t.alt.linkState) =
      some .stalled ∧
    (after (.commit 5)
      (labSent.setAlt { labSent.alt with outstanding := [⟨5, 6⟩, ⟨6, 2⟩], commitTimer := .running 0 }) id).bind
      (fun s => after .commitTimerExpiry s fun t => t.alt.linkState) = some .up := by decide +kernel
theorem test_arbiterGrant : after .arbiterGrant (up (labClosed .queued [2]))
    (fun t => (t.alt.staged, (t.stream 0).sendQueue, t.alt.pointers.get 0, t.alt.credits)) =
    some (some ⟨2, .reading, []⟩, [], ⟨some 0, 1⟩, 2) := by decide +kernel

/-- The block of slot 2 in STAGED. -/
def labStaged (copy : CopyState) (bytes : List Byte) : State :=
  (up (labClosed .staged [])).setAlt { (up lab).alt with staged := some ⟨2, copy, bytes⟩ }

theorem test_stagingDone_clean : after (.stagingDone []) (labStaged .reading [])
    (fun t => t.alt.staged.map fun b => (b.copy, b.bytes.length)) = some (some (.ready, 64)) := by decide +kernel
/-- R94: the header line itself is damaged: DAMAGED is set in the copy, and the event is raised. -/
theorem test_stagingDone_damaged : after (.stagingDone [⟨0, .uncorrectable 1⟩]) (labStaged .reading [])
    (fun t => (t.alt.staged.map fun b => (imageFlags b.bytes, byteAt b.bytes 0), t.counters.eccUncorrectable,
      t.report.events)) = some (some (Flag.damaged, 1), 1, [.stream 0 .damagedBlock]) := by decide +kernel
theorem test_moveToSending : after .moveToSending (labStaged .ready [1, 2])
    (fun t => (t.alt.staged, t.alt.sending, t.alt.nextLink)) = some (none, some ⟨2, 7, [1, 2]⟩, 7) := by decide +kernel
/-- R134: a stale copy does not move. -/
theorem test_moveToSending_stale : after .moveToSending (labStaged .stale [1, 2]) (fun t => t.alt.sending) = some none := by
  decide +kernel

/-- The block of slot 2 in SENDING. -/
def labSending : State :=
  (up (labClosed .sending [])).setAlt { (up lab).alt with sending := some ⟨2, 7, [1, 2]⟩ }

theorem test_sendDone : after .sendDone labSending
    (fun t => (t.alt.outstanding, t.alt.nextLink, t.alt.credits, t.alt.commitTimer)) =
    some ([⟨7, 2⟩], 8, 1, .running 100000) := by decide +kernel

/-- R13, R130: an aborted block in SENDING is freed in place of returned, and its stream enters IDLE. -/
theorem test_linkDown_frees_aborted : after .linkDown
    ((labSending.setStream 0 { runner 0 with phase := .closing true, occupancy := 1 }).putRecord 2
      { record .sending (some 64) with aborted := true })
    (fun t => ((t.stream 0).phase, (t.stream 0).sendQueue, t.spill.freeList)) = some (.idle, [], [3, 4, 5, 2]) := by
  decide +kernel

/-- In loopback, a frame of one byte that the checker has to judge, whose block heads the outstanding list. -/
def labChecking : State :=
  (labSent.setSettings ⟨false, true, 0b11111#5⟩).setAlt { labSent.alt with checking := [⟨6, [1]⟩] }

/-- R138: a frame whose header does not check is counted, and its block is committed with one credit. -/
theorem test_checkDone : after .checkDone labChecking
    (fun t => (t.counters.checkFail, t.alt.outstanding, t.alt.credits, t.alt.checkRecords.get 0)) =
    some (1, [], 3, none) := by decide +kernel

/-- A verify of slot 2 whose read is in flight. -/
def labVerify : State := (labClosed .queued [2]).setOps [⟨7, true, .verify 0 2 true, none⟩]

/-- R100: the slot's bytes are zeros, whose header CRC is not the stored 0, and whose empty payload checks. -/
theorem test_verifyReadEnd_mismatch : after (.verifyReadEnd 0 []) labVerify (fun t => (t.ops, t.report.fifo)) =
    some ([], [.completion 7 .verify .mismatch false 2 true false]) := by decide +kernel
theorem test_verifyReadEnd_damaged : after (.verifyReadEnd 0 [⟨0, .uncorrectable 1⟩]) labVerify (fun t => t.report.fifo) =
    some [.completion 7 .verify .damaged false 2 false false] := by decide +kernel
theorem test_reportSendBegin : after .reportSendBegin
    (lab.setReport ⟨[.response 7 1 .done false []], [.link .linkUp], false, none⟩) (fun t => t.report.lane) =
    some (some .head) := by decide +kernel
theorem test_reportSendDone : after .reportSendDone
    (lab.setReport ⟨[.response 7 1 .done false []], [.link .linkUp], false, some .head⟩)
    (fun t => (t.report.fifo, t.report.lane, t.own.reportOut.length)) = some ([], none, 1) := by decide +kernel


/-! ## Witnesses: for each statement with hypotheses, a state and operands that meet them -/

theorem witness_EmptyQueueStepLowersRunningTimers :
    lab.pending = [] ∧ labSent.pending = [] ∧ labSent.alt.commitTimer = .running 9 := by
  decide +kernel

theorem witness_ResetEngineClearsActivityAndKeepsConfiguration :
    Carries (labOpen 5) (dir []) 0 := by
  unfold Carries; decide +kernel

/-- Entry into loopback, and a SET ENGINE that leaves the loopback setting while a stream runs. -/
theorem witness_SetEngineWritesTheThreeSettings :
    (Carries lab (dir [1, 1, 0xFF]) 3 ∧ byteAt [1, 1, 0xFF] 0 = BitVec.ofNat 8 true.toNat ∧
      byteAt [1, 1, 0xFF] 1 = BitVec.ofNat 8 true.toNat ∧ 0b11111#5 = (byteAt [1, 1, 0xFF] 2).setWidth 5 ∧
      (∀ i, (lab.stream i).phase = .idle) ∧ lab.alt.outstanding = []) ∧
    Carries (labOpen 5) (dir [1, 0, 0]) 3 ∧ byteAt [1, 0, 0] 0 = BitVec.ofNat 8 true.toNat ∧
      byteAt [1, 0, 0] 1 = BitVec.ofNat 8 false.toNat ∧ false = (labOpen 5).settings.loopback ∧
      (labOpen 5).stream 0 ≠ lab.stream 0 := by
  unfold Carries; decide +kernel

theorem witness_SetLinkAndConfigureGroupWriteClampedSettings :
    Carries lab (dir [5, 0, 0, 0]) 4 ∧ Carries (labOpen 5) (dir (7 :: List.replicate 13 9)) 14 ∧
      byteAt (dir (7 :: List.replicate 13 9)).params 0 = BitVec.ofNat 8 (7 : GroupId).val ∧
      (∀ i, ((labOpen 5).stream i).cfg.group = (7 : GroupId) → ((labOpen 5).stream i).phase = .idle) := by
  unfold Carries; decide +kernel

/-- WRITE LAYOUT of the last two entries: a GROUP whose last index is 511, and an END. -/
def lastEntries : Directive := dir [0xFE, 1, 2, 3, 0, 2, 0, 0xFF, 1, 0, 0, 0, 0, 0, 0, 0, 0, 0, 0]

/-- Stream 0 runs on the span 0 to 1, and stream 1, IDLE, has the span 500 to 510, which the entries touch. -/
def labSpans : State := (labOpen 5).setStream 1 { Stream.cleared (.powerOn 1) (some (500, 510)) with occupancy := 0 }

theorem witness_WriteLayoutWritesItsEntries :
    ∃ entries : List LayoutEntry, Carries labSpans lastEntries (3 + 8 * entries.length) ∧ field lastEntries.params 0 2 = 510 ∧
      (byteAt lastEntries.params 2).toNat = entries.length ∧ 1 ≤ entries.length ∧ entries.length ≤ 32 ∧
      510 + entries.length ≤ 512 ∧
      (∀ k (h : k < entries.length), layoutEntryOf ((lastEntries.params.drop (3 + 8 * k)).take 8) = some entries[k]) ∧
      (∀ e ∈ entries, ∀ count forever last, e.op = .group count forever last → last < 512) ∧
      ((labSpans.stream 0).phase ≠ .idle ∧ (labSpans.stream 0).span = some (0, 1) ∧ 1 < 510) ∧
      (∀ i, i ≠ 0 → (labSpans.stream i).phase = .idle) ∧ (labSpans.stream 1).span = some (500, 510) := by
  refine ⟨[⟨.group 2 false 511, [3, 0, 2, 0, 0xFF, 1, 0, 0]⟩, ⟨.endCycle, List.replicate 8 0⟩], ?_⟩
  refine ⟨by unfold Carries; decide +kernel, by decide +kernel, by decide +kernel, by decide, by decide, by decide,
    by decide +kernel, ?_, by decide +kernel⟩
  simp

theorem witness_LayoutEntriesAreReadAndClamped :
    byteAt [0, 9] 0 = 0 ∧ (byteAt [1, 63, 16] 0 = 1 ∧ 64 < (byteAt [1, 63, 16] 1).toNat + 16) ∧
      (byteAt [1, 48, 16] 0 = 1 ∧ (byteAt [1, 48, 16] 1).toNat + 16 ≤ 64 ∧ (byteAt [1, 48, 16] 2).toNat ≤ 16) ∧
      byteAt [2] 0 = 2 ∧ byteAt [3] 0 = 3 ∧ 4 ≤ (byteAt [4] 0).toNat := by
  decide

/-- A FIELD's width byte at 0, 1, 16 and 17. -/
theorem witness_LayoutEntriesAreReadAndClamped_width :
    ∀ w ∈ [0, 1, 16, 17], byteAt [1, 63, BitVec.ofNat 8 w] 0 = 1 ∧ (byteAt [1, 63, BitVec.ofNat 8 w] 2).toNat = w := by
  decide

theorem witness_ConfigureStreamReplacesTheConfiguration :
    ∃ cfg : StreamConfig, Carries lab (dir (configureParams 1)) 30 ∧
      byteAt (dir (configureParams 1)).params 0 = BitVec.ofNat 8 (1 : StreamId).val ∧
      streamConfigOf (dir (configureParams 1)).params = some cfg ∧ (lab.stream 1).phase = .idle ∧
      (lab.stream 1).occupancy ≤ cfg.quota ∧ validate lab.layoutOp cfg.layoutBase = .valid 1 := by
  refine ⟨⟨4, 0, 2, .unsigned, .mean, 100, .kib 8, 0, 16, 16, 15, 3, 1, 1⟩, ?_⟩
  unfold Carries; decide +kernel

/-- The same parameters with another block size setting. -/
def sizedParams (size : Nat) : List Byte :=
  ((dir (configureParams 1)).params.set 7 (BitVec.ofNat 8 size)).set 8 (BitVec.ofNat 8 (size / 256))

/-- A block size of 10 KiB, at the two ends of the sizes, and SEGMENT. -/
theorem witness_ConfigureStreamReplacesTheConfiguration_decoding :
    ∀ x ∈ [(10, BlockSize.kib 8), (0, .kib 0), (16383, .kib 64), (16384, .segment), (32767, .segment)],
      byteAt (sizedParams x.1) 1 = BitVec.ofNat 8 (4 : Fin 32).val ∧ field (sizedParams x.1) 2 2 = (0 : Fin 512).val ∧
      byteAt (sizedParams x.1) 4 = BitVec.ofNat 8 (2 : GroupId).val ∧ byteAt (sizedParams x.1) 5 = 1#8 ∧
      byteAt (sizedParams x.1) 6 = 3#8 ∧
      ((field (sizedParams x.1) 7 2 < 16384 ∧ x.2 = .kib (if field (sizedParams x.1) 7 2 = 0 then 0
          else max 4 (min 64 (field (sizedParams x.1) 7 2 / 4 * 4)))) ∨
        (16384 ≤ field (sizedParams x.1) 7 2 ∧ field (sizedParams x.1) 7 2 < 32768 ∧ x.2 = .segment)) ∧
      16 = max 16 (min 65536 (field (sizedParams x.1) 15 4)) ∧ 16 = max 1 (min 16 (field (sizedParams x.1) 19 4)) := by
  decide +kernel

/-- A layout written from an index on, with ENDs elsewhere. -/
def layoutAt (base : Nat) (ops : List LayoutOp) (k : Nat) : LayoutOp :=
  if k < base then .endCycle else ops.getD (k - base) .endCycle

/-- A FIELD of 12 bits, with ADVANCE or without. -/
def fieldOp (advance : Bool) : LayoutOp := .field 0 12 advance

/-- The layouts of the example rows of section 2.3 whose bases are 40, 200, 60, 70 and 80. -/
def layout40 : Nat → LayoutOp := layoutAt 40 [.group 2 false 43, .group 2 false 43, fieldOp true, fieldOp true]
def layout200 : Nat → LayoutOp := layoutAt 200 ([.group 2 false 210, .group 2 false 209, .group 2 false 208,
  .group 2 false 207, .group 2 false 206] ++ List.replicate 6 (fieldOp true))
def layout60 : Nat → LayoutOp := layoutAt 60 [.group 0 false 61, fieldOp true, .skip 2]
def layout70 : Nat → LayoutOp := layoutAt 70 [fieldOp false]
def layout80 : Nat → LayoutOp := layoutAt 80 [fieldOp true, .group 0 true 82, fieldOp false]

/-- The example rows of section 2.3, in their order. -/
theorem test_validation_examples_1 :
    validate (fun k => if k < 100 then .endCycle else fieldOp true) 100 = .refused .outOfTable 511 ∧
      validate layout40 40 = .refused .nesting 41 ∧
      validate (layoutAt 30 [.group 4 false 33, fieldOp true, .endCycle, fieldOp true]) 30 = .refused .nesting 30 ∧
      validate layout200 200 = .refused .depth 204 := by decide +kernel
theorem test_validation_examples_2 :
    validate layout60 60 = .refused .noField 60 ∧ validate layout70 70 = .refused .noAdvance 70 ∧
      validate layout80 80 = .refused .noAdvance 81 ∧
      validate (layoutAt 90 [.group 0 false 91, .group 3 false 91]) 90 = .refused .nesting 91 ∧
      validate (layoutAt 20 [.group 3 false 22, fieldOp false, .field 16 12 true, .skip 1]) 20 = .valid 24 := by
  decide +kernel

/-- OUT_OF_TABLE, NESTING and DEPTH, on the example rows. -/
theorem witness_ValidatedSpansEndAtTheFirstEnd_spans :
    (∀ e, ¬ SpanEnds (fun k => if k < 100 then .endCycle else fieldOp true) 100 e) ∧
      (SpanEnds layout40 40 44 ∧ NestingFails layout40 40 44 41 ∧ ∀ k < 41, ¬ NestingFails layout40 40 44 k) ∧
      SpanEnds layout200 200 211 ∧ (∀ g ≤ 211, ¬ NestingFails layout200 200 211 g) ∧ DepthFails layout200 200 204 ∧
      ∀ k < 204, ¬ DepthFails layout200 200 k := by
  refine ⟨fun e ⟨h, _, hend, _⟩ => ?_, by decide +kernel, by decide +kernel, by decide +kernel, by decide +kernel,
    by decide +kernel⟩
  simp [Nat.not_lt.mpr h, fieldOp] at hend

set_option synthInstance.maxSize 2000 in
set_option synthInstance.maxHeartbeats 200000 in
/-- NO_FIELD, and the two cases of NO_ADVANCE, on the example rows: what is live, and what fails. -/
theorem witness_ValidatedSpansEndAtTheFirstEnd_live :
    (SpanEnds layout60 60 63 ∧ (∀ g ≤ 63, ¬ NestingFails layout60 60 63 g) ∧ (∀ g ≤ 63, ¬ DepthFails layout60 60 g) ∧
      Liveness layout60 60 63 (fun j => j ≠ 61) ∧ ∀ j ≤ 63, 60 ≤ j → j ≠ 61 → isField (layout60 j) = false) ∧
      (SpanEnds layout70 70 71 ∧ (∀ g ≤ 71, ¬ NestingFails layout70 70 71 g) ∧ (∀ g ≤ 71, ¬ DepthFails layout70 70 g) ∧
        Liveness layout70 70 71 (fun _ => True) ∧ isField (layout70 70) = true ∧ CycleFails layout70 70 71 fun _ => True) ∧
      SpanEnds layout80 80 83 ∧ (∀ g ≤ 83, ¬ NestingFails layout80 80 83 g) ∧ (∀ g ≤ 83, ¬ DepthFails layout80 80 g) ∧
      Liveness layout80 80 83 (fun j => j ≤ 82) ∧ isField (layout80 80) = true ∧
      PassFails layout80 80 83 (fun j => j ≤ 82) 81 ∧ ∀ k < 81, ¬ PassFails layout80 80 83 (fun j => j ≤ 82) k := by
  decide +kernel

set_option synthInstance.maxSize 2000 in
set_option synthInstance.maxHeartbeats 200000 in
/-- The layout of `lab`, a FIELD with ADVANCE and an END, passes. -/
theorem witness_ValidatedSpansEndAtTheFirstEnd_passes :
    SpanEnds lab.layoutOp 0 1 ∧ (∀ g ≤ 1, ¬ NestingFails lab.layoutOp 0 1 g) ∧ (∀ g ≤ 1, ¬ DepthFails lab.layoutOp 0 g) ∧
      Liveness lab.layoutOp 0 1 (fun _ => True) ∧ isField (lab.layoutOp 0) = true ∧
      (∀ g ≤ 1, ¬ PassFails lab.layoutOp 0 1 (fun _ => True) g) ∧ ¬ CycleFails lab.layoutOp 0 1 fun _ => True := by
  decide +kernel

/-- A GROUP whose body ends just before the END at the last index. -/
theorem witness_ValidatedSpansEndAtTheFirstEnd :
    validate lab.layoutOp 0 = .valid 1 ∧
      validate (fun k => if k = 508 then .group 1 false 510 else if k = 509 then .field 0 16 true
        else if k = 510 then .skip 1 else .endCycle) 508 = .valid 511 := by
  decide +kernel

/-- Run number 255, and stream 7 without a span. -/
theorem witness_StartStreamArmsAnIdleStream :
    ∃ s : State, Carries s (dir [0]) 1 ∧ byteAt (dir [0]).params 0 = BitVec.ofNat 8 (0 : StreamId).val ∧
      byteAt (dir [7]).params 0 = BitVec.ofNat 8 (7 : StreamId).val ∧
      (s.stream 0).phase = .idle ∧ (s.stream 0).span ≠ none ∧ (s.stream 7).span = none := by
  refine ⟨lab.setStream 0 { runner 0 with phase := .idle, runNumber := 255 }, ?_⟩
  unfold Carries; decide +kernel

/-- The member list of a group of two, stream 0 IDLE with a span and stream 1 RUNNING. -/
theorem witness_StartGroupArmsEveryEligibleMember_list :
    ([0, 1] : List StreamId) = ([0, 1, 2, 3, 4, 5, 6, 7] : List StreamId).filter (fun j =>
      ((((lab.setStream 0 { runner 0 with phase := .idle }).setStream 1 (runner 0)).stream j).cfg.group = 0)) ∧
      ((lab.setStream 0 { runner 0 with phase := .idle }).stream 0).span ≠ none := by
  decide +kernel

/-- The group is over its marks through a member that runs. -/
theorem witness_StartGroupArmsEveryEligibleMember :
    ∃ s : State, Carries s (dir [0]) 1 ∧ byteAt (dir [0]).params 0 = BitVec.ofNat 8 (0 : GroupId).val ∧
      (s.stream 0).cfg.group = 0 ∧ (s.stream 0).phase = .idle ∧ (s.stream 0).span ≠ none ∧ (s.group 0).holdOff = 0 ∧
      (s.stream 1).cfg.group = 0 ∧ (s.stream 1).phase = .running .inSegment ∧ s.condition 0 = .over := by
  refine ⟨(lab.setStream 0 { runner 0 with phase := .idle }).setStream 1
    { runner 0 with occupancy := 6144 }, ?_⟩
  unfold Carries; decide +kernel

theorem witness_CloseStreamEndsTheRun :
    (Carries (labOpen 5) (dir [0]) 1 ∧ byteAt (dir [0]).params 0 = BitVec.ofNat 8 (0 : StreamId).val ∧
      ((labOpen 5).stream 0).phase = .running .inSegment ∧ (labOpen 5).ops.length < 4 ∧
      ((labOpen 5).stream 0).openBlock = some (block 5)) ∧
    (∃ s : State, Carries s (dir [0]) 1 ∧ (s.stream 0).phase = .running .inSegment ∧ s.ops.length < 4 ∧
      (s.stream 0).openBlock = none ∧ s.spill.freeList = []) ∧
    (∃ s : State, Carries s (dir [0]) 1 ∧ (s.stream 0).phase = .running .inSegment ∧ s.ops.length < 4 ∧
      (s.stream 0).openBlock = none ∧ s.spill.freeList.head? = some 3) ∧
    ∃ s : State, Carries s (dir [0]) 1 ∧ (s.stream 0).phase = .armed .group := by
  refine ⟨by unfold Carries; decide +kernel,
    ⟨(lab.setStream 0 (runner 0)).setSpill { lab.spill with freeList := [] }, by unfold Carries; decide +kernel⟩,
    ⟨lab.setStream 0 (runner 0), by unfold Carries; decide +kernel⟩,
    ⟨lab.setStream 0 { runner 0 with phase := .armed .group }, by unfold Carries; decide +kernel⟩⟩

theorem witness_CloseStreamEndsTheRun_memory :
    MemoryCanonical (labOpen 5) ∧ ((labOpen 5).stream 0).openBlock = some (block 5) ∧
      headerLength (block 5).gap + (block 5).payload.length + 4 ≤ 65536 := by
  unfold MemoryCanonical; decide +kernel

/-- A verify that waits for the close of the open block, beside a CLOSE. -/
theorem witness_CloseStreamEndsTheRun_verify :
    ∃ s : State, Carries s (dir [0]) 1 ∧ (s.stream 0).phase = .running .inSegment ∧ s.ops.length < 4 ∧
      (s.stream 0).openBlock = some (block 5) ∧
      verifiesBegun 2 s.ops = [⟨1, true, .verify 0 2 true, none⟩, ⟨2, true, .close 3, none⟩] ∧
      s.ops = [⟨1, true, .verify 0 2 false, none⟩, ⟨2, true, .close 3, none⟩] := by
  refine ⟨(labOpen 5).setOps [⟨1, true, .verify 0 2 false, none⟩, ⟨2, true, .close 3, none⟩], ?_⟩
  unfold Carries; decide +kernel

theorem witness_CloseGroupClosesEveryMember :
    Carries (labOpen 5) (dir [0]) 1 ∧ byteAt (dir [0]).params 0 = BitVec.ofNat 8 (0 : GroupId).val ∧
      (labOpen 5).ops.length < 4 ∧
      (((labOpen 5).stream 0).cfg.group = 0 ∧ (∀ how ∈ [Arming.alone, .group], ((labOpen 5).stream 0).phase ≠ .armed how) ∧
        ((labOpen 5).stream 0).phase ≠ .idle) ∧
      (∀ j, ((labOpen 5).stream j).cfg.group = 1 → ((labOpen 5).stream j).phase = .idle) := by
  unfold Carries; decide +kernel

/-- Beside the group's RUNNING member: a verify of its open block, one of another slot, and a group-close. -/
theorem witness_CloseGroupClosesEveryMember_operations :
    ∃ s : State, Carries s (dir [0]) 1 ∧ s.ops = [⟨1, true, .verify 0 2 false, none⟩, ⟨2, true, .verify 0 6 true, none⟩,
        ⟨3, true, .groupClose 0 [0] [0] false, none⟩] ∧ s.ops.length < 4 ∧ 2 ∉ s.spill.freeList ∧ 6 ∉ s.spill.freeList ∧
      (s.stream 0).cfg.group = 0 ∧ (s.stream 0).phase = .running .inSegment ∧ (s.stream 0).openBlock = some (block 5) ∧
      (s.stream 1).cfg.group = 0 ∧ (s.stream 1).phase = .closing true := by
  refine ⟨((labOpen 5).setStream 1 { runner 0 with phase := .closing true }).setOps
    [⟨1, true, .verify 0 2 false, none⟩, ⟨2, true, .verify 0 6 true, none⟩, ⟨3, true, .groupClose 0 [0] [0] false, none⟩], ?_⟩
  unfold Carries
  exact ⟨by decide +kernel, rfl, by decide +kernel⟩

/-- A block open, and a block in SENDING. -/
theorem witness_AbortStreamGivesBackItsSlots :
    (Carries (labOpen 5) (dir [0]) 1 ∧ byteAt (dir [0]).params 0 = BitVec.ofNat 8 (0 : StreamId).val ∧
      ((labOpen 5).stream 0).phase = .running .inSegment ∧ (labOpen 5).spill.endWaits = [] ∧
      (labOpen 5).abortedSlots 0 = [2] ∧ (labOpen 5).spill.slots.find 2 = some (record .openBlock none) ∧
      (record .openBlock none).stream = 0) ∧
    (Carries labSending (dir [0]) 1 ∧ (labSending.stream 0).phase = .closing false ∧ labSending.sendsFor 0 = true) ∧
    ∃ s : State, Carries s (dir [0]) 1 ∧ (s.stream 0).phase = .armed .alone := by
  refine ⟨by unfold Carries; decide +kernel, by unfold Carries; decide +kernel,
    ⟨lab.setStream 0 { runner 0 with phase := .armed .alone }, by unfold Carries; decide +kernel⟩⟩

/-- A ready copy in STAGED and a block on the outstanding list, with one operation of the stream in the list. -/
def labAborts (k : OpKind) : State :=
  ((labStaged .ready [1, 2]).setSpill { lab.spill with
    slots := [(2, record .staged (some 64)), (6, record .outstanding (some 64))] }).setOps [⟨7, true, k, none⟩]

/-- A CLOSE or a VERIFY that stands alone, beside blocks in STAGED and on the outstanding list. -/
theorem witness_AbortStreamGivesBackItsSlots_marks :
    ∀ k ∈ [OpKind.close 0, .verify 0 2 true], Carries (labAborts k) (dir [0]) 1 ∧
      ((labAborts k).stream 0).phase = .closing false ∧ (labAborts k).ops = [⟨7, true, k, none⟩] ∧
      (labAborts k).spill.endWaits = [] ∧ (labAborts k).abortedSlots 0 = [2] ∧
      (labAborts k).spill.slots.find 2 = some (record .staged (some 64)) ∧ (record .staged (some 64)).stream = 0 ∧
      (labAborts k).spill.slots.find 6 = some (record .outstanding (some 64)) ∧
      ((labAborts k).spill.slots.map Prod.fst).Nodup ∧ (labAborts k).stagedFor 0 = [2] := by
  unfold Carries; decide +kernel

/-- An IDLE stream, and one that is ABORTING already. -/
theorem witness_AbortStreamGivesBackItsSlots_done :
    ∀ p ∈ [Phase.idle, .closing true], ∃ s : State, Carries s (dir [0]) 1 ∧
      byteAt (dir [0]).params 0 = BitVec.ofNat 8 (0 : StreamId).val ∧ (s.stream 0).phase = p ∧ ∀ o ∈ s.ops, o.ended = none := by
  intro p h
  refine ⟨labSending.setStream 0 { runner 0 with phase := p }, ?_⟩
  simp only [List.mem_cons, List.not_mem_nil, or_false] at h
  rcases h with rfl | rfl <;> unfold Carries <;> decide +kernel

/-- A block of one point, and one of none. -/
theorem witness_FlushStreamClosesABlockThatHoldsPoints :
    (Carries (labOpen 1) (dir [0]) 1 ∧ byteAt (dir [0]).params 0 = BitVec.ofNat 8 (0 : StreamId).val ∧
      ((labOpen 1).stream 0).phase = .running .inSegment ∧ ((labOpen 1).stream 0).openBlock = some (block 1) ∧
      1 ≤ (block 1).points ∧ ((labOpen 1).stream 0).window = none) ∧
    Carries (labOpen 0) (dir [0]) 1 ∧ ((labOpen 0).stream 0).phase = .running .inSegment ∧
      ((labOpen 0).stream 0).openBlock = some (block 0) ∧ (block 0).points = 0 := by
  unfold Carries; decide +kernel

/-- With an empty window, and with one in progress; the free list's head is slot 3. -/
theorem witness_FlushStreamClosesABlockThatHoldsPoints_memory :
    MemoryCanonical (labOpen 1) ∧ ((labOpen 1).stream 0).window = none ∧
      headerLength (block 1).gap + (block 1).payload.length ≤ 65536 ∧
      (∃ s : State, (s.stream 0).phase = .running .inSegment ∧ (s.stream 0).openBlock = some (block 1) ∧
        (s.stream 0).window.isSome = true ∧ s.spill.freeList.head? = some 3 ∧ MemoryCanonical s) ∧
      ¬ InSlot 2 0 ∧ ¬ InSlot 3 0 := by
  refine ⟨by unfold MemoryCanonical; decide +kernel, by decide +kernel, by decide +kernel,
    ⟨(labOpen 1).setStream 0 { opener 1 with window := some (Window.beginWith (StreamConfig.powerOn 0) 1 5 7) },
      by decide +kernel, by decide +kernel, by decide +kernel, by decide +kernel,
      by unfold MemoryCanonical; decide +kernel⟩, by unfold InSlot; decide, by unfold InSlot; decide⟩

/-- AMEND of stream 0, annotation word 3, sequence 0, value FFFFFFFF. -/
def amendDir : Directive := dir [0, 3, 0, 0, 0, 0, 255, 255, 255, 255]

/-- A queued block with a gap section: a corrected line 0, and both header lines uncorrectable, which is all it reads. -/
theorem witness_AmendRewritesTheHeader_findings :
    ∃ s : State, (∃ r : SlotRecord, s.findBlock 0 (BitVec.ofNat 32 (field amendDir.params 2 4)) = some (2, r) ∧
        r.place = .queued) ∧ s.headerLines 2 = 2 ∧ NoneStands s 2 ∧ s.spill.badLines ≠ [] ∧ s.readsInFlight 2 = 0 ∧
      (FindingsFit [⟨0, .corrected⟩] 2 ∧ uncorrectableIn [⟨0, .corrected⟩] = 0) ∧
      FindingsFit [⟨1, .uncorrectable 1⟩, ⟨0, .uncorrectable 2⟩] 2 ∧
      0 < uncorrectableIn [⟨1, .uncorrectable 1⟩, ⟨0, .uncorrectable 2⟩] := by
  refine ⟨(labClosed .queued [2]).setSpill { lab.spill with
    slots := [(2, { record .queued (some 96) with headLength := some 96 })], badLines := [(3072, 1)] },
    ⟨{ record .queued (some 96) with headLength := some 96 }, by decide +kernel⟩, ?_⟩
  unfold NoneStands FindingsFit; decide +kernel

/-- A ready copy in STAGED, and an open block. -/
theorem witness_AmendRewritesTheHeader :
    ∀ s ∈ [labStaged .ready [1, 2], labOpen 5], ∃ r : SlotRecord,
      Carries s amendDir 10 ∧ byteAt amendDir.params 0 = BitVec.ofNat 8 (0 : StreamId).val ∧
      byteAt amendDir.params 1 = BitVec.ofNat 8 (3 : Fin 4).val ∧
      s.findBlock 0 (BitVec.ofNat 32 (field amendDir.params 2 4)) = some (2, r) ∧ MemoryCanonical s ∧
      s.spill.badLines = [] ∧ s.readsInFlight 2 = 0 ∧ 0 < s.headerLines 2 ∧
      ((r.place = .staged ∧ s.alt.staged.map StagedBlock.copy = some .ready) ∨
        (r.place = .openBlock ∧ (s.stream 0).openBlock = some (block 5))) := by
  simp only [List.forall_mem_cons, List.not_mem_nil, false_implies, implies_true, and_true]
  exact ⟨⟨record .staged (some 64), by unfold Carries MemoryCanonical; decide +kernel⟩,
    ⟨record .openBlock none, by unfold Carries MemoryCanonical; decide +kernel⟩⟩

/-- A header read that meets an uncorrectable line, of a queued block. -/
theorem witness_AmendRewritesTheHeader_damaged :
    Carries (labClosed .queued [2]) amendDir 10 ∧
      (labClosed .queued [2]).findBlock 0 (BitVec.ofNat 32 (field amendDir.params 2 4)) =
        some (2, record .queued (some 64)) ∧ (record .queued (some 64)).place = .queued ∧
      (labClosed .queued [2]).spill.badLines = [] ∧ 0 < (labClosed .queued [2]).headerLines 2 := by
  unfold Carries; decide +kernel

/-- A sequence not given yet, and one given 2^31 sequences ago. -/
theorem witness_VerifyEntersTheListAndAbsentBlocksAreRefused :
    (Carries (labOpen 5) (dir [0, 0, 0, 0, 0]) 5 ∧
      byteAt (dir [0, 0, 0, 0, 0]).params 0 = BitVec.ofNat 8 (0 : StreamId).val ∧
      (labOpen 5).findBlock 0 0 = some (2, record .openBlock none) ∧ (labOpen 5).ops.length < 4) ∧
    (Carries labSending amendDir 10 ∧ labSending.findBlock 0 0 = some (2, record .sending (some 64))) ∧
    (Carries lab amendDir 10 ∧ lab.findBlock 0 0 = none ∧ ((lab.stream 0).nextSeq - 0).toNat = 0) ∧
    ∃ s : State, Carries s (dir [0, 0, 0, 0, 0]) 5 ∧ s.findBlock 0 0 = none ∧
      ((s.stream 0).nextSeq - 0).toNat = 2 ^ 31 := by
  refine ⟨by unfold Carries; decide +kernel, by unfold Carries; decide +kernel, by unfold Carries; decide +kernel,
    ⟨lab.setStream 0 { runner 0 with nextSeq := 0x80000000 }, by unfold Carries; decide +kernel⟩⟩

/-- Stream 0, whose sequence 0 two held slots carry, in run 1; one of them may carry the aborted mark. -/
def labTwice (p q : SlotPlace) (mark : Bool) : State :=
  (labWith (runner 0) (record p (some 64))).setSpill { lab.spill with
    slots := [(2, { record p (some 64) with aborted := true }), (6, { record q (some 64) with aborted := mark })] }

/-- A marked slot and an unmarked one; two marked, one of them in SENDING; and two marked on the outstanding list. -/
theorem witness_VerifyEntersTheListAndAbsentBlocksAreRefused_carriers :
    (Carrier (labTwice .outstanding .queued false) 0 0 6 (record .queued (some 64)) ∧
      (record .queued (some 64)).aborted = false) ∧
    (∃ s : State, s.alt.sending = some ⟨6, 7, []⟩ ∧
      Carrier s 0 0 6 { record .sending (some 64) with aborted := true } ∧
      ∀ n q, Carrier s 0 0 n q → q.aborted = true) ∧
    ∃ s : State, s.alt.sending = none ∧ s.alt.outstanding = [⟨5, 2⟩] ++ ⟨6, 6⟩ :: [] ∧
      Carrier s 0 0 6 { record .outstanding (some 64) with aborted := true } ∧
      ∀ n q, Carrier s 0 0 n q → q.aborted = true := by
  have h : ∀ p q (s : State), s.spill.slots = (labTwice p q true).spill.slots →
      ∀ n r, Carrier s 0 0 n r → r.aborted = true := by
    intro p q s hs n r c
    have hm := c.1
    rw [hs] at hm
    change (n, r) ∈ [_, _] at hm
    simp only [List.mem_cons, List.not_mem_nil, or_false, Prod.mk.injEq] at hm
    rcases hm with ⟨-, rfl⟩ | ⟨-, rfl⟩ <;> rfl
  refine ⟨by unfold Carrier; decide +kernel,
    ⟨(labTwice .outstanding .sending true).setAlt { lab.alt with sending := some ⟨6, 7, []⟩ }, rfl,
      by unfold Carrier; decide +kernel, h _ _ _ rfl⟩,
    ⟨(labTwice .outstanding .outstanding true).setAlt { lab.alt with outstanding := [⟨5, 2⟩, ⟨6, 6⟩] }, rfl, rfl,
      by unfold Carrier; decide +kernel, h _ _ _ rfl⟩⟩

/-- A run that has given no sequence, and one that has given sequence 0. -/
theorem witness_VerifyEntersTheListAndAbsentBlocksAreRefused_given :
    ((lab.stream 0).gaveSeq = false ∧ lab.findBlock 0 0x80000000 = none ∧
      ((lab.stream 0).nextSeq - 0x80000000).toNat = 2 ^ 31) ∧
    ∃ s : State, (s.stream 0).gaveSeq = true ∧ s.findBlock 0 0 = none ∧ ((s.stream 0).nextSeq - 0).toNat = 1 := by
  exact ⟨by decide +kernel, ⟨lab.setStream 0 { runner 0 with nextSeq := 1, gaveSeq := true }, by decide +kernel⟩⟩

theorem witness_QueriesAnswerWithASnapshot :
    Carries (labOpen 5) (dir [7]) 1 ∧ byteAt (dir [7]).params 0 = BitVec.ofNat 8 (7 : StreamId).val ∧
      Carries (labOpen 5) (dir []) 0 ∧ ((labOpen 5).stream 0).openBlock = some (block 5) ∧
      ((labOpen 5).stream 7).openBlock = none := by
  unfold Carries; decide +kernel

theorem witness_ClearCountsZeroesTheEngineCounters :
    Carries (lab.setCounters ⟨1, 2, 3, 4, 5, 6, 7, 0xFFFFFFFF⟩) (dir []) 0 := by
  unfold Carries; decide +kernel

theorem witness_UndecodedDirectivesHaveNoEffect :
    lab.receiver.inSync = true ∧ 0x40#8 ∉ [0x01#8, 0x02, 0x03, 0x04, 0x05, 0x10, 0x11, 0x12, 0x13, 0x14, 0x15, 0x16, 0x17,
        0x20, 0x21, 0x22, 0x30, 0x31] ∧
      (dir [1, 2]).length.toNat = (dir [1, 2]).params.length ∧ (dir [1, 2]).params.length ≠ 1 ∧
      (⟨7, 0, 2, [1]⟩ : Directive).length.toNat ≠ (⟨7, 0, 2, [1]⟩ : Directive).params.length ∧
      (dir ([0, 0, 32] ++ List.replicate 255 0)).params.length ≠ 3 + 8 * 32 ∧ byteAt (dir [0, 0, 0]).params 2 = 0 := by
  decide +kernel

theorem witness_RefusedDirectivesChangeNothing :
    (Carries (labOpen 5) (dir (configureParams 0)) 30 ∧
      byteAt (dir (configureParams 0)).params 0 = BitVec.ofNat 8 (0 : StreamId).val ∧
      ((labOpen 5).stream 0).phase ≠ .idle ∧ streamConfigOf (dir (configureParams 0)).params ≠ none) ∧
    (Carries lab (dir [0]) 1 ∧ (lab.stream 0).phase = .idle) ∧
    (∃ s : State, Carries s (dir [0]) 1 ∧ (s.stream 0).phase = .running .inSegment ∧ 4 ≤ s.ops.length) ∧
    (Carries labVerify (dir [0]) 1 ∧ (labVerify.stream 0).phase = .closing false) ∧
    (Carries (labOpen 5) (dir (List.replicate 14 0)) 14 ∧ ((labOpen 5).stream 0).cfg.group = 0 ∧
      ((labOpen 5).stream 0).phase ≠ .idle) ∧
    (8 ≤ (byteAt (dir [8]).params 0).toNat ∧ Carries lab (dir [8]) 1) ∧
    Carries labSent (dir [0, 1, 0]) 3 ∧ byteAt (dir [0, 1, 0]).params 0 = BitVec.ofNat 8 false.toNat ∧
      byteAt (dir [0, 1, 0]).params 1 = BitVec.ofNat 8 true.toNat ∧ true ≠ labSent.settings.loopback ∧
      labSent.alt.outstanding ≠ [] := by
  refine ⟨by unfold Carries; decide +kernel, by unfold Carries; decide +kernel,
    ⟨(labOpen 5).setOps (List.replicate 4 ⟨7, true, .close 1, none⟩), by unfold Carries; decide +kernel⟩, ?_⟩
  unfold Carries; decide +kernel

/-- More slots held than the quota, and a layout without a FIELD. -/
theorem witness_RefusedDirectivesChangeNothing_configure :
    (∃ s : State, ∃ cfg, Carries s (dir (configureParams 0)) 30 ∧ (s.stream 0).phase = .idle ∧
      streamConfigOf (dir (configureParams 0)).params = some cfg ∧ cfg.quota < (s.stream 0).occupancy) ∧
    (∃ cfg, Carries lab (dir ((configureParams 1).set 2 1)) 30 ∧ (lab.stream 1).phase = .idle ∧
      streamConfigOf (dir ((configureParams 1).set 2 1)).params = some cfg ∧ (lab.stream 1).occupancy ≤ cfg.quota ∧
      validate lab.layoutOp cfg.layoutBase = .refused .noField 1) ∧
    (32 ≤ (byteAt (dir ((configureParams 1).set 1 32)).params 1).toNat ∧
      512 ≤ field (dir ((configureParams 1).set 3 2)).params 2 2 ∧
      8 ≤ (byteAt (dir ((configureParams 1).set 4 8)).params 4).toNat ∧
      2 ≤ (byteAt (dir ((configureParams 1).set 5 2)).params 5).toNat ∧
      4 ≤ (byteAt (dir ((configureParams 1).set 6 4)).params 6).toNat ∧
      32768 ≤ field (dir ((configureParams 1).set 8 128)).params 7 2) := by
  refine ⟨⟨lab.setStream 0 { runner 0 with phase := .idle, occupancy := 17 },
    ⟨4, 0, 2, .unsigned, .mean, 100, .kib 8, 0, 16, 16, 15, 3, 1, 1⟩, by unfold Carries; decide +kernel⟩,
    ⟨⟨4, 1, 2, .unsigned, .mean, 100, .kib 8, 0, 16, 16, 15, 3, 1, 1⟩, by unfold Carries; decide +kernel⟩,
    by decide +kernel⟩

/-- A full pending-operation list, a group without an eligible member, and an annotation word of 4. -/
theorem witness_RefusedDirectivesChangeNothing_lists :
    (∃ s : State, Carries s (dir [0]) 1 ∧ (s.stream 0).cfg.group = 0 ∧ (s.stream 0).phase = .running .inSegment ∧
      4 ≤ s.ops.length) ∧
    (∃ s : State, Carries s (dir [0, 0, 0, 0, 0]) 5 ∧ s.findBlock 0 0 ≠ none ∧ 4 ≤ s.ops.length) ∧
    (∀ j, (lab.stream j).cfg.group = 1 → (lab.stream j).span = none) ∧
    4 ≤ (byteAt (dir [0, 4, 0, 0, 0, 0, 0, 0, 0, 0]).params 1).toNat ∧ 2 ≤ (byteAt (dir [2, 0, 0]).params 0).toNat := by
  refine ⟨⟨(labOpen 5).setOps (List.replicate 4 ⟨7, true, .close 1, none⟩), by unfold Carries; decide +kernel⟩,
    ⟨(labClosed .queued [2]).setOps (List.replicate 4 ⟨7, true, .close 1, none⟩), by unfold Carries; decide +kernel⟩,
    by decide +kernel⟩

/-- WRITE LAYOUT of two entries: from index 512 on; the second of no kind; past 511; a GROUP whose last index is 512; and
over the span of a stream that runs. -/
theorem witness_RefusedDirectivesChangeNothing_layout :
    field (dir ([0, 2, 2] ++ List.replicate 16 0)).params 0 2 = 512 ∧
    (layoutEntryOf (List.replicate 8 0) ≠ none ∧ layoutEntryOf (List.replicate 8 9) = none) ∧
    512 < 511 + 2 ∧
    (∃ e, layoutEntryOf [3, 0, 1, 0, 0, 2, 0, 0] = some e ∧ e.op = .group 1 false 512) ∧
    (Carries labSpans (dir ([1, 0, 2] ++ List.replicate 16 0)) (3 + 8 * 2) ∧ (labSpans.stream 0).span = some (0, 1) ∧
      (labSpans.stream 0).phase ≠ .idle ∧ 1 + 2 ≤ 512) := by
  refine ⟨by decide +kernel, by decide +kernel, by decide,
    ⟨⟨.group 1 false 512, [3, 0, 1, 0, 0, 2, 0, 0]⟩, by decide +kernel⟩, by unfold Carries; decide +kernel⟩

theorem witness_BadFramesAndSyncActOnTheReceiverAlone :
    lab.receiver.inSync = true ∧ decodeCapture [0x01, 0x04] [] = none := by
  decide +kernel

/-- A CREDIT with one bit of its CRC wrong, a frame of kind 0x84 whose CRC checks, and a CREDIT of a COMMIT's length and a
COMMIT of a CREDIT's whose CRCs check. -/
theorem witness_InboundFramesDecode_archive :
    field [0x81#8, 0x40, 0x65, 0xfa, 0x9d, 0x14] 2 4 ≠ (crc [0x81, 0x40]).toNat ∧
      (byteAt (withCrc [0x84, 0x40]) 0 = 0x84#8 ∧ (withCrc [0x84, 0x40]).length = 6 ∧
        isBadArchive (withCrc [0x84, 0x40]) = true) ∧
      ((withCrc [0x81, 1, 0, 0, 0]).length ≠ 6 ∧ isBadArchive (withCrc [0x81, 1, 0, 0, 0]) = true) ∧
      (withCrc [0x82, 1]).length ≠ 9 ∧ isBadArchive (withCrc [0x82, 1]) = true := by
  decide +kernel

theorem witness_InboundFramesDecode :
    (31#8).toNat < 32 ∧ 1 ≤ [0#64].length ∧ [0#64].length ≤ 512 ∧ (0xFFFFFFFFFFFF#48).toNat + [0#64].length ≤ 2 ^ 48 ∧
      decodeArchive [0x81, 0x40, 0x65, 0xfa, 0x9d, 0x15] = some (.credit 64) := by
  decide +kernel

/-- A directive of the longest body, and a frame that decodes. -/
theorem witness_InboundFramesDecode_directive :
    (List.replicate 65529 0#8).length + 6 < 65536 ∧ decodeCapture samplesFrame [] ≠ none ∧
      directiveOf 0x32 (dir []) [] = .unknownDirective 0x32 (dir []) := by
  exact ⟨by rw [List.length_replicate]; decide, by rw [test_decode_samples]; exact Option.some_ne_none _, rfl⟩

/-- In order, wholly below, and one word past the largest gap. -/
theorem witness_SamplesReachOnlyTheStreamsOnTheirSource :
    (labOpen 5).receiver.inSync = true ∧ (0#8).toNat < 32 ∧ (5#48).toNat + [0x8000#64].length ≤ 2 ^ 48 ∧
      ((labOpen 5).stream 0).cfg.source.val = (0#8).toNat ∧ ((labOpen 5).stream 0).phase = .running .inSegment ∧
      ((labOpen 5).stream 0).segment = 9 ∧
      ((labOpen 5).stream 0).walker.expected = (5#48).toNat ∧
      (4#48).toNat + [0x8000#64].length ≤ ((labOpen 5).stream 0).walker.expected ∧
      ((labOpen 5).stream 0).walker.expected + 1048576 < (1048582#48).toNat ∧
      ((labOpen 5).stream 1).cfg.source.val ≠ (0#8).toNat := by
  decide +kernel

/-- A straddle, and a gap of three words, at a stream alone on its source. -/
theorem witness_SamplesReachOnlyTheStreamsOnTheirSource_split :
    (∀ j, ((labOpen 5).stream j).cfg.source.val = (0#8).toNat ↔ j = 0) ∧ 5 = ((labOpen 5).stream 0).walker.expected ∧
      (4#48).toNat < 5 ∧ 5 < (4#48).toNat + [1#64, 2#64].length ∧ 5 < (8#48).toNat ∧
      (((labOpen 5).dryWalk 0 (8#48).toNat false).1.stream 0).phase = .running .inSegment := by
  decide +kernel

/-- A dry walk to the walker's own position, and one over three words of one FIELD each. -/
theorem witness_SamplesReachOnlyTheStreamsOnTheirSource_dryWalk :
    ((labOpen 5).stream 0).phase = .running .inSegment ∧ ((labOpen 5).stream 0).loss = none ∧
      5 ≤ ((labOpen 5).stream 0).walker.position ∧ 8 = ((labOpen 5).stream 0).walker.position + 3 ∧
      ((labOpen 5).stream 0).inputIndex + 3 < 2 ^ 56 ∧ ((labOpen 5).stream 0).resync = none ∧
      ((labOpen 5).stream 0).walker.stack = [] ∧
      ((labOpen 5).stream 0).walker.entry = ((labOpen 5).stream 0).cfg.layoutBase ∧
      (labOpen 5).layoutOp ((labOpen 5).stream 0).cfg.layoutBase = .field 0 16 true ∧
      (labOpen 5).layoutOp (((labOpen 5).stream 0).cfg.layoutBase + 1) = .endCycle := by
  decide +kernel

theorem witness_OneWordBecomesOnePassPoint :
    (labOpen 5).receiver.inSync = true ∧ (∀ j, ((labOpen 5).stream j).cfg.source.val = (0#8).toNat ↔ j = 0) ∧
      ((labOpen 5).stream 0).phase = .running .inSegment ∧ ((labOpen 5).stream 0).segment = 9 ∧
      ((labOpen 5).stream 0).loss = none ∧ ((labOpen 5).stream 0).window = none ∧ ((labOpen 5).stream 0).resync = none ∧
      ((labOpen 5).stream 0).openBlock = some (block 5) ∧ ((labOpen 5).stream 0).cfg.mode = .pass ∧
      ((labOpen 5).stream 0).level = 0 ∧ (labOpen 5).publishedFor 0 = 0 ∧
      ((labOpen 5).stream 0).walker = ⟨0, [], (5#48).toNat, (5#48).toNat⟩ ∧
      (labOpen 5).layoutOp 0 = .field 0 16 true ∧ ((labOpen 5).stream 0).inputIndex + 1 < 2 ^ 56 ∧
      (block 5).points + 1 < (block 5).target := by
  decide +kernel

theorem witness_FieldsAreExtractedAndWidened :
    1 ≤ 1 ∧ 16 ≤ 16 ∧ 48 + 16 ≤ 64 ∧ 63 + 1 ≤ 64 := by
  decide

theorem witness_SegmentStartBeginsTheSegment :
    ∃ s : State, s.receiver.inSync = true ∧ (0#8).toNat < 32 ∧
      (s.stream 0).cfg.source.val = 0 ∧ (s.stream 0).phase = .armed .alone ∧
      (s.stream 1).cfg.source.val = 0 ∧ (s.stream 1).phase = .running .betweenSegments ∧
      (s.stream 2).cfg.source.val = 0 ∧ (s.stream 2).phase = .running .inSegment ∧
      (s.stream 3).cfg.source.val = 0 ∧ (s.stream 3).phase = .closing false ∧ (s.stream 4).cfg.source.val ≠ 0 := by
  refine ⟨(((lab.setStream 0 { runner 0 with phase := .armed .alone }).setStream 1
    { runner 0 with phase := .running .betweenSegments }).setStream 2 (runner 0)).setStream 3
    { runner 0 with phase := .closing false }, ?_⟩
  decide +kernel

/-- A stream IN_SEGMENT, alone on its source, with a block open. -/
theorem witness_SegmentStartBeginsTheSegment_implicitEnd :
    (labOpen 5).receiver.inSync = true ∧ (∀ j, ((labOpen 5).stream j).cfg.source.val = (0#8).toNat ↔ j = 0) ∧
      ((labOpen 5).stream 0).phase = .running .inSegment ∧ ((labOpen 5).stream 0).openBlock = some (block 5) ∧
      ((labOpen 5).stream 0).loss = none ∧ MemoryCanonical (labOpen 5) ∧
      headerLength (block 5).gap + (block 5).payload.length + 4 ≤ 65536 ∧
      (labOpen 5).enabled (.stream 0 .segmentTruncated) = true := by
  unfold MemoryCanonical; decide +kernel

theorem witness_GroupAlignmentFollowsTheStartSegment :
    ∀ first ∈ [none, some 10#32, some 11#32], ∃ s : State, s.receiver.inSync = true ∧ (0#8).toNat < 32 ∧
      (∀ j, (s.stream j).cfg.source.val = (0#8).toNat ↔ j = 0) ∧ (s.stream 0).phase = .armed .group ∧
      (s.group (s.stream 0).cfg.group).startSegment = first ∧ 10#32 < 11#32 := by
  intro first h
  refine ⟨(lab.setStream 0 { runner 0 with phase := .armed .group }).setGroup 0
    { Group.powerOn with startSegment := first }, ?_⟩
  simp only [List.mem_cons, List.not_mem_nil, or_false] at h
  rcases h with rfl | rfl | rfl <;> decide +kernel

theorem witness_SegmentEndWithoutTailEndsTheSegment_lossy : ∃ s : State, (s.stream 0).loss ≠ none :=
  ⟨lab.setStream 0 { runner 0 with loss := some ⟨⟨0, 1, 1000⟩, none, 0⟩ }, by decide +kernel⟩

theorem witness_SegmentEndWithoutTailEndsTheSegment :
    (labOpen 5).receiver.inSync = true ∧ (0#8).toNat < 32 ∧
      ((labOpen 5).stream 0).cfg.source.val = (0#8).toNat ∧ ((labOpen 5).stream 0).phase = .running .inSegment ∧
      ((labOpen 5).stream 0).segment = 9 ∧ (5#48).toNat ≤ ((labOpen 5).stream 0).walker.expected ∧
      ((labOpen 5).stream 0).openBlock = some (block 5) ∧ ((labOpen 5).stream 0).loss = none ∧
      ((labOpen 5).stream 0).segment ≠ 8 := by
  decide +kernel

/-- The last word index at the expected one, at the largest tail, and one past it. -/
theorem witness_SegmentEndWithoutTailEndsTheSegment_tail :
    (∀ j, ((labOpen 5).stream j).cfg.source.val = (0#8).toNat ↔ j = 0) ∧ MemoryCanonical (labOpen 5) ∧
      headerLength (block 5).gap + (block 5).payload.length + 4 ≤ 65536 ∧
      (5#48).toNat ≤ ((labOpen 5).stream 0).walker.expected ∧
      ((labOpen 5).stream 0).walker.expected < (1048581#48).toNat ∧
      (1048581#48).toNat ≤ ((labOpen 5).stream 0).walker.expected + 1048576 ∧
      ((labOpen 5).stream 0).walker.expected + 1048576 < (1048582#48).toNat ∧
      (labOpen 5).enabled (.stream 0 .segmentTruncated) = true := by
  unfold MemoryCanonical; decide +kernel

/-- A tail that fits, at the last point count that leaves it room; and one that does not, for want of room. -/
theorem witness_SegmentEndWithoutTailEndsTheSegment_section :
    ∀ n ∈ [32720, 32721], ∃ s : State, (s.stream 0).loss = none ∧ MemoryCanonical s ∧
      (∃ b, (s.stream 0).openBlock = some b ∧ b.gap = none ∧
        b.points * b.header.mode.pointSize + 96 = 65536 + (n - 32720) * 2) ∧
      (∃ q, s.spill.slots.find 2 = some q) ∧ s.spill.freeList = [3, 4, 5] ∧
      (s.stream 0).occupancy < (s.stream 0).cfg.quota := by
  intro n h
  refine ⟨labWith { opener 5 with openBlock := some { block 5 with points := n } } (record .openBlock none), ?_⟩
  simp only [List.mem_cons, List.not_mem_nil, or_false] at h
  rcases h with rfl | rfl
  · exact ⟨by decide +kernel, by unfold MemoryCanonical; decide +kernel,
      ⟨{ block 5 with points := 32720 }, by decide +kernel⟩, ⟨record .openBlock none, by decide +kernel⟩, by decide +kernel⟩
  · exact ⟨by decide +kernel, by unfold MemoryCanonical; decide +kernel,
      ⟨{ block 5 with points := 32721 }, by decide +kernel⟩, ⟨record .openBlock none, by decide +kernel⟩, by decide +kernel⟩

/-- No block open, with an awaiting record or none, a slot or none. -/
theorem witness_SegmentEndWithoutTailEndsTheSegment_carrier :
    ∀ a ∈ [none, some (⟨5, 2, 1020⟩ : GapRecord)], ∀ free ∈ [[], [3]], ∃ s : State, (s.stream 0).loss = none ∧
      (s.stream 0).openBlock = none ∧ (s.stream 0).awaiting = a ∧ s.spill.freeList = free ∧
      (s.stream 0).occupancy < (s.stream 0).cfg.quota ∧ MemoryCanonical s := by
  intro a _ free _
  exact ⟨(lab.setStream 0 { runner 0 with awaiting := a }).setSpill { lab.spill with freeList := free },
    rfl, rfl, rfl, rfl, by change 0 < 8192; decide, by
      unfold MemoryCanonical; change Memory.wf []; decide⟩

theorem witness_ResyncMovesOrHoldsTheAnchor :
    (labOpen 5).receiver.inSync = true ∧ (0#8).toNat < 32 ∧
      ((labOpen 5).stream 0).cfg.source.val = (0#8).toNat ∧ ((labOpen 5).stream 0).phase = .running .inSegment ∧
      ((labOpen 5).stream 0).segment = 9 ∧ (5#64).toNat ≤ ((labOpen 5).stream 0).inputIndex ∧
      ¬ (6#64).toNat ≤ ((labOpen 5).stream 0).inputIndex ∧ ((labOpen 5).stream 0).segment ≠ 8 := by
  decide +kernel

/-- The stream's group orders level 1, and the stream applies level 0, with or without a block open. -/
def labLevel (x : Machine.Stream) : State :=
  (labWith x (record .openBlock none)).setGroup 0 { Group.powerOn with ordered := 1 }

theorem witness_LevelsApplyAtWindowBoundaries :
    MemoryCanonical (labOpen 5) ∧ ((labOpen 5).stream 0).level = (labOpen 5).publishedFor 0 ∧
      MemoryCanonical (labLevel (opener 5)) ∧
      ((labLevel (opener 5)).stream 0).level ≠ (labLevel (opener 5)).publishedFor 0 ∧
      ((labLevel (opener 5)).stream 0).openBlock = some (block 5) ∧
      ((labLevel (runner 0)).stream 0).level ≠ (labLevel (runner 0)).publishedFor 0 ∧
      ((labLevel (runner 0)).stream 0).openBlock = none := by
  unfold MemoryCanonical; decide +kernel

/-- An empty window and one in progress; a would-be window at its boundary and one in progress. -/
theorem witness_LevelsApplyAtWindowBoundaries_boundaries :
    (∃ s : State, (s.stream 0).loss = none ∧ (s.stream 0).window = none) ∧
    (∃ s : State, (s.stream 0).loss = none ∧ (s.stream 0).window.isSome = true) ∧
    ∀ seen ∈ [0, 3], ∃ s : State, (s.stream 0).loss = some ⟨⟨3, 2, 1012⟩, some 4, seen⟩ := by
  exact ⟨⟨labOpen 5, by decide +kernel⟩,
    ⟨(labOpen 1).setStream 0 { opener 1 with window := some (Window.beginWith (StreamConfig.powerOn 0) 1 5 7) },
      by decide +kernel⟩,
    fun seen _ => ⟨lab.setStream 0 { runner 0 with loss := some ⟨⟨3, 2, 1012⟩, some 4, seen⟩ }, rfl⟩⟩

theorem witness_LevelsApplyAtWindowBoundaries_memory :
    headerLength (block 5).gap + (block 5).payload.length ≤ 65536 := by
  decide +kernel

/-- Stream 0 in DECIMATE with factor 4, without a block open, with a loss record, and a free list. -/
def labLoss (loss : Option LossRecord) (free : List Nat) : State :=
  (lab.setStream 0 { runner 0 with
    cfg := { StreamConfig.powerOn 0 with mode := .decimate, baseFactor := 4 }, inputIndex := 5, loss := loss }).setSpill
    { lab.spill with freeList := free }

/-- A loss that begins, one that goes on, one at a boundary without a slot, and one at a boundary with a slot. -/
theorem witness_LossBeginsGoesOnAndEnds :
    ∀ s ∈ [labLoss none [], labLoss (some ⟨⟨3, 2, 1012⟩, some 4, 3⟩) [], labLoss (some ⟨⟨3, 2, 1012⟩, some 4, 0⟩) [],
        labLoss (some ⟨⟨3, 2, 1012⟩, some 4, 0⟩) [3]],
      (s.stream 0).level = s.publishedFor 0 ∧ effectiveFactor (s.stream 0).cfg (s.stream 0).level = 4 ∧
      (s.stream 0).openBlock = none ∧ (s.stream 0).window = none ∧ (s.stream 0).occupancy < (s.stream 0).cfg.quota := by
  decide +kernel

/-- A factor of 1, at a boundary with a slot and without; between boundaries; and in a dry walk. -/
theorem witness_LossBeginsGoesOnAndEnds_factor :
    ∀ seen ∈ [0, 3], ∀ free ∈ [[], [3, 4]], ∃ s : State, effectiveFactor (s.stream 0).cfg (s.stream 0).level = 1 ∧
      (s.stream 0).level = s.publishedFor 0 ∧ (s.stream 0).loss = some ⟨⟨3, 2, 1012⟩, some 4, seen⟩ ∧
      (s.stream 0).openBlock = none ∧ (s.stream 0).window = none ∧ s.spill.freeList = free ∧
      (s.stream 0).occupancy < (s.stream 0).cfg.quota ∧ (s.stream 0).cfg.blockSize = .kib 16 := by
  intro seen hs free hf
  refine ⟨(lab.setStream 0 { runner 0 with inputIndex := 5, loss := some ⟨⟨3, 2, 1012⟩, some 4, seen⟩ }).setSpill
    { lab.spill with freeList := free }, ?_⟩
  simp only [List.mem_cons, List.not_mem_nil, or_false] at hs hf
  rcases hs with rfl | rfl <;> rcases hf with rfl | rfl <;> decide +kernel

theorem witness_LinkUpAndCreditOpenTheLink :
    (lab.settings.loopback = false ∧ lab.alt.linkState = .down) ∧ (up lab).alt.linkState ≠ .down ∧
      (up lab).alt.archiveSync = true ∧ (up lab).settings.loopback = false ∧ 1 ≤ (64#8).toNat ∧ (64#8).toNat ≤ 64 := by
  decide +kernel

theorem witness_LinkDownReturnsEveryBlock :
    lab.alt.linkState = .down ∧ labSent.settings.loopback = false ∧ labSent.alt.linkState ≠ .down ∧
      labSent.heldByLink = [2] ∧ labSent.spill.slots.find 2 = some (record .outstanding (some 64)) ∧
      (record .outstanding (some 64)).aborted = false := by
  decide +kernel

/-- A stream ABORTING, whose block in SENDING has the aborted mark, behind a block of the list without it. -/
def labAborting : State :=
  ((up ((lab.setStream 0 { runner 0 with phase := .closing true, occupancy := 2 }))).setSpill { lab.spill with
    slots := [(2, record .outstanding (some 64)), (6, { record .sending (some 64) with aborted := true })] }).setAlt
    { (up lab).alt with outstanding := [⟨6, 2⟩], sending := some ⟨6, 7, []⟩ }

theorem witness_LinkDownReturnsEveryBlock_aborted :
    labAborting.settings.loopback = false ∧ labAborting.alt.linkState ≠ .down ∧ labAborting.heldByLink = [2, 6] ∧
      labAborting.heldByLink.Nodup ∧ (∀ n ∈ labAborting.heldByLink, (labAborting.spill.slots.find n).isSome = true) ∧
      labAborting.spill.endWaits = [] ∧ (labAborting.spill.slots.map Prod.fst).Nodup ∧
      labAborting.alt.sending = some ⟨6, 7, []⟩ ∧
      labAborting.spill.slots.find 6 = some { record .sending (some 64) with aborted := true } ∧
      (labAborting.stream 0).phase = .closing true := by
  decide +kernel

theorem witness_CommitFreesTheBlocksUpToItsSequence :
    labSent.alt.archiveSync = true ∧ labSent.settings.loopback = false ∧ (6#32 - labSent.alt.oldest).toNat = 0 ∧
      0 < labSent.alt.outstanding.length ∧ [2] = (labSent.alt.outstanding.take 1).map SentBlock.slot ∧ [2].Nodup ∧
      (labSent.spill.slots.find 2).isSome = true ∧ labSent.spill.endWaits = [] ∧
      (labSent.spill.slots.map Prod.fst).Nodup := by
  decide +kernel

/-- A single entry: with a stream that waits for its END slot; with the last block of a run whose CLOSE, group-close or
VERIFY stands alone; and with a block that is not the run's last. -/
theorem witness_CommitFreesTheBlocksUpToItsSequence_single :
    ((labSent.stream 0).phase = .closing false ∧ (labSent.stream 0).openBlock = none ∧
      (labSent.stream 0).counts.committed + 1 = (labSent.stream 0).nextSeq ∧ labSent.spill.endWaits = [] ∧
      labSent.alt.outstanding = ⟨6, 2⟩ :: [] ∧ labSent.spill.slots.find 2 = some (record .outstanding (some 64)) ∧
      (record .outstanding (some 64)).aborted = false) ∧
    (∀ k ∈ [OpKind.close 0, .groupClose 0 [0] [0] false, .groupClose 0 [0, 1] [0] true, .verify 0 2 true],
      (labSent.setOps [⟨7, true, k, none⟩]).ops = [⟨7, true, k, none⟩] ∧
      (labSent.setOps [⟨7, true, k, none⟩]).stream 0 = labSent.stream 0) ∧
    (∃ s : State, s.spill.endWaits = [1] ∧ s.alt.outstanding = ⟨6, 2⟩ :: [] ∧
      s.spill.slots.find 2 = some (record .outstanding (some 64)) ∧ (record .outstanding (some 64)).stream ≠ 1) ∧
    ∃ s : State, s.alt.outstanding = ⟨6, 2⟩ :: [] ∧ (s.stream 0).phase = .closing false ∧
      s.spill.slots.find 2 = some (record .outstanding (some 64)) ∧
      (s.stream 0).counts.committed + 1 ≠ (s.stream 0).nextSeq := by
  refine ⟨by decide +kernel, by decide +kernel,
    ⟨labSent.setSpill { labSent.spill with endWaits := [1] }, by decide +kernel⟩,
    ⟨labSent.setStream 0 { runner 0 with phase := .closing false, nextSeq := 2, gaveSeq := true }, by decide +kernel⟩⟩

theorem witness_RewindEmptiesTheTransmitter :
    labSent.alt.archiveSync = true ∧ labSent.settings.loopback = false ∧
      (6#32 - labSent.alt.oldest).toNat ≤ labSent.alt.outstanding.length ∧
      (7#32 - labSent.alt.oldest).toNat ≤ labSent.alt.outstanding.length := by
  decide +kernel

/-- A REWIND to the entry that it returns, and to the next link sequence, with an aborted block in SENDING. -/
theorem witness_RewindEmptiesTheTransmitter_aborted :
    labAborting.alt.archiveSync = true ∧ (6#32 - labAborting.alt.oldest).toNat = 0 ∧
      (7#32 - labAborting.alt.oldest).toNat = labAborting.alt.outstanding.length ∧ labAborting.heldByLink = [2, 6] := by
  decide +kernel

/-- Two entries outstanding and a block in STAGED: the first is committed, the others return. -/
theorem witness_RewindEmptiesTheTransmitter_blocks :
    ∃ s : State, (6#32 - s.alt.oldest).toNat = 1 ∧ s.alt.outstanding = [⟨5, 2⟩, ⟨6, 6⟩] ∧ s.heldByLink = [2, 6, 8] ∧
      s.heldByLink.Nodup ∧ (s.spill.slots.find 2).isSome = true ∧
      (∀ a ∈ [6, 8], ∃ r, s.spill.slots.find a = some r ∧ r.aborted = false) ∧ s.spill.endWaits = [] ∧
      (s.spill.slots.map Prod.fst).Nodup := by
  refine ⟨((labStaged .ready [1, 2]).setSpill { lab.spill with
    slots := [(2, record .outstanding (some 64)), (6, record .outstanding (some 64)), (8, record .staged (some 64))] }).setAlt
    { (up lab).alt with outstanding := [⟨5, 2⟩, ⟨6, 6⟩], staged := some ⟨8, .ready, [1, 2]⟩ }, ?_⟩
  simp only [List.forall_mem_cons, List.not_mem_nil, false_implies, implies_true, and_true]
  refine ⟨by decide +kernel, by decide +kernel, by decide +kernel, by decide +kernel, by decide +kernel,
    ⟨⟨record .outstanding (some 64), by decide +kernel⟩, ⟨record .staged (some 64), by decide +kernel⟩⟩, by decide +kernel,
    by decide +kernel⟩

/-- The entry 6 is outstanding: 8 is ahead of the window, 7 is next, 5 is stale, and so is what lies 64 back. -/
theorem witness_ProtocolViolationsAreCountedAndIgnored :
    labSent.alt.archiveSync = true ∧ labSent.settings.loopback = false ∧ decodeArchive [0x84] = none ∧
      64 < (65#8).toNat ∧
      (labSent.alt.outstanding.length < (8#32 - labSent.alt.oldest).toNat ∧ 64 < (labSent.alt.oldest - 8#32).toNat) ∧
      (7#32 - labSent.alt.oldest).toNat = labSent.alt.outstanding.length ∧
      (labSent.alt.outstanding.length < (5#32 - labSent.alt.oldest).toNat ∧ (labSent.alt.oldest - 5#32).toNat ≤ 64) ∧
      (labSent.alt.oldest - (6#32 - 64#32)).toNat ≤ 64 ∧ 64 < (labSent.alt.oldest - (6#32 - 65#32)).toNat := by
  decide +kernel

theorem witness_ArbiterGrantsTheHighestClass :
    ∃ s : State, s.alt.staged = none ∧ 0 < s.alt.credits ∧ s.alt.linkState ≠ .down ∧ (s.stream 0).sendQueue = [2] ∧
      (s.alt.pointers.get (s.stream 0).cfg.priority) = ⟨some 0, 0⟩ ∧ 0 < (s.stream 0).cfg.weight ∧
      s.spill.slots.find 2 = some (record .queued (some 64)) := by
  refine ⟨(up (labClosed .queued [2])).setAlt { (up lab).alt with pointers := Vector.replicate 4 ⟨some 0, 0⟩ }, ?_⟩
  decide +kernel

/-- The class's pointer absent; its current stream's turn over; and its current stream without a queued block. -/
theorem witness_ArbiterGrantsTheHighestClass_rotation :
    ∀ p ∈ [(⟨none, 0⟩ : Pointer), ⟨some 0, 1⟩, ⟨some 7, 0⟩], ∃ s : State, s.alt.staged = none ∧ 0 < s.alt.credits ∧
      s.alt.linkState ≠ .down ∧ (s.stream 0).sendQueue = [2] ∧ (s.stream 0).cfg.priority = 0 ∧
      s.alt.pointers.get 0 = p ∧ (s.stream 0).cfg.weight = 1 ∧ (s.stream 7).sendQueue = [] := by
  intro p h
  refine ⟨(up (labClosed .queued [2])).setAlt { (up lab).alt with pointers := Vector.replicate 4 p }, ?_⟩
  simp only [List.mem_cons, List.not_mem_nil, or_false] at h
  rcases h with rfl | rfl | rfl <;> decide +kernel

/-- Three lines of slot 2 in STAGED: corrected findings alone; an uncorrectable payload line beside a corrected header line;
an uncorrectable header line beside another; and a line that stands from an earlier read. -/
theorem witness_StagingReadsMakeTheCopyReady_findings :
    ∃ s : State, s.alt.staged = some ⟨2, .reading, []⟩ ∧ s.spill.slots.find 2 = some (record .staged (some 192)) ∧
      NoneStands s 2 ∧ s.spill.badLines ≠ [] ∧ s.readsInFlight 2 = 0 ∧ MemoryCanonical s ∧ s.headerLines 2 = 1 ∧
      (∀ checks ∈ ([[], [⟨2, .corrected⟩, ⟨0, .corrected⟩], [⟨2, .uncorrectable 1⟩, ⟨0, .corrected⟩],
        [⟨0, .uncorrectable 1⟩, ⟨1, .uncorrectable 1⟩]] : List (List LineCheck)), FindingsFit checks (lineCount 192)) ∧
      (uncorrectableIn [⟨2, .corrected⟩, ⟨0, .corrected⟩] = 0 ∧ 0 < uncorrectableIn [⟨2, .uncorrectable 1⟩, ⟨0, .corrected⟩]) ∧
      ∃ u : State, u.spill.badLines = (2 * 1024 + 2, 5) :: s.spill.badLines ∧
        s = { u with spill := { u.spill with badLines := s.spill.badLines } } := by
  refine ⟨(labStaged .reading []).setSpill { lab.spill with
    slots := [(2, record .staged (some 192))], badLines := [(3072, 1)] }, by decide +kernel, by decide +kernel, ?_,
    by decide +kernel, by decide +kernel, ?_, by decide +kernel, ?_, by decide +kernel,
    (labStaged .reading []).setSpill { lab.spill with
      slots := [(2, record .staged (some 192))], badLines := [(2050, 5), (3072, 1)] }, by decide +kernel, by decide +kernel⟩
  · unfold NoneStands; decide +kernel
  · unfold MemoryCanonical; decide +kernel
  · unfold FindingsFit; decide +kernel

theorem witness_StagingReadsMakeTheCopyReady :
    (∀ s ∈ [labStaged .reading [], labStaged .stale [1, 2]], ∃ b, s.alt.staged = some b ∧ b.copy ≠ .ready ∧ b.slot = 2 ∧
      s.spill.slots.find 2 = some (record .staged (some 64)) ∧ s.spill.badLines = []) ∧
    ∃ s : State, s.alt.staged = some ⟨2, .reading, []⟩ ∧ s.spill.slots.find 2 = some (record .staged (some 192)) ∧
      s.spill.badLines = [] ∧ s.readsInFlight 2 = 0 ∧ 96 ≤ 192 ∧ 2 < lineCount 192 ∧ MemoryCanonical s := by
  simp only [List.forall_mem_cons, List.not_mem_nil, false_implies, implies_true, and_true]
  refine ⟨⟨⟨⟨2, .reading, []⟩, by decide +kernel⟩, ⟨⟨2, .stale, [1, 2]⟩, by decide +kernel⟩⟩,
    ⟨(labStaged .reading []).setSpill { lab.spill with slots := [(2, record .staged (some 192))] }, ?_⟩⟩
  unfold MemoryCanonical; decide +kernel

theorem witness_ReadyCopiesMoveAndSendsAppend :
    ((labStaged .ready [1, 2]).alt.staged = some ⟨2, .ready, [1, 2]⟩ ∧ (labStaged .ready [1, 2]).alt.sending = none ∧
      0 < (labStaged .ready [1, 2]).alt.credits ∧ (labStaged .ready [1, 2]).alt.linkState ≠ .down ∧
      (labStaged .ready [1, 2]).spill.slots.find 2 = some (record .staged (some 64))) ∧
    labSending.alt.sending = some ⟨2, 7, [1, 2]⟩ ∧ labSending.spill.slots.find 2 = some (record .sending (some 64)) ∧
      (labSending.stream 0).phase ≠ .closing true ∧
    ∃ s : State, s.alt.sending = some ⟨2, 7, [1, 2]⟩ ∧ (s.stream 0).phase = .closing true := by
  refine ⟨by decide +kernel, by decide +kernel, by decide +kernel, by decide +kernel,
    ⟨labSending.setStream 0 { runner 0 with phase := .closing true }, by decide +kernel⟩⟩

/-- The bytes of a block of stream 0, run 1, sequence 0, as it closes with END_OF_STREAM. -/
def sentBytes : List Byte :=
  let c := State.closedBlock (block 1) Flag.endOfStream none
  blockImage c.header c.gap c.payload

/-- A frame of one byte, which fails; a frame that passes with no record; and the same with sequence 0 expected after a
record of sequence 0xFFFFFFFF of its run, and after a record of another run. -/
theorem witness_CheckDoneJudgesAndCommits :
    labChecking.alt.checking = [⟨6, [1]⟩] ∧ labChecking.alt.outstanding = [⟨6, 2⟩] ∧
      (imageHeaderCrc sentBytes = storedHeaderCrc sentBytes ∧ imagePayloadCrc sentBytes = storedPayloadCrc sentBytes ∧
        State.imageStream sentBytes = 0 ∧ State.imageRun sentBytes = 1) ∧
      ∀ record ∈ [none, some ⟨1, 0xFFFFFFFF⟩, some (⟨2, 5⟩ : CheckRecord)],
        State.imageSequence sentBytes = State.expectedSequence record (State.imageRun sentBytes) := by
  decide +kernel

/-- R138: the frame that passes is not counted, and gives the checker's record of its stream. -/
theorem test_checkDone_passes : after .checkDone (labChecking.setAlt { labChecking.alt with checking := [⟨6, sentBytes⟩] })
    (fun t => (t.counters.checkFail, t.alt.outstanding, t.alt.checkRecords.get 0)) = some (0, [], some ⟨1, 0⟩) := by
  decide +kernel

theorem witness_VerifyReadEndCompares :
    labVerify.ops = [⟨7, true, .verify 0 2 true, none⟩] ∧
      labVerify.spill.slots.find 2 = some (record .queued (some 64)) ∧ NoneStands labVerify 2 ∧
      (∀ checks ∈ ([[], [⟨0, .corrected⟩], [⟨0, .uncorrectable 1⟩]] : List (List LineCheck)),
        FindingsFit checks (lineCount 64)) ∧
      uncorrectableIn [⟨0, .corrected⟩] = 0 ∧ 0 < uncorrectableIn [⟨0, .uncorrectable 1⟩] := by
  refine ⟨by decide +kernel, by decide +kernel, ?_, ?_, by decide, by decide⟩
  · unfold NoneStands; decide +kernel
  · unfold FindingsFit; decide +kernel

/-- A verify behind a CLOSE in the list. -/
theorem witness_VerifyReadEndCompares_behind :
    ∃ s : State, s.ops = [⟨8, true, .close 0, none⟩] ++ ⟨7, true, .verify 0 2 true, none⟩ :: [] ∧
      s.spill.slots.find 2 = some (record .queued (some 64)) ∧ s.spill.badLines = [] := by
  exact ⟨labVerify.setOps [⟨8, true, .close 0, none⟩, ⟨7, true, .verify 0 2 true, none⟩], by decide +kernel⟩

/-- Stream 0 with a block open and its interim timer running; the window holds one input of two. -/
def labInterim (points : Nat) (window : Option Window) : State :=
  labWith { opener points with interimTimer := .running 0, window := window } (record .openBlock none)

/-- A block without points, one with a point, and one with a window in progress. -/
theorem witness_InterimExpiryClosesOrRestarts :
    ∀ s ∈ [labInterim 0 none, labInterim 1 none, labInterim 1 (some (Window.beginWith (StreamConfig.powerOn 0) 1 5 7))],
      (s.stream 0).interimTimer = .running 0 ∧ (s.stream 0).openBlock.isSome = true ∧ (s.stream 0).loss = none := by
  decide +kernel

theorem witness_InterimExpiryClosesOrRestarts_memory :
    MemoryCanonical (labInterim 1 none) ∧ headerLength (block 1).gap + (block 1).payload.length ≤ 65536 ∧
      (labInterim 1 none).spill.freeList.head? = some 3 ∧ ¬ InSlot 2 0 ∧ ¬ InSlot 3 0 ∧
      ((labOpen 1).stream 0).interimTimer = .stopped := by
  unfold MemoryCanonical InSlot; decide +kernel

/-- One µs left on the timer of a block that holds a point. -/
theorem witness_InterimExpiryClosesOrRestarts_overtaken :
    ∃ s : State, (s.stream 0).interimTimer = .running (0 + 1) ∧ (s.stream 0).openBlock = some (block 1) := by
  exact ⟨(labOpen 1).setStream 0 { opener 1 with interimTimer := .running 1 }, by decide +kernel⟩

/-- The three conditions, at a member's high mark (6,144) and just below its low mark (2,048). -/
theorem witness_TimerExpiriesStepTheLevelAndStallTheLink_condition :
    (lab.setStream 0 { runner 0 with occupancy := 6144 }).condition 0 = .over ∧
      (lab.setStream 0 { runner 0 with occupancy := 2047 }).condition 0 = .under ∧
      (lab.setStream 0 { runner 0 with occupancy := 2048 }).condition 0 = .neither ∧ lab.condition 0 = .neither := by
  decide +kernel

/-- A slot to be had, a held slot to be freed, a stream armed alone on its source, and a RUNNING one. -/
theorem witness_TimerExpiriesStepTheLevelAndStallTheLink_judged :
    ((lab.setStream 0 (runner 0)).allocate 0 true).isSome ∧
      (labSent.spill.slots.find 2 = some (record .outstanding (some 64)) ∧ labSent.spill.endWaits = []) ∧
      (lab.receiver.inSync = true ∧ ∀ j, ((lab.setStream 0 { runner 0 with phase := .armed .alone }).stream j).cfg.source.val =
        (0#8).toNat ↔ j = 0) ∧
      Carries (labOpen 5) (dir [0]) 1 ∧ ((labOpen 5).stream 0).phase = .running .inSegment ∧ (labOpen 5).ops.length < 4 ∧
      (labOpen 5).spill.endWaits = [] ∧ (labOpen 5).abortedSlots 0 = [2] ∧
      (labOpen 5).spill.slots.find 2 = some (record .openBlock none) := by
  unfold Carries; decide +kernel

/-- One step below the max level, at the max level, one step above 0, and the hold-off. -/
theorem witness_TimerExpiriesStepTheLevelAndStallTheLink :
    (∀ x ∈ [{ Group.powerOn with ordered := 2, overTimer := .running 0 },
        { Group.powerOn with ordered := 3, overTimer := .running 0 },
        { Group.powerOn with ordered := 1, settleTimer := .running 0 }, { Group.powerOn with holdOffTimer := .running 0 }],
      (lab.setGroup 7 x).group 7 = x ∧ (x.overTimer = .running 0 ∨ x.settleTimer = .running 0 ∨
        (x.holdOffTimer = .running 0 ∧ x.overTimer = .stopped ∧ x.settleTimer = .stopped))) ∧
    ∀ state ∈ [LinkState.up, .stalled], ∃ s : State, s.alt.commitTimer = .running 0 ∧ s.alt.linkState = state := by
  refine ⟨by decide +kernel, fun state _ =>
    ⟨labSent.setAlt { labSent.alt with commitTimer := .running 0, linkState := state }, rfl, rfl⟩⟩

theorem witness_TimerExpiriesStepTheLevelAndStallTheLink_overtaken :
    labSent.alt.commitTimer = .running (8 + 1) ∧ lab.alt.commitTimer = .stopped ∧ (lab.group 0).overTimer = .stopped ∧
      ∃ s : State, (s.group 0).holdOffTimer = .running (0 + 1) ∧ s.alt.commitTimer = .expired := by
  exact ⟨by decide +kernel, by decide +kernel, by decide +kernel,
    ⟨(lab.setGroup 0 { Group.powerOn with holdOffTimer := .running 1 }).setAlt { lab.alt with commitTimer := .expired },
      by decide +kernel⟩⟩

theorem witness_ReportsAreQueuedAndSentAnswersFirst :
    ∃ r q : ReportUnit, (lab.setReport r).receiver.inSync = true ∧ r.lane = none ∧ r.fifo.length = 31 ∧
      q.fifo = [] ∧ q.events = [.link .linkUp] ∧ q.lane = none ∧ r.fifo ≠ [] := by
  exact ⟨⟨List.replicate 31 (.response 7 1 .done false []), [], false, none⟩, ⟨[], [.link .linkUp], false, none⟩,
    by decide +kernel⟩

theorem witness_ReportsAreQueuedAndSentAnswersFirst_lane :
    ∃ r q : ReportUnit, r.lane = some .head ∧ r.fifo = List.replicate 32 (.response 7 1 .done false []) ∧
      32 ≤ r.fifo.length ∧ q.lane = some (.event (.link .linkUp) []) := by
  exact ⟨⟨List.replicate 32 (.response 7 1 .done false []), [], false, some .head⟩,
    ⟨[], [], false, some (.event (.link .linkUp) [])⟩, by decide +kernel⟩

theorem witness_PointsReduceTheirWindows :
    ∀ m ∈ [Mode.pass, .decimate, .envelope, .mean],
      (([2, -7] : List Int).foldl Window.add
        (Window.beginWith { StreamConfig.powerOn 0 with mode := m, baseFactor := 3 } 0 5 1)).mode = m := by
  decide +kernel

/-- The time of an input, and a block whose start time is raised to the previous one. -/
theorem witness_StartTimesAreExactSaturatedAndMonotonic :
    (runner 0).anchor = some ⟨0, 1000, 4000000⟩ ∧ (1000 : Int) + (((5 : Nat) : Int) - (0 : Nat)) * 4000000 / 1000 = 21000 ∧
      (State.newBlock { runner 0 with prevStart := some 21001 } 0 2 none 5).header.flags.getLsbD 3 = true ∧
      (State.newBlock { runner 0 with prevStart := some 21000 } 0 2 none 5).header.flags.getLsbD 3 = false := by
  decide +kernel

theorem witness_TargetPointCountsFitTheSlot :
    (4 : Nat) ≠ 0 ∧ 96 ≤ 96 ∧ ∀ k, BlockSize.kib 64 = .kib k → k ≤ 64 := by
  refine ⟨by decide, by decide, ?_⟩
  rintro k ⟨⟩
  decide

theorem witness_WalkerRepeatsGroupBodies_entries :
    (∃ s : State, s.layoutOp (s.stream 0).walker.entry = .skip 2) ∧
      ∃ s : State, s.layoutOp (s.stream 0).walker.entry = .endCycle ∧ (s.stream 0).walker.stack = [] :=
  ⟨⟨{ lab with layout := lab.layout.set 0 ⟨.skip 2, []⟩ }, by decide +kernel⟩, ⟨State.reset, by decide +kernel⟩⟩

theorem witness_WalkerRepeatsGroupBodies :
    ∀ c ∈ [(⟨1, 2, 0, true⟩ : LoopContext), ⟨1, 2, 2, false⟩, ⟨1, 2, 1, false⟩],
      (⟨2, [c], 0, 0⟩ : Walker).stack = c :: [] ∧ (⟨2, [c], 0, 0⟩ : Walker).entry = c.last ∧
      (∀ d ∈ (⟨1, [c], 0, 0⟩ : Walker).stack.head?, (⟨1, [c], 0, 0⟩ : Walker).entry ≠ d.last) := by
  decide

theorem witness_ClosedBlocksPassTheirCrcs :
    ((block 5).header.flags.getLsbD 4 = false ∧ (block 5).gap = none) ∧ Flag.short.getLsbD 4 = false ∧
      (block 5).payload.length = (block 5).points * (block 5).header.mode.pointSize := by
  decide +kernel

/-- 62 blocks outstanding around the wrap of the link sequence, and one in SENDING. -/
theorem witness_StepsKeepCreditsAndLinkSequences :
    ∃ s : State, CreditsBounded s ∧ LinkSequenced s ∧ s.alt.outstanding.length = 62 ∧ s.alt.sending.isSome = true ∧
      ∃ t, step s = .next t := by
  refine ⟨{ lab with
    alt := { lab.alt with
      credits := 2, nextLink := 61, sending := some ⟨3, 61, []⟩
      outstanding := (List.range 62).map fun k => ⟨BitVec.ofNat 32 k - 1, k⟩ } }, ?_, ⟨?_, ?_⟩, ?_, ?_, ⟨_, rfl⟩⟩
  · unfold CreditsBounded; decide +kernel
  · decide +kernel
  · rintro b ⟨⟩
    rfl
  · decide +kernel
  · rfl

theorem witness_StepsKeepReportsAndTimersBounded :
    ∃ s : State, ReportsBounded s ∧ TimersExclusive s ∧ s.ops.length = 4 ∧ s.report.fifo.length = 32 ∧
      s.report.events = [.stream 0 .damagedBlock, .link .checkFail] ∧ (s.group 0).holdOffTimer = .running 5 ∧
      ∃ t, step s = .next t := by
  refine ⟨((lab.setOps (List.replicate 4 ⟨7, true, .close 1, none⟩)).setReport
    ⟨List.replicate 32 (.response 7 1 .done false []), [.stream 0 .damagedBlock, .link .checkFail], false, none⟩).setGroup 0
    { Group.powerOn with holdOffTimer := .running 5 }, ?_, ?_, ?_, ?_, ?_, ?_, ⟨_, rfl⟩⟩
  · unfold ReportsBounded; decide +kernel
  · unfold TimersExclusive; decide +kernel
  all_goals decide +kernel

theorem witness_StepsKeepMemoryCanonical :
    MemoryCanonical (lab.setSpill { lab.spill with dram := [(131072, 1), (131074, 255)] }) ∧
      ∃ t, step (lab.setSpill { lab.spill with dram := [(131072, 1), (131074, 255)] }) = .next t := by
  refine ⟨?_, ⟨_, rfl⟩⟩
  unfold MemoryCanonical; decide +kernel

theorem witness_StepsKeepSettingsInRange :
    SettingsInRange (labOpen 5) ∧ ∃ t, step (labOpen 5) = .next t := by
  have hcfg : ∀ i, ((labOpen 5).stream i).cfg = StreamConfig.powerOn i := by decide +kernel
  refine ⟨⟨fun i => ?_, by unfold GroupInRange; decide +kernel, by decide +kernel, by decide +kernel⟩, ⟨_, rfl⟩⟩
  rw [hcfg]
  simp [StreamInRange, StreamConfig.powerOn]

/-- Slot 0 held by an open block of stream 0, every other slot free. -/
def labOneHeld : State :=
  (State.reset.setStream 0 { opener 5 with openBlock := some { block 5 with slot := 0 } }).setSpill
    { State.reset.spill with slots := [(0, record .openBlock none)], freeList := List.range' 1 65535 }

theorem labOneHeld_held (n : Nat) : Held labOneHeld n ↔ n = 0 := by
  unfold Held
  show (SlotMap.find [(0, record .openBlock none)] n).isSome = true ↔ n = 0
  by_cases h : (0 : Nat) = n
  · simp [SlotMap.find, ← h]
  · simp [SlotMap.find, h, Ne.symm h]

/-- One slot is held by an open block. -/
theorem witness_StepsKeepSlotsPartitioned :
    SlotsPartitioned labOneHeld ∧ Held labOneHeld 0 ∧ (labOneHeld.stream 0).occupancy = 1 ∧
      ∃ t, step labOneHeld = .next t := by
  have hfree : ∀ n, n ∈ labOneHeld.spill.freeList ↔ 1 ≤ n ∧ n < 65536 := fun n => List.mem_range'_1
  refine ⟨⟨List.nodup_range', by decide, fun n => ?_, fun n h => ?_, by decide +kernel⟩, (labOneHeld_held 0).2 rfl,
    by decide +kernel, ⟨_, rfl⟩⟩
  · rw [hfree, labOneHeld_held]
    omega
  · rw [labOneHeld_held]
    have := (hfree n).1 h
    omega

theorem witness_StepsKeepSlotsPartitioned_places : PlacesAgree labOneHeld ∧ AssemblersConsistent labOneHeld := by
  have hs : ∀ n r, labOneHeld.spill.slots.find n = some r → n = 0 ∧ r = record .openBlock none := by
    intro n r h
    have hn := (labOneHeld_held n).1 (by unfold Held; rw [h]; rfl)
    subst hn
    exact ⟨rfl, by injection h with h; exact h.symm⟩
  have ho : ∀ i b, (labOneHeld.stream i).openBlock = some b → i = 0 ∧ b.slot = 0 := by
    have : ∀ i, (labOneHeld.stream i).openBlock.all fun b => decide (i = 0 ∧ b.slot = 0) := by decide +kernel
    intro i b h
    have := this i
    rw [h] at this
    simpa using this
  have hq : ∀ i, (labOneHeld.stream i).sendQueue = [] := by decide +kernel
  refine ⟨⟨fun n r h => ?_, fun i n h => ?_, fun i b h => ?_, fun b h => ?_, fun b h => ?_, fun b h => ?_, fun i => ?_, ?_⟩, ?_⟩
  · obtain ⟨rfl, rfl⟩ := hs n r h
    exact ⟨{ block 5 with slot := 0 }, by decide +kernel, rfl⟩
  · rw [hq] at h
    cases h
  · obtain ⟨rfl, h0⟩ := ho i b h
    exact ⟨record .openBlock none, by rw [h0]; rfl, rfl, rfl⟩
  · cases h
  · cases h
  · cases h
  · rw [hq]
    exact List.nodup_nil
  · exact List.nodup_nil
  · unfold AssemblersConsistent; decide +kernel

theorem witness_StepsKeepAssemblersConsistent :
    ∃ s : State, AssemblersConsistent s ∧ s.spill.endWaits = [1] ∧ (s.stream 0).openBlock = some (block 5) ∧
      (s.stream 2).lossy = true ∧ ∃ t, step s = .next t := by
  refine ⟨(((labOpen 5).setStream 1 { runner 1 with phase := .closing false }).setStream 2
    { runner 2 with loss := some ⟨⟨3, 2, 1012⟩, some 4, 3⟩ }).setSpill { lab.spill with endWaits := [1] },
    ?_, ?_, ?_, ?_, ⟨_, rfl⟩⟩
  · unfold AssemblersConsistent; decide +kernel
  all_goals decide +kernel

theorem witness_SettingsAndCountersChangeByTheirCommandsAlone :
    (∃ t, exec (.credit 64) (up lab) = .next t) ∧ (Instr.credit 64) ≠ .powerOn ∧ (∀ d, (Instr.credit 64) ≠ .resetEngine d) := by
  refine ⟨⟨_, rfl⟩, by decide, ?_⟩
  intro d h
  cases h

end Sys2Proof.Tests
end

section
/-! PROOFS. The validation of layouts and the steps of the walker: GROUPs in index order, what NESTING, DEPTH and liveness
say of them, the outcome of each check, and one rule for each way past an entry. -/

namespace Sys2Proof.Machine

open Sys2Proof.Safety

/-! ## Lists of GROUPs in index order -/

/-- GROUPs in strictly ascending order of their indexes. -/
def InOrder (l : List GroupAt) : Prop := l.Pairwise fun a b => a.index < b.index

namespace InOrder

variable {l : List GroupAt} {g h : GroupAt}

theorem nodup_index (hl : InOrder l) : (l.map GroupAt.index).Nodup :=
  List.pairwise_map.2 (hl.imp Nat.ne_of_lt)

theorem eq_of_index_eq (hl : InOrder l) (hg : g ∈ l) (hh : h ∈ l) (heq : g.index = h.index) : g = h :=
  List.inj_on_of_nodup_map hl.nodup_index hg hh heq

/-- A search finds the GROUP of the lowest index. -/
theorem find?_eq_some {p : GroupAt → Bool} (hl : InOrder l) (hg : g ∈ l) (hp : p g = true)
    (hmin : ∀ k ∈ l, k.index < g.index → p k = false) : l.find? p = some g := by
  obtain ⟨before, after, rfl⟩ := List.append_of_mem hg
  have hlt : ∀ k ∈ before, k.index < g.index := fun k hk =>
    (List.pairwise_append.1 hl).2.2 k hk g List.mem_cons_self
  refine List.find?_eq_some_iff_append.2 ⟨hp, before, after, rfl, fun k hk => ?_⟩
  simp [hmin k (List.mem_append_left _ hk) (hlt k hk)]

/-- The last of the list is its GROUP of the highest index. -/
theorem getLast?_eq_some_iff (hl : InOrder l) :
    l.getLast? = some g ↔ g ∈ l ∧ ∀ h ∈ l, h.index ≤ g.index := by
  obtain rfl | ⟨front, x, rfl⟩ := List.eq_nil_or_concat' l
  · simp
  have hlt : ∀ k ∈ front, k.index < x.index := fun k hk =>
    (List.pairwise_append.1 hl).2.2 k hk x (List.mem_singleton_self x)
  rw [List.getLast?_concat]
  constructor
  · rintro ⟨⟩
    refine ⟨by simp, fun h hh => ?_⟩
    obtain hh | rfl := List.mem_append.1 hh |>.imp_right List.mem_singleton.1
    · exact (hlt h hh).le
    · exact le_rfl
  · rintro ⟨hg, hmax⟩
    obtain hg | rfl := List.mem_append.1 hg |>.imp_right List.mem_singleton.1
    · exact absurd (hmax x (by simp)) (Nat.not_le.2 (hlt g hg))
    · rfl

end InOrder

@[simp] theorem GroupAt.encloses_iff (g : GroupAt) (j : Nat) : g.encloses j = true ↔ g.index < j ∧ j ≤ g.last := by
  simp [GroupAt.encloses]

/-! ## The span and its GROUPs -/

/-- R29: the search finds the END at which the span of the base ends. -/
theorem findEnd_eq_some_iff (table : Nat → LayoutOp) (base e : Nat) :
    findEnd table base = some e ↔ SpanEnds table base e := by
  simp only [findEnd, List.find?_range'_eq_some, List.mem_range'_1, SpanEnds]
  constructor
  · rintro ⟨hend, hmem, hfirst⟩
    exact ⟨hmem.1, by omega, by simpa using hend, fun k hk hb => by simpa using hfirst k hb hk⟩
  · rintro ⟨hb, h512, hend, hfirst⟩
    exact ⟨by simpa using hend, by omega, fun k hb hk => by simpa using hfirst k hk hb⟩

theorem mem_groupsOf {table : Nat → LayoutOp} {base e : Nat} {g : GroupAt} :
    g ∈ groupsOf table base e ↔
      base ≤ g.index ∧ g.index ≤ e ∧ table g.index = .group g.count g.forever g.last := by
  simp only [groupsOf, List.mem_filterMap, List.mem_range'_1]
  constructor
  · rintro ⟨i, hi, hg⟩
    split at hg
    · next htable =>
      cases hg
      exact ⟨hi.1, by dsimp only; omega, htable⟩
    · cases hg
  · rintro ⟨hb, he, htable⟩
    exact ⟨g.index, by omega, by rw [htable]⟩

theorem groupsOf_inOrder (table : Nat → LayoutOp) (base e : Nat) : InOrder (groupsOf table base e) := by
  refine List.pairwise_filterMap.2 ((List.pairwise_lt_range' (step := 1)).imp fun {i k} hik g hg h hh => ?_)
  split at hg <;> cases hg
  split at hh <;> cases hh
  exact hik

section Span

variable {table : Nat → LayoutOp} {base e j : Nat} {g : GroupAt}

theorem lastIndex_of_mem (hg : g ∈ groupsOf table base e) : lastIndex (table g.index) = some g.last := by
  simp [(mem_groupsOf.1 hg).2.2, lastIndex]

theorem runsForever_of_mem (hg : g ∈ groupsOf table base e) : runsForever (table g.index) = g.forever := by
  simp [(mem_groupsOf.1 hg).2.2, runsForever]

theorem runsNever_of_mem (hg : g ∈ groupsOf table base e) :
    runsNever (table g.index) = (g.count == 0 && !g.forever) := by
  simp [(mem_groupsOf.1 hg).2.2, runsNever]

/-- An entry of the span with a last index is one of its GROUPs. -/
theorem exists_group_of_lastIndex {i last : Nat} (hb : base ≤ i) (he : i ≤ e) (h : lastIndex (table i) = some last) :
    ∃ g ∈ groupsOf table base e, g.index = i ∧ g.last = last := by
  cases htable : table i with
  | group count forever l =>
    rw [htable] at h
    exact ⟨⟨i, count, forever, l⟩, mem_groupsOf.2 ⟨hb, he, htable⟩, rfl, Option.some.inj h⟩
  | _ => simp [htable, lastIndex] at h

theorem exists_group_of_runsForever {i : Nat} (hb : base ≤ i) (he : i ≤ e) (h : runsForever (table i) = true) :
    ∃ g ∈ groupsOf table base e, g.index = i ∧ g.forever = true := by
  cases htable : table i with
  | group count forever l =>
    rw [htable] at h
    exact ⟨⟨i, count, forever, l⟩, mem_groupsOf.2 ⟨hb, he, htable⟩, rfl, h⟩
  | _ => simp [htable, runsForever] at h

theorem encloses_of_mem (hg : g ∈ groupsOf table base e) (j : Nat) :
    encloses table base g.index j = g.encloses j := by
  simp [encloses, GroupAt.encloses, lastIndex_of_mem hg, (mem_groupsOf.1 hg).1]

/-- R30: what encloses an entry of the span is one of the span's GROUPs. -/
theorem encloses_iff_exists {o : Nat} (hj : j ≤ e) :
    encloses table base o j = true ↔ ∃ g ∈ groupsOf table base e, g.index = o ∧ g.encloses j = true := by
  constructor
  · intro h
    have hparts := h
    simp only [encloses, Bool.and_eq_true, decide_eq_true_eq, Option.any_eq_true] at hparts
    obtain ⟨⟨hb, ho⟩, last, hlast, -⟩ := hparts
    obtain ⟨g, hg, rfl, -⟩ := exists_group_of_lastIndex (e := e) hb (by omega) hlast
    exact ⟨g, hg, rfl, by rw [← encloses_of_mem hg, h]⟩
  · rintro ⟨g, hg, rfl, h⟩
    rw [encloses_of_mem hg, h]

end Span

/-! ## NESTING and DEPTH (R30, R31) -/

theorem innermost_eq_some_iff {groups : List GroupAt} (hl : InOrder groups) {j : Nat} {o : GroupAt} :
    innermost groups j = some o ↔
      (o ∈ groups ∧ o.encloses j = true) ∧ ∀ p ∈ groups, p.encloses j = true → p.index ≤ o.index := by
  rw [innermost, InOrder.getLast?_eq_some_iff (List.Pairwise.filter _ hl)]
  simp only [List.mem_filter, and_imp]

/-- R30: the NESTING check fails at a GROUP whose last index is out of place, or not below that of the group that encloses
it most closely. -/
theorem badNesting_iff {groups : List GroupAt} {e : Nat} {g : GroupAt} :
    badNesting groups e g = true ↔
      g.last ≤ g.index ∨ e ≤ g.last ∨ ∃ o, innermost groups g.index = some o ∧ o.last ≤ g.last := by
  cases h : innermost groups g.index <;> simp [badNesting, h, or_assoc]

section Span

variable {table : Nat → LayoutOp} {base e : Nat} {g : GroupAt}

theorem badNesting_iff_nestingFails (hg : g ∈ groupsOf table base e) :
    badNesting (groupsOf table base e) e g = true ↔ NestingFails table base e g.index := by
  obtain ⟨hb, he, -⟩ := mem_groupsOf.1 hg
  have hinner : (∃ o, innermost (groupsOf table base e) g.index = some o ∧ o.last ≤ g.last) ↔
      ∃ o < g.index, encloses table base o g.index = true ∧
        (∀ p < g.index, encloses table base p g.index = true → p ≤ o) ∧
        ∃ outer ∈ lastIndex (table o), outer ≤ g.last := by
    simp only [innermost_eq_some_iff (groupsOf_inOrder table base e)]
    constructor
    · rintro ⟨o, ⟨⟨ho, hoj⟩, hmax⟩, hlast⟩
      refine ⟨o.index, (o.encloses_iff _).1 hoj |>.1, by rw [encloses_of_mem ho, hoj], fun p _ hp => ?_,
        o.last, lastIndex_of_mem ho, hlast⟩
      obtain ⟨q, hq, rfl, hqj⟩ := (encloses_iff_exists he).1 hp
      exact hmax q hq hqj
    · rintro ⟨o, -, ho, hmax, outer, houter, hle⟩
      obtain ⟨o, hmem, rfl, hoj⟩ := (encloses_iff_exists he).1 ho
      have hlast : o.last = outer := Option.some.inj ((lastIndex_of_mem hmem).symm.trans houter)
      refine ⟨o, ⟨⟨hmem, hoj⟩, fun p hp hpj => ?_⟩, by omega⟩
      exact hmax p.index ((p.encloses_iff _).1 hpj).1 (by rw [encloses_of_mem hp, hpj])
  rw [badNesting_iff, hinner]
  simp [NestingFails, hb, lastIndex_of_mem hg]

theorem length_enclosing {j : Nat} (hj : j ≤ e) :
    ((groupsOf table base e).filter fun o => o.encloses j).length =
      ((List.range j).filter fun o => encloses table base o j).length := by
  have hperm : (((groupsOf table base e).filter fun o => o.encloses j).map GroupAt.index).Perm
      ((List.range j).filter fun o => encloses table base o j) := by
    have hnodup := InOrder.nodup_index (List.Pairwise.filter (fun o => o.encloses j) (groupsOf_inOrder table base e))
    refine (List.perm_ext_iff_of_nodup hnodup (List.nodup_range.filter _)).2 fun i => ?_
    simp only [List.mem_map, List.mem_filter, List.mem_range, encloses_iff_exists hj]
    constructor
    · rintro ⟨o, ⟨ho, hoj⟩, rfl⟩
      exact ⟨((o.encloses_iff j).1 hoj).1, o, ho, rfl, hoj⟩
    · rintro ⟨-, o, ho, rfl, hoj⟩
      exact ⟨o, ⟨ho, hoj⟩, rfl⟩
  rw [← hperm.length_eq, List.length_map]

theorem depthOf_iff_depthFails (hg : g ∈ groupsOf table base e) :
    5 ≤ depthOf (groupsOf table base e) g ↔ DepthFails table base g.index := by
  obtain ⟨hb, he, -⟩ := mem_groupsOf.1 hg
  simp [depthOf, length_enclosing he, DepthFails, hb, lastIndex_of_mem hg]

end Span

/-! ## Nested layouts -/

/-- The GROUPs of a span that ends at `e` pass the NESTING check. -/
def Nested (groups : List GroupAt) (e : Nat) : Prop := ∀ g ∈ groups, badNesting groups e g = false

namespace Nested

variable {groups : List GroupAt} {e : Nat} {g o : GroupAt}

theorem index_lt_last (hn : Nested groups e) (hg : g ∈ groups) : g.index < g.last := by
  have hgood := hn g hg
  rw [← Bool.not_eq_true, badNesting_iff] at hgood
  omega

theorem last_lt_end (hn : Nested groups e) (hg : g ∈ groups) : g.last < e := by
  have hgood := hn g hg
  rw [← Bool.not_eq_true, badNesting_iff] at hgood
  omega

theorem last_lt_innermost (hn : Nested groups e) (hg : g ∈ groups) (ho : innermost groups g.index = some o) :
    g.last < o.last := by
  have hgood := hn g hg
  rw [← Bool.not_eq_true, badNesting_iff] at hgood
  by_contra hle
  exact hgood (.inr (.inr ⟨o, ho, Nat.not_lt.1 hle⟩))

end Nested

theorem exists_innermost {groups : List GroupAt} {o : GroupAt} {j : Nat} (ho : o ∈ groups) (hoj : o.encloses j = true) :
    ∃ m, innermost groups j = some m :=
  Option.isSome_iff_exists.1 (List.getLast?_isSome.2 (List.ne_nil_of_mem (List.mem_filter.2 ⟨ho, hoj⟩)))

/-- Every group around a GROUP, not the closest alone, ends after it: the check of the closest one is passed on outwards,
by induction on how far out the group stands. -/
theorem Nested.last_lt_of_encloses {groups : List GroupAt} {e : Nat} (hn : Nested groups e) (hl : InOrder groups)
    {o g : GroupAt} (ho : o ∈ groups) (hg : g ∈ groups) (h : o.encloses g.index = true) : g.last < o.last := by
  obtain ⟨m, hm⟩ := exists_innermost ho h
  have hgm := hn.last_lt_innermost hg hm
  obtain ⟨⟨hmem, hmg⟩, hmax⟩ := (innermost_eq_some_iff hl).1 hm
  have hom := hmax o ho h
  rw [GroupAt.encloses_iff] at h hmg
  by_cases heq : o.index = m.index
  · rwa [hl.eq_of_index_eq ho hmem heq]
  · have houter : o.encloses m.index = true := (o.encloses_iff _).2 (by omega)
    exact hgm.trans (hn.last_lt_of_encloses hl ho hmem houter)
termination_by g.index
decreasing_by exact ((m.encloses_iff _).1 hmg).1

/-- What encloses a GROUP encloses the GROUP's body. -/
theorem Nested.encloses_trans {groups : List GroupAt} {e : Nat} (hn : Nested groups e) (hl : InOrder groups)
    {o g : GroupAt} (ho : o ∈ groups) (hg : g ∈ groups) {j : Nat} (h : o.encloses g.index = true)
    (hj : g.encloses j = true) : o.encloses j = true := by
  have := hn.last_lt_of_encloses hl ho hg h
  rw [GroupAt.encloses_iff] at *
  omega

/-! ## Live entries (R32) -/

section Live

variable {groups : List GroupAt} {e : Nat}

theorem liveUnder_iff {acc : List GroupAt} {j : Nat} :
    liveUnder groups acc j = true ↔
      (∀ g ∈ groups, g.encloses j = true → (g.count == 0 && !g.forever) = false) ∧ ∀ g ∈ acc, j ≤ g.last := by
  simp [liveUnder, and_imp]

/-- The live FOREVER groups among the first GROUPs of a span: the search of `liveForevers`, stopped part way. -/
def liveForeversAmong (groups l : List GroupAt) : List GroupAt :=
  l.foldl (fun acc g => if g.forever && liveUnder groups acc g.index then acc ++ [g] else acc) []

theorem liveForevers_eq_among : liveForevers groups = liveForeversAmong groups groups := rfl

theorem liveForeversAmong_concat (l : List GroupAt) (x : GroupAt) :
    liveForeversAmong groups (l ++ [x]) = liveForeversAmong groups l ++
      if x.forever && liveUnder groups (liveForeversAmong groups l) x.index then [x] else [] := by
  by_cases h : (x.forever && liveUnder groups (liveForeversAmong groups l) x.index) = true
  · rw [if_pos h, liveForeversAmong, List.foldl_append]
    exact if_pos h
  · rw [if_neg h, List.append_nil, liveForeversAmong, List.foldl_append]
    exact if_neg h

theorem liveForeversAmong_sublist (l : List GroupAt) : (liveForeversAmong groups l).Sublist l := by
  induction l using List.reverseRecOn with
  | nil => exact List.Sublist.refl _
  | append_singleton l x ih =>
    rw [liveForeversAmong_concat]
    refine ih.append ?_
    split
    · exact List.Sublist.refl _
    · exact List.nil_sublist _

/-- A GROUP is taken up by the search where it is FOREVER and live under those taken up before it. -/
theorem mem_liveForeversAmong {l : List GroupAt} (hl : InOrder l) {g : GroupAt} :
    g ∈ liveForeversAmong groups l ↔ g ∈ l ∧ g.forever = true ∧
      liveUnder groups ((liveForeversAmong groups l).filter fun o => o.index < g.index) g.index = true := by
  induction l using List.reverseRecOn with
  | nil => simp [liveForeversAmong]
  | append_singleton l x ih =>
    obtain ⟨hfront, -, hlt⟩ := List.pairwise_append.1 hl
    have hlt : ∀ k ∈ l, k.index < x.index := fun k hk => hlt k hk x (List.mem_singleton_self x)
    have hearlier : ∀ k : GroupAt, k.index ≤ x.index →
        (liveForeversAmong groups (l ++ [x])).filter (fun o => o.index < k.index) =
          (liveForeversAmong groups l).filter fun o => o.index < k.index := by
      intro k hk
      rw [liveForeversAmong_concat, List.filter_append]
      split <;> simp [hk]
    have hall : (liveForeversAmong groups l).filter (fun o => o.index < x.index) = liveForeversAmong groups l :=
      List.filter_eq_self.2 fun o ho => decide_eq_true (hlt o ((liveForeversAmong_sublist l).subset ho))
    have hx : x ∉ l := fun h => (hlt x h).false
    by_cases hgx : g = x
    · subst hgx
      have hnot : g ∉ liveForeversAmong groups l := fun h => hx ((liveForeversAmong_sublist l).subset h)
      rw [hearlier g le_rfl, hall, liveForeversAmong_concat]
      simp [hnot]
    · have hstep : g ∈ liveForeversAmong groups (l ++ [x]) ↔ g ∈ liveForeversAmong groups l := by
        rw [liveForeversAmong_concat]
        split <;> simp [hgx]
      rw [hstep, ih hfront]
      simp only [List.mem_append, List.mem_singleton, hgx, or_false]
      refine and_congr_right fun hg => ?_
      rw [hearlier g (hlt g hg).le]

/-- R32: the live FOREVER groups are the GROUPs that are FOREVER and live. -/
theorem mem_liveForevers (hl : InOrder groups) {g : GroupAt} :
    g ∈ liveForevers groups ↔ g ∈ groups ∧ g.forever = true ∧ live groups g.index = true :=
  mem_liveForeversAmong hl

theorem liveForevers_inOrder (hl : InOrder groups) : InOrder (liveForevers groups) :=
  List.Pairwise.sublist (liveForeversAmong_sublist groups) hl

/-- R32: an entry is live where no group that never runs encloses it, and no live FOREVER group ends before it. -/
theorem live_iff (hl : InOrder groups) {j : Nat} :
    live groups j = true ↔
      (∀ g ∈ groups, g.encloses j = true → (g.count == 0 && !g.forever) = false) ∧
      ∀ g ∈ groups, g.forever = true → live groups g.index = true → g.index < j → j ≤ g.last := by
  conv_lhs => rw [live, liveUnder_iff]
  simp only [List.mem_filter, mem_liveForevers hl, decide_eq_true_eq, and_imp]

/-- A GROUP around a live entry is live: what would shut it off, or keep it from running, would do so to the entry. -/
theorem live_of_encloses (hl : InOrder groups) (hn : Nested groups e) {g : GroupAt} (hg : g ∈ groups) {j : Nat}
    (hgj : g.encloses j = true) (hj : live groups j = true) : live groups g.index = true := by
  obtain ⟨hruns, hopen⟩ := (live_iff hl).1 hj
  have hlt := ((g.encloses_iff j).1 hgj).1
  refine (live_iff hl).2 ⟨fun o ho hog => hruns o ho (hn.encloses_trans hl ho hg hog hgj),
    fun o ho hforever holive hog => ?_⟩
  have := hopen o ho hforever holive (hog.trans hlt)
  omega

/-- A GROUP around a live entry that is not FOREVER runs at least once. -/
theorem count_ne_zero_of_live (hl : InOrder groups) {g : GroupAt} (hg : g ∈ groups) {j : Nat}
    (hgj : g.encloses j = true) (hj : live groups j = true) (hfinite : g.forever = false) : g.count ≠ 0 := by
  have := ((live_iff hl).1 hj).1 g hg hgj
  simpa [hfinite] using this

end Live

/-- R32: the conditions of `Liveness` have one solution on the span, and validation computes it. Whether an entry is live
rests on the GROUPs before it alone, since a GROUP's last index is above its own. -/
theorem live_eq_of_liveness {table : Nat → LayoutOp} {base e : Nat} (hn : Nested (groupsOf table base e) e)
    {liveAt : Nat → Prop} (hlive : Liveness table base e liveAt) :
    ∀ j ≤ e, base ≤ j → (live (groupsOf table base e) j = true ↔ liveAt j) := by
  intro j
  induction j using Nat.strong_induction_on with
  | _ j ih =>
    intro he hb
    have hl := groupsOf_inOrder table base e
    rw [live_iff hl, hlive j he hb]
    refine and_congr ⟨fun h o _ ho => ?_, fun h g hg hgj => ?_⟩
      ⟨fun h g hge hgb hglive => ?_, fun h g hg hforever hglive hgj => ?_⟩
    · obtain ⟨g, hg, rfl, hgj⟩ := (encloses_iff_exists he).1 ho
      rw [runsNever_of_mem hg]
      exact h g hg hgj
    · rw [← runsNever_of_mem hg]
      exact h g.index ((g.encloses_iff j).1 hgj).1 (by rw [encloses_of_mem hg, hgj])
    · by_contra hshut
      simp only [shutsOff, Bool.not_eq_false, Bool.and_eq_true] at hshut
      obtain ⟨⟨hforever, -⟩, hlast⟩ := hshut
      obtain ⟨g, hg, rfl, hgf⟩ := exists_group_of_runsForever hgb hge hforever
      have hbefore : g.last < j := by simpa [lastIndex_of_mem hg] using hlast
      have hgj := (hn.index_lt_last hg).trans hbefore
      exact Nat.not_le.2 hbefore (h g hg hgf ((ih g.index hgj hge hgb).2 hglive) hgj)
    · obtain ⟨hgb, hge, -⟩ := mem_groupsOf.1 hg
      have hopen := h g.index hge hgb ((ih g.index hgj hge hgb).1 hglive)
      by_contra hlast
      simp [shutsOff, runsForever_of_mem hg, hforever, encloses_of_mem hg, GroupAt.encloses, lastIndex_of_mem hg, hlast,
        Nat.not_le.1 hlast] at hopen

/-! ## NO_FIELD and NO_ADVANCE (R32, R33) -/

theorem LayoutOp.words_eq_zero_iff (op : LayoutOp) : op.words = 0 ↔ consumesNone op = true := by
  cases op with
  | field offset width advance => cases advance <;> simp [LayoutOp.words, consumesNone]
  | _ => simp [LayoutOp.words, consumesNone]

/-- R33: where each live entry is executed at least once, the words of the live entries are none as each consumes none. -/
theorem sum_words_eq_zero_iff {table : Nat → LayoutOp} {positions : List Nat} {isLive : Nat → Bool} {times : Nat → Nat}
    (htimes : ∀ j ∈ positions, isLive j = true → times j ≠ 0) :
    (((positions.filter isLive).map fun j => (table j).words * times j).sum = 0) ↔
      ∀ j ∈ positions, isLive j = true → consumesNone (table j) = true := by
  simp only [List.sum_eq_zero_iff, List.forall_mem_map, List.mem_filter, and_imp]
  refine forall₃_congr fun j hj hlive => ?_
  rw [Nat.mul_eq_zero, or_iff_left (htimes j hj hlive), LayoutOp.words_eq_zero_iff]

/-- R33: groups around a live entry of which none is FOREVER execute it at least once. -/
theorem prod_counts_ne_zero {groups : List GroupAt} (hl : InOrder groups) {j : Nat} (hj : live groups j = true)
    {around : GroupAt → Bool}
    (hfinite : ∀ g ∈ groups, around g = true → g.encloses j = true ∧ g.forever = false) :
    ((groups.filter around).map GroupAt.count).prod ≠ 0 := by
  refine List.prod_ne_zero fun hzero => ?_
  obtain ⟨g, hg, hcount⟩ := List.mem_map.1 hzero
  obtain ⟨hg, haround⟩ := List.mem_filter.1 hg
  obtain ⟨hgj, hnot⟩ := hfinite g hg haround
  exact count_ne_zero_of_live hl hg hgj hj hnot hcount

section Span

variable {table : Nat → LayoutOp} {base e : Nat} {g : GroupAt}

/-- R32: a live FOREVER entry of the span is one of the live FOREVER groups. -/
theorem exists_liveForever {j : Nat} (hb : base ≤ j) (he : j ≤ e) (hj : live (groupsOf table base e) j = true)
    (hforever : runsForever (table j) = true) : ∃ h ∈ liveForevers (groupsOf table base e), h.index = j := by
  obtain ⟨h, hh, rfl, hfe⟩ := exists_group_of_runsForever hb he hforever
  exact ⟨h, (mem_liveForevers (groupsOf_inOrder table base e)).2 ⟨hh, hfe, hj⟩, rfl⟩

theorem runsForever_of_mem_liveForevers (hg : g ∈ liveForevers (groupsOf table base e)) :
    live (groupsOf table base e) g.index = true ∧ runsForever (table g.index) = true := by
  obtain ⟨hmem, hforever, hlive⟩ := (mem_liveForevers (groupsOf_inOrder table base e)).1 hg
  exact ⟨hlive, by rw [runsForever_of_mem hmem, hforever]⟩

/-- R33: a pass of a GROUP's body consumes no word where the body holds no live FOREVER group, and no live entry that
consumes a word. -/
theorem passWords_eq_zero_iff (hn : Nested (groupsOf table base e) e) (hg : g ∈ groupsOf table base e) :
    passWords table (groupsOf table base e) g = 0 ↔
      ∀ j, g.encloses j = true → live (groupsOf table base e) j = true →
        runsForever (table j) = false ∧ consumesNone (table j) = true := by
  have hl := groupsOf_inOrder table base e
  have hspan : ∀ j, g.encloses j = true → base ≤ j ∧ j ≤ e := by
    intro j hgj
    have hb := (mem_groupsOf.1 hg).1
    have hend := hn.last_lt_end hg
    rw [GroupAt.encloses_iff] at hgj
    omega
  rw [passWords]
  by_cases hinner : (liveForevers (groupsOf table base e)).any (fun h => g.encloses h.index) = true
  · rw [if_pos hinner]
    obtain ⟨h, hh, hgh⟩ := List.any_eq_true.1 hinner
    obtain ⟨hlive, hforever⟩ := runsForever_of_mem_liveForevers hh
    exact iff_of_false one_ne_zero fun hnone => absurd hforever (by simp [(hnone h.index hgh hlive).1])
  · rw [if_neg hinner]
    have hfinite : ∀ j, g.encloses j = true → live (groupsOf table base e) j = true → runsForever (table j) = false := by
      intro j hgj hj
      by_contra hforever
      obtain ⟨h, hh, rfl⟩ := exists_liveForever (hspan j hgj).1 (hspan j hgj).2 hj (by simpa using hforever)
      exact hinner (List.any_eq_true.2 ⟨h, hh, hgj⟩)
    have hbody : ∀ j, j ∈ List.range' (g.index + 1) (g.last - g.index) ↔ g.encloses j = true := by
      intro j
      have hlast := hn.index_lt_last hg
      rw [List.mem_range'_1, GroupAt.encloses_iff]
      omega
    rw [sum_words_eq_zero_iff (isLive := fun j => live (groupsOf table base e) j)]
    · simp only [hbody]
      exact forall₃_congr fun j hgj hj => (and_iff_right (hfinite j hgj hj)).symm
    · intro j hgj hj
      refine prod_counts_ne_zero hl hj fun h hh haround => ?_
      simp only [Bool.and_eq_true, decide_eq_true_eq] at haround
      obtain ⟨houter, hhj⟩ := haround
      have hgh : g.encloses h.index = true := by
        rw [hbody, GroupAt.encloses_iff] at hgj
        rw [GroupAt.encloses_iff] at *
        omega
      exact ⟨hhj, by rw [← runsForever_of_mem hh, hfinite h.index hgh (live_of_encloses hl hn hh hhj hj)]⟩

/-- R33: a span holds no live FOREVER group, and its cycle consumes no word, where no live entry of it is the one or does
the other. -/
theorem cycle_consumes_none_iff (hn : Nested (groupsOf table base e) e) :
    ((liveForevers (groupsOf table base e)).isEmpty && cycleWords table (groupsOf table base e) base e == 0) = true ↔
      ∀ j ≤ e, base ≤ j → live (groupsOf table base e) j = true →
        runsForever (table j) = false ∧ consumesNone (table j) = true := by
  have hl := groupsOf_inOrder table base e
  rw [Bool.and_eq_true, List.isEmpty_iff, beq_iff_eq]
  by_cases hempty : liveForevers (groupsOf table base e) = []
  · have hfinite : ∀ j ≤ e, base ≤ j → live (groupsOf table base e) j = true → runsForever (table j) = false := by
      intro j he hb hj
      by_contra hforever
      obtain ⟨h, hh, -⟩ := exists_liveForever hb he hj (by simpa using hforever)
      exact List.ne_nil_of_mem hh hempty
    rw [and_iff_right hempty, cycleWords, sum_words_eq_zero_iff (isLive := fun j => live (groupsOf table base e) j)]
    · constructor
      · exact fun hnone j he hb hj => ⟨hfinite j he hb hj, hnone j (List.mem_range'_1.2 (by omega)) hj⟩
      · intro hnone j hmem hj
        rw [List.mem_range'_1] at hmem
        exact (hnone j (by omega) (by omega) hj).2
    · intro j _ hj
      refine prod_counts_ne_zero hl hj fun h hh hhj => ⟨hhj, ?_⟩
      obtain ⟨hb, he, -⟩ := mem_groupsOf.1 hh
      rw [← runsForever_of_mem hh, hfinite h.index he hb (live_of_encloses hl hn hh hhj hj)]
  · obtain ⟨h, hh⟩ := List.exists_mem_of_ne_nil _ hempty
    obtain ⟨hb, he, -⟩ := mem_groupsOf.1 ((mem_liveForevers hl).1 hh).1
    obtain ⟨hlive, hforever⟩ := runsForever_of_mem_liveForevers hh
    exact iff_of_false (fun hno => hempty hno.1) fun hnone => absurd hforever (by simp [(hnone h.index he hb hlive).1])

end Span

/-! ## The outcome of validation (R28) -/

/-- R33: the last check of `validate`, on the span that ends at `e`. -/
def advanceCheck (table : Nat → LayoutOp) (base e : Nat) : Validation :=
  match (liveForevers (groupsOf table base e)).find? fun g => passWords table (groupsOf table base e) g == 0 with
  | some g => .refused .noAdvance g.index
  | none =>
    if (liveForevers (groupsOf table base e)).isEmpty && cycleWords table (groupsOf table base e) base e == 0 then
      .refused .noAdvance base
    else .valid e

/-- R31: the GROUPs of a span pass the DEPTH check. -/
def Shallow (groups : List GroupAt) : Prop := ∀ g ∈ groups, ¬ 5 ≤ depthOf groups g

section Outcome

variable {table : Nat → LayoutOp} {base e : Nat} {g : GroupAt}

theorem validate_of_no_end (hend : findEnd table base = none) : validate table base = .refused .outOfTable 511 := by
  simp only [validate, hend]

theorem validate_of_nesting (hend : findEnd table base = some e)
    (hbad : (groupsOf table base e).find? (fun g => badNesting (groupsOf table base e) e g) = some g) :
    validate table base = .refused .nesting g.index := by
  simp only [validate, hend, hbad]

theorem Nested.find?_eq_none {groups : List GroupAt} (hn : Nested groups e) :
    groups.find? (fun g => badNesting groups e g) = none :=
  List.find?_eq_none.2 fun g hg => by simp [hn g hg]

theorem validate_of_depth (hend : findEnd table base = some e) (hn : Nested (groupsOf table base e) e)
    (hdeep : (groupsOf table base e).find? (fun g => 5 ≤ depthOf (groupsOf table base e) g) = some g) :
    validate table base = .refused .depth g.index := by
  simp only [validate, hend, hn.find?_eq_none, hdeep]

theorem validate_of_shallow (hend : findEnd table base = some e) (hn : Nested (groupsOf table base e) e)
    (hd : Shallow (groupsOf table base e)) :
    validate table base =
      if !((List.range' base (e + 1 - base)).any fun j => live (groupsOf table base e) j && isField (table j)) then
        .refused .noField base
      else advanceCheck table base e := by
  have hdepth : (groupsOf table base e).find? (fun g => 5 ≤ depthOf (groupsOf table base e) g) = none :=
    List.find?_eq_none.2 fun g hg => by simpa using hd g hg
  simp only [validate, hend, hn.find?_eq_none, hdepth]
  rfl

/-! ## The checks, in the terms of the statements -/

theorem nested_of_not_nestingFails (h : ∀ g ≤ e, ¬ NestingFails table base e g) : Nested (groupsOf table base e) e := by
  intro g hg
  rw [← Bool.not_eq_true, badNesting_iff_nestingFails hg]
  exact h g.index (mem_groupsOf.1 hg).2.1

theorem shallow_of_not_depthFails (h : ∀ g ≤ e, ¬ DepthFails table base g) : Shallow (groupsOf table base e) := by
  intro g hg
  rw [depthOf_iff_depthFails hg]
  exact h g.index (mem_groupsOf.1 hg).2.1

theorem validate_of_nestingFails {i : Nat} (hend : SpanEnds table base e) (hi : i ≤ e) (hbad : NestingFails table base e i)
    (hfirst : ∀ k < i, ¬ NestingFails table base e k) : validate table base = .refused .nesting i := by
  have ⟨hb, last, hlast, _⟩ := hbad
  obtain ⟨g, hg, rfl, -⟩ := exists_group_of_lastIndex hb hi hlast
  refine validate_of_nesting ((findEnd_eq_some_iff _ _ _).2 hend)
    ((groupsOf_inOrder table base e).find?_eq_some hg ((badNesting_iff_nestingFails hg).2 hbad) fun k hk hlt => ?_)
  rw [← Bool.not_eq_true, badNesting_iff_nestingFails hk]
  exact hfirst k.index hlt

theorem validate_of_depthFails {i : Nat} (hend : SpanEnds table base e) (hn : Nested (groupsOf table base e) e) (hi : i ≤ e)
    (hdeep : DepthFails table base i) (hfirst : ∀ k < i, ¬ DepthFails table base k) :
    validate table base = .refused .depth i := by
  have ⟨hb, hgroup, _⟩ := hdeep
  obtain ⟨last, hlast⟩ := Option.ne_none_iff_exists'.1 hgroup
  obtain ⟨g, hg, rfl, -⟩ := exists_group_of_lastIndex hb hi hlast
  refine validate_of_depth ((findEnd_eq_some_iff _ _ _).2 hend) hn
    ((groupsOf_inOrder table base e).find?_eq_some hg (decide_eq_true ((depthOf_iff_depthFails hg).2 hdeep))
      fun k hk hlt => decide_eq_false ?_)
  rw [depthOf_iff_depthFails hk]
  exact hfirst k.index hlt

theorem any_liveField_iff :
    ((List.range' base (e + 1 - base)).any fun j => live (groupsOf table base e) j && isField (table j)) = true ↔
      ∃ j ≤ e, base ≤ j ∧ live (groupsOf table base e) j = true ∧ isField (table j) = true := by
  simp only [List.any_eq_true, Bool.and_eq_true, List.mem_range'_1]
  exact exists_congr fun j => ⟨fun ⟨hj, h⟩ => ⟨by omega, by omega, h⟩, fun ⟨he, hb, h⟩ => ⟨by omega, h⟩⟩

theorem validate_of_no_liveField (hend : SpanEnds table base e) (hn : Nested (groupsOf table base e) e)
    (hd : Shallow (groupsOf table base e))
    (hnone : ¬ ∃ j ≤ e, base ≤ j ∧ live (groupsOf table base e) j = true ∧ isField (table j) = true) :
    validate table base = .refused .noField base := by
  rw [validate_of_shallow ((findEnd_eq_some_iff _ _ _).2 hend) hn hd]
  exact if_pos (by simpa using any_liveField_iff.not.2 hnone)

theorem validate_of_liveField (hend : SpanEnds table base e) (hn : Nested (groupsOf table base e) e)
    (hd : Shallow (groupsOf table base e))
    (hfield : ∃ j ≤ e, base ≤ j ∧ live (groupsOf table base e) j = true ∧ isField (table j) = true) :
    validate table base = advanceCheck table base e := by
  rw [validate_of_shallow ((findEnd_eq_some_iff _ _ _).2 hend) hn hd, any_liveField_iff.2 hfield]
  rfl

/-! ## The last check (R33) -/

section Advance

variable {liveAt : Nat → Prop}

theorem passWords_iff_passFails (hn : Nested (groupsOf table base e) e) (hlive : Liveness table base e liveAt)
    (hg : g ∈ liveForevers (groupsOf table base e)) :
    (passWords table (groupsOf table base e) g == 0) = true ↔ PassFails table base e liveAt g.index := by
  have hmem := ((mem_liveForevers (groupsOf_inOrder table base e)).1 hg).1
  obtain ⟨hb, he, -⟩ := mem_groupsOf.1 hmem
  obtain ⟨hglive, hforever⟩ := runsForever_of_mem_liveForevers hg
  rw [beq_iff_eq, passWords_eq_zero_iff hn hmem]
  simp only [PassFails, encloses_of_mem hmem]
  constructor
  · intro hnone
    refine ⟨hb, (live_eq_of_liveness hn hlive _ he hb).1 hglive, hforever, fun j hj hgj hjlive => ?_⟩
    have hbj : base ≤ j := hb.trans ((g.encloses_iff j).1 hgj).1.le
    exact hnone j hgj ((live_eq_of_liveness hn hlive j hj hbj).2 hjlive)
  · rintro ⟨-, -, -, hnone⟩ j hgj hjlive
    have hj : j ≤ e := ((g.encloses_iff j).1 hgj).2.trans (hn.last_lt_end hmem).le
    have hbj : base ≤ j := hb.trans ((g.encloses_iff j).1 hgj).1.le
    exact hnone j hj hgj ((live_eq_of_liveness hn hlive j hj hbj).1 hjlive)

theorem cycle_iff_cycleFails (hn : Nested (groupsOf table base e) e) (hlive : Liveness table base e liveAt) :
    ((liveForevers (groupsOf table base e)).isEmpty && cycleWords table (groupsOf table base e) base e == 0) = true ↔
      CycleFails table base e liveAt := by
  rw [cycle_consumes_none_iff hn]
  exact forall₃_congr fun j he hb => imp_congr_left (live_eq_of_liveness hn hlive j he hb)

theorem advanceCheck_of_passFails {i : Nat} (hn : Nested (groupsOf table base e) e) (hlive : Liveness table base e liveAt)
    (hi : i ≤ e) (hbad : PassFails table base e liveAt i) (hfirst : ∀ k < i, ¬ PassFails table base e liveAt k) :
    advanceCheck table base e = .refused .noAdvance i := by
  have ⟨hb, hilive, hforever, _⟩ := hbad
  obtain ⟨g, hg, rfl⟩ := exists_liveForever hb hi ((live_eq_of_liveness hn hlive i hi hb).2 hilive) hforever
  have hfind := (liveForevers_inOrder (groupsOf_inOrder table base e)).find?_eq_some hg
    ((passWords_iff_passFails hn hlive hg).2 hbad) fun k hk hlt => by
      rw [← Bool.not_eq_true, passWords_iff_passFails hn hlive hk]
      exact hfirst k.index hlt
  simp only [advanceCheck, hfind]

theorem advanceCheck_of_cycleFails (hn : Nested (groupsOf table base e) e) (hlive : Liveness table base e liveAt)
    (hbad : CycleFails table base e liveAt) : advanceCheck table base e = .refused .noAdvance base := by
  have hcycle := (cycle_iff_cycleFails hn hlive).2 hbad
  have hempty : liveForevers (groupsOf table base e) = [] := List.isEmpty_iff.1 (Bool.and_eq_true_iff.1 hcycle).1
  rw [advanceCheck, hempty]
  rw [hempty] at hcycle
  exact if_pos hcycle

theorem advanceCheck_of_passing (hn : Nested (groupsOf table base e) e) (hlive : Liveness table base e liveAt)
    (hpass : ∀ g ≤ e, ¬ PassFails table base e liveAt g) (hcycle : ¬ CycleFails table base e liveAt) :
    advanceCheck table base e = .valid e := by
  have hfind : (liveForevers (groupsOf table base e)).find?
      (fun g => passWords table (groupsOf table base e) g == 0) = none := by
    refine List.find?_eq_none.2 fun g hg => ?_
    rw [passWords_iff_passFails hn hlive hg]
    exact hpass g.index (mem_groupsOf.1 ((mem_liveForevers (groupsOf_inOrder table base e)).1 hg).1).2.1
  simp only [advanceCheck, hfind]
  exact if_neg ((cycle_iff_cycleFails hn hlive).not.2 hcycle)

theorem eq_of_advanceCheck_valid {last : Nat} (h : advanceCheck table base e = .valid last) : e = last := by
  unfold advanceCheck at h
  split at h
  · cases h
  · split at h <;> cases h
    rfl

end Advance

/-! ## A valid layout -/

/-- A layout that passes has a span, through its first END, whose GROUPs are nested and which holds a live FIELD. -/
theorem of_validate_valid {last : Nat} (h : validate table base = .valid last) :
    SpanEnds table base last ∧ Nested (groupsOf table base last) last ∧
      ∃ j ≤ last, base ≤ j ∧ live (groupsOf table base last) j = true ∧ isField (table j) = true := by
  cases hend : findEnd table base with
  | none =>
    rw [validate_of_no_end hend] at h
    cases h
  | some e =>
    have hspan := (findEnd_eq_some_iff _ _ _).1 hend
    cases hbad : (groupsOf table base e).find? (fun g => badNesting (groupsOf table base e) e g) with
    | some g =>
      rw [validate_of_nesting hend hbad] at h
      cases h
    | none =>
      have hn : Nested (groupsOf table base e) e := fun g hg => by simpa using List.find?_eq_none.1 hbad g hg
      cases hdeep : (groupsOf table base e).find? (fun g => 5 ≤ depthOf (groupsOf table base e) g) with
      | some g =>
        rw [validate_of_depth hend hn hdeep] at h
        cases h
      | none =>
        have hd : Shallow (groupsOf table base e) := fun g hg => by simpa using List.find?_eq_none.1 hdeep g hg
        by_cases hfield : ∃ j ≤ e, base ≤ j ∧ live (groupsOf table base e) j = true ∧ isField (table j) = true
        · rw [validate_of_liveField hspan hn hd hfield] at h
          obtain rfl := eq_of_advanceCheck_valid h
          exact ⟨hspan, hn, hfield⟩
        · rw [validate_of_no_liveField hspan hn hd hfield] at h
          cases h

/-- The entry at the last index of a nested GROUP is neither an END, which would end the span sooner, nor a GROUP, whose own
last index would have to be below its index. -/
theorem field_or_skip_at_last (hend : SpanEnds table base e) (hn : Nested (groupsOf table base e) e)
    (hg : g ∈ groupsOf table base e) :
    (∃ o w a, table g.last = .field o w a) ∨ ∃ n, table g.last = .skip n := by
  obtain ⟨-, -, -, hfirst⟩ := hend
  have hlt := hn.index_lt_last hg
  have hle := hn.last_lt_end hg
  have hb : base ≤ g.last := (mem_groupsOf.1 hg).1.trans hlt.le
  cases htable : table g.last with
  | field o w a => exact .inl ⟨o, w, a, rfl⟩
  | skip n => exact .inr ⟨n, rfl⟩
  | endCycle => exact absurd htable (hfirst _ hle hb)
  | group count forever last =>
    have hinner : (⟨g.last, count, forever, last⟩ : GroupAt) ∈ groupsOf table base e := mem_groupsOf.2 ⟨hb, hle.le, htable⟩
    have hout := hn.last_lt_of_encloses (groupsOf_inOrder table base e) hg hinner ((g.encloses_iff _).2 ⟨hlt, le_rfl⟩)
    exact absurd (hn.index_lt_last hinner) hout.not_gt

theorem exists_field_of_isField {op : LayoutOp} (h : isField op = true) : ∃ o w a, op = .field o w a := by
  cases op with
  | field o w a => exact ⟨o, w, a, rfl⟩
  | _ => cases h

end Outcome

/-- Settles O11: each check of `validate` is the check of the statement, read over the GROUPs of the span. -/
theorem validatedSpansEndAtTheFirstEnd : Obligations.ValidatedSpansEndAtTheFirstEnd := by
  intro table base
  refine ⟨fun hnone => ?_, fun e hend => ⟨fun g hg => validate_of_nestingFails hend hg, fun hnest => ?_⟩, fun last h => ?_⟩
  · exact validate_of_no_end (Option.eq_none_iff_forall_ne_some.2 fun e he => hnone e ((findEnd_eq_some_iff _ _ _).1 he))
  · have hn := nested_of_not_nestingFails hnest
    refine ⟨fun g hg => validate_of_depthFails hend hn hg, fun hdepth liveAt hlive => ?_⟩
    have hd := shallow_of_not_depthFails hdepth
    refine ⟨fun hnone => validate_of_no_liveField hend hn hd ?_, fun f hf hb hflive hfield => ?_⟩
    · rintro ⟨j, hj, hb, hjlive, hfield⟩
      exact absurd hfield (by simp [hnone j hj hb ((live_eq_of_liveness hn hlive j hj hb).1 hjlive)])
    · rw [validate_of_liveField hend hn hd ⟨f, hf, hb, (live_eq_of_liveness hn hlive f hf hb).2 hflive, hfield⟩]
      exact ⟨fun g hg => advanceCheck_of_passFails hn hlive hg, advanceCheck_of_cycleFails hn hlive,
        advanceCheck_of_passing hn hlive⟩
  · obtain ⟨hend, hn, f, hf, hfb, -, hfield⟩ := of_validate_valid h
    have ⟨hb, h512, hlast, hfirst⟩ := hend
    obtain ⟨o, w, a, hop⟩ := exists_field_of_isField hfield
    have hne : f ≠ last := fun heq => by simp [← heq, hop] at hlast
    refine ⟨hb, h512, hlast, fun k hk hlt => hfirst k hlt hk, fun k count forever l hk hlt htable => ?_,
      f, hfb, by omega, o, w, a, hop⟩
    have hg : (⟨k, count, forever, l⟩ : GroupAt) ∈ groupsOf table base last := mem_groupsOf.2 ⟨hk, hlt.le, htable⟩
    have hl := hn.last_lt_end hg
    refine ⟨hn.index_lt_last hg, hl, field_or_skip_at_last hend hn hg, fun j c fv m hkj hjl hj => ?_⟩
    have hinner : (⟨j, c, fv, m⟩ : GroupAt) ∈ groupsOf table base last :=
      mem_groupsOf.2 ⟨hk.trans hkj.le, hjl.trans hl.le, hj⟩
    exact hn.last_lt_of_encloses (groupsOf_inOrder table base last) hg hinner ((GroupAt.encloses_iff _ _).2 ⟨hkj, hjl⟩)

/-! ## The walker (R24, R36 to R38) -/

/-- R24, R26: a SKIP as read from its bytes moves 1 to 4,096 words. -/
theorem skip_count_of_layoutEntryOf {bytes : List Byte} {entry : LayoutEntry} {k : Nat}
    (h : layoutEntryOf bytes = some entry) (hop : entry.op = .skip k) : 1 ≤ k ∧ k ≤ 4096 := by
  unfold layoutEntryOf at h
  split at h <;> cases h <;> cases hop
  unfold clampTo
  omega

section Execute

variable {s : State} {i : StreamId} (way : WalkOver) (tail : Option GapRecord)

theorem State.execEntry_skip {k : Nat} (h : s.layoutOp (s.stream i).walker.entry = .skip k) :
    s.execEntry i way tail = (s.setStream i { s.stream i with
      walker := { (s.stream i).walker with position := (s.stream i).walker.position + k }.stepPast }, tail) := by
  simp only [State.execEntry, h]

theorem State.execEntry_endCycle (h : s.layoutOp (s.stream i).walker.entry = .endCycle) :
    s.execEntry i way tail = (s.setStream i { s.stream i with
      walker := { (s.stream i).walker with entry := (s.stream i).cfg.layoutBase, stack := [] } }, tail) := by
  simp only [State.execEntry, h]

end Execute

namespace Walker

variable {w : Walker} {c : LoopContext} {rest : List LoopContext}

theorem stepPast_forever (hstack : w.stack = c :: rest) (hlast : w.entry = c.last) (h : c.forever = true) :
    w.stepPast = { w with entry := c.first } := by
  simp [stepPast, hstack, hlast, h]

theorem stepPast_again (hstack : w.stack = c :: rest) (hlast : w.entry = c.last) (h : c.forever = false)
    (hmore : 1 < c.remaining) :
    w.stepPast = { w with entry := c.first, stack := { c with remaining := c.remaining - 1 } :: rest } := by
  simp [stepPast, hstack, hlast, h, hmore]

theorem stepPast_pop (hstack : w.stack = c :: rest) (hlast : w.entry = c.last) (h : c.forever = false)
    (hdone : c.remaining ≤ 1) : w.stepPast = { w with entry := c.last + 1, stack := rest } := by
  simp [stepPast, hstack, hlast, h, Nat.not_lt.2 hdone]

theorem stepPast_next (h : ∀ c ∈ w.stack.head?, w.entry ≠ c.last) : w.stepPast = { w with entry := w.entry + 1 } := by
  cases hstack : w.stack with
  | nil => simp [stepPast, hstack]
  | cons c rest =>
    have hne : w.entry ≠ c.last := h c (by simp [hstack])
    simp [stepPast, hstack, hne]

theorem enterGroup_push {count last : Nat} {forever : Bool} (h : forever = true ∨ 1 ≤ count) :
    w.enterGroup count forever last =
      { w with entry := w.entry + 1, stack := ⟨w.entry + 1, last, count, forever⟩ :: w.stack } :=
  if_pos (by simpa using h)

theorem enterGroup_skip (last : Nat) : w.enterGroup 0 false last = { w with entry := last + 1 } := rfl

end Walker

/-- Settles O51, by the rules for each entry and for each way past an entry. -/
theorem walkerRepeatsGroupBodies : Obligations.WalkerRepeatsGroupBodies := by
  refine ⟨?_, fun bytes entry k => skip_count_of_layoutEntryOf, ?_, fun w => Walker.stepPast_next,
    fun w count last forever => Walker.enterGroup_push, fun w => Walker.enterGroup_skip⟩
  · rintro s i way tail x rfl
    exact ⟨fun k => State.execEntry_skip way tail, State.execEntry_endCycle way tail⟩
  · intro w c rest hstack hlast
    exact ⟨Walker.stepPast_forever hstack hlast, Walker.stepPast_again hstack hlast,
      fun h hone => Walker.stepPast_pop hstack hlast h hone.le⟩

end Sys2Proof.Machine
end

section
/-! PROOFS. The inbound frames of the archive link that the ALT does not accept: what a counted violation is, the relation
of a link sequence outside the outstanding list, and the rule by which each kind of frame is counted or ignored. -/

namespace Sys2Proof.Machine

open Sys2Proof.Safety

/-! ## The relations outside the outstanding list (R127) -/

namespace Transmitter

variable {t : Transmitter} {n : BitVec 32}

theorem relation_next (h : (n - t.oldest).toNat = t.outstanding.length) : t.relation n = .next := by
  simp only [relation, h, lt_self_iff_false, if_true, if_false]

/-- Beyond the list and its next link sequence, n is not the oldest one, so it lies at least 1 behind that. -/
theorem relation_stale (hahead : t.outstanding.length < (n - t.oldest).toNat) (hbehind : (t.oldest - n).toNat ≤ 64) :
    t.relation n = .stale := by
  have hone : 1 ≤ (t.oldest - n).toNat := by bv_omega
  simp [-BitVec.toNat_sub, relation, hahead.not_gt, hahead.ne', hone, hbehind]

theorem relation_beyond (hahead : t.outstanding.length < (n - t.oldest).toNat) (hbehind : 64 < (t.oldest - n).toNat) :
    t.relation n = .beyond := by
  simp [-BitVec.toNat_sub, relation, hahead.not_gt, hahead.ne', hbehind]

end Transmitter

/-! ## Violations (R125) -/

/-- R125: the count, saturating (R168), and the event; no other part of the state. -/
theorem State.violation_eq (s : State) :
    s.violation = { s with
      counters := { s.counters with linkProtocol :=
        if s.counters.linkProtocol = 0xFFFFFFFF#32 then 0xFFFFFFFF#32 else s.counters.linkProtocol + 1 }
      report := raisedIn s.report (s.settings.linkMask.getLsbD 3) (.link .linkProtocol) } := by
  rw [State.violation, State.raise_eq, satAdd_one]
  rfl

theorem State.takesInbound_of {s : State} (hsync : s.alt.archiveSync = true) (hloop : s.settings.loopback = false) :
    s.takesInbound = true := by
  simp [State.takesInbound, hsync, hloop]

/-! ## The frames that are not accepted -/

section Unaccepted

variable {s : State} {n : BitVec 32} (hin : s.takesInbound = true)
include hin

theorem execProtocolViolation_bad {bytes : List Byte} (h : decodeArchive bytes = none) :
    execProtocolViolation bytes s = .next s.violation := by
  simp [execProtocolViolation, hin, isBadArchive, h]

/-- R126: a count outside 1 to 64. -/
theorem execCredit_violation {k : Byte} (h : k = 0 ∨ 64 < k.toNat) : execCredit k s = .next s.violation := by
  have hout : ¬ (1 ≤ k.toNat ∧ k.toNat ≤ 64) := by
    rcases h with rfl | h
    · decide
    · omega
  simp [execCredit, hin, hout]

/-- R128: a COMMIT of what has not been sent. -/
theorem execCommit_violation (h : s.alt.relation n = .next ∨ s.alt.relation n = .beyond) :
    execCommit n s = .next s.violation := by
  rcases h with h | h <;> simp [execCommit, hin, h]

/-- R128: a stale COMMIT is ignored without a count or an event. -/
theorem execCommit_stale (h : s.alt.relation n = .stale) : execCommit n s = .next s := by
  simp [execCommit, hin, h]

/-- R129: a REWIND to what is neither outstanding nor next. -/
theorem execRewind_violation (h : s.alt.relation n = .stale ∨ s.alt.relation n = .beyond) :
    execRewind n s = .next s.violation := by
  rcases h with h | h <;> simp [execRewind, hin, h]

end Unaccepted

/-- Settles O39, frame by frame: by the rule for its kind at the relation that the distances to the oldest give. -/
theorem protocolViolationsAreCountedAndIgnored : Obligations.ProtocolViolationsAreCountedAndIgnored := by
  intro s t hsync hloop ht
  have hin : s.takesInbound = true := State.takesInbound_of hsync hloop
  rw [← State.violation_eq] at ht
  subst ht
  refine ⟨fun bytes => execProtocolViolation_bad hin, fun k => execCredit_violation hin, ?_, ?_, ?_⟩
  · intro n hahead hbehind
    have hbeyond := Transmitter.relation_beyond hahead hbehind
    exact ⟨execCommit_violation hin (.inr hbeyond), execRewind_violation hin (.inr hbeyond)⟩
  · intro n hnext
    exact execCommit_violation hin (.inl (Transmitter.relation_next hnext))
  · intro n hahead hbehind
    have hstale := Transmitter.relation_stale hahead hbehind
    exact ⟨execCommit_stale hin hstale, execRewind_violation hin (.inl hstale)⟩

end Sys2Proof.Machine
end

section
/-! PROOFS. What the meanings of the commands are made of: the writes and the operations on slots by which every command
moves the state, and the induction over a command that they give. A condition that each of them keeps is kept by every
command. -/

-- One theorem at a time: the stacks of a thread each would exceed the memory of the check.
set_option Elab.async false

namespace Sys2Proof.Machine

open Sys2Proof.Safety

/-! ## What a write leaves alone -/

/-- R48, R74, R112: what the consistency of the assemblers asks of one stream. -/
def StreamOk (x : Stream) : Prop :=
  (x.openBlock = none → x.window = none ∧ x.interimTimer = .stopped) ∧
  (x.lossy = true → x.openBlock = none ∧ x.awaiting = none)

/-- A write of a stream's context, from `x` to `y`, that moves no slot and writes no configuration. `strict` says that the
consistency of the assemblers is known, `waits` that the stream waits for an END slot. -/
structure Tweak (strict waits : Prop) (x y : Stream) : Prop where
  cfg : y.cfg = x.cfg := by rfl
  occupancy : y.occupancy = x.occupancy := by rfl
  sendQueue : y.sendQueue = x.sendQueue := by rfl
  slot : y.openBlock.map OpenBlock.slot = x.openBlock.map OpenBlock.slot := by rfl
  ok : strict → StreamOk x → StreamOk y := by exact fun _ h => h
  phase : y.phase = x.phase ∨ x.phase ≠ .closing false ∨ ¬ waits := by exact .inl rfl

/-- A write of the report unit that admits no more answers than fit and no event that is disabled or stands there. -/
structure ReportWithin (s : State) (r : ReportUnit) : Prop where
  fifo : r.fifo.length ≤ max 32 s.report.fifo.length := by simp
  nodup : s.report.events.Nodup → r.events.Nodup := by exact fun h => h
  enabled : ∀ e ∈ r.events, e ∈ s.report.events ∨ s.enabled e = true := by exact fun _ h => .inl h

/-- R106 to R108: what the exclusion of the timers asks of one group. -/
def GroupExclusive (x : Group) : Prop :=
  ¬ (x.overTimer.isRunning = true ∧ x.settleTimer.isRunning = true) ∧
    (x.holdOffTimer.isRunning = true → x.overTimer = .stopped ∧ x.settleTimer = .stopped)

/-- A write of the transmitter that moves no block, gives no link sequence and keeps the credits within their bound. -/
structure Transmitter.Quiet (t u : Transmitter) : Prop where
  outstanding : u.outstanding = t.outstanding := by rfl
  nextLink : u.nextLink = t.nextLink := by rfl
  commitTimeout : u.commitTimeout = t.commitTimeout := by rfl
  sending : u.sending = t.sending := by rfl
  staged : u.staged.map StagedBlock.slot = t.staged.map StagedBlock.slot := by rfl
  credits : u.credits ≤ t.credits ∨ u.outstanding.length + u.credits ≤ 64 := by exact .inl (Nat.le_refl _)

theorem CountersAtMost.refl (k : EngineCounters) : CountersAtMost k k :=
  ⟨BitVec.le_refl _, BitVec.le_refl _, BitVec.le_refl _, BitVec.le_refl _, BitVec.le_refl _, BitVec.le_refl _,
    BitVec.le_refl _, BitVec.le_refl _⟩

theorem State.opsFull_eq_false {s : State} : s.opsFull = false ↔ s.ops.length < 4 :=
  decide_eq_false_iff_not.trans not_le

/-! ## The operations -/

/-- `p` is kept by the writes that move no slot, as the meaning of the command `c` makes them. The list is of the slots in
flight: held, and for the moment standing nowhere. `strict` says that `p` knows the consistency of the assemblers. -/
structure Writes (c : Instr) (strict : Prop) (p : List Nat → State → Prop) : Prop where
  report : ∀ {L s x}, ReportWithin s x → p L s → p L (s.setReport x)
  ops : ∀ {L s} {x : List PendingOp}, x.length ≤ max 4 s.ops.length → p L s → p L (s.setOps x)
  group : ∀ {L s g x}, groupSettings x = groupSettings (s.group g) → (GroupExclusive (s.group g) → GroupExclusive x) →
    p L s → p L (s.setGroup g x)
  counters : ∀ {L s x}, (CountersAtMost s.counters x ∨ ∃ d, c = .clearCounts d) → p L s → p L (s.setCounters x)
  restore : ∀ {L L' s t}, p L s → p L' t → p L' (t.setCounters s.counters)
  own : ∀ {L s} x, p L s → p L (s.setOwn x)
  receiver : ∀ {L s} x, p L s → p L (s.setReceiver x)
  alt : ∀ {L s x}, s.alt.Quiet x → p L s → p L (s.setAlt x)
  badLines : ∀ {L s} x, p L s → p L (s.setSpill { s.spill with badLines := x })
  writeLines : ∀ {L s} slot line bs, p L s → p L (s.writeLines slot line bs)
  stream : ∀ {L s i x}, Tweak strict (i ∈ s.spill.endWaits) (s.stream i) x → p L s → p L (s.setStream i x)
  record : ∀ {L s n r q}, s.slotRecord n = some r → q.place = r.place → q.stream = r.stream → p L s →
    p L (s.putRecord n q)

/-- `p` is kept by every write and every operation on slots that the meaning of the command `c` is made of. -/
structure Kept (c : Instr) (strict : Prop) (p : List Nat → State → Prop) : Prop extends Writes c strict p where
  consistent : ∀ {L s}, p L s → strict → AssemblersConsistent s
  flight : (∀ L L' s, p L s → p L' s) ∨ ∀ L s, p L s → L.Nodup ∧ ∀ n ∈ L, Held s n
  perm : ∀ {L L' s}, L.Perm L' → p L s → p L' s
  markAborted : ∀ {L s} i, p L s → p L (s.markAborted i)
  -- the operations on slots
  allocate : ∀ {L s t i ordinary slot}, s.allocate i ordinary = some (slot, t) → p L s → p (slot :: L) t
  openIn : ∀ {L s i slot r} gap n timed, s.slotRecord slot = some r → r.place = .openBlock → r.stream = i →
    (strict → (s.stream i).openBlock = none ∧ (s.stream i).loss = none ∧ i ∉ s.spill.endWaits) → p (slot :: L) s →
    p L (s.openIn i slot gap n timed)
  closeOpen : ∀ {L s i} flags tail, (strict → (s.stream i).window = none) → p L s → p L (s.closeOpen i flags tail)
  closeShort : ∀ {L s i}, (s.stream i).openBlock ≠ none → p L s → p L (s.closeShort i)
  wait : ∀ {L s i}, (strict → (s.stream i).phase = .closing false ∧ (s.stream i).openBlock = none ∧
      i ∉ s.spill.endWaits) → p L s → p L (s.setSpill { s.spill with endWaits := s.spill.endWaits ++ [i] })
  unwait : ∀ {L s} i, p L s → p L (s.setSpill { s.spill with endWaits := s.spill.endWaits.filter fun j => j != i })
  freeSlot : ∀ {L s n}, p (n :: L) s → p L (s.freeSlot n)
  requeue : ∀ {L s n r}, s.slotRecord n = some r → r.aborted = false → p (n :: L) s → p L (s.requeue n)
  liftStaged : ∀ {L s b}, s.alt.staged = some b → p L s → p (b.slot :: L) (s.setAlt { s.alt with staged := none })
  liftSending : ∀ {L s b}, s.alt.sending = some b → p L s → p (b.slot :: L) (s.setAlt { s.alt with sending := none })
  liftHead : ∀ {L s b rest}, s.alt.outstanding = b :: rest → p L s →
    p (b.slot :: L) (s.setAlt { s.alt with outstanding := rest })
  liftStream : ∀ {L s i}, i ∉ s.spill.endWaits → p L s →
    p (((s.stream i).sendQueue ++ ((s.stream i).openBlock.map OpenBlock.slot).toList) ++ L)
      (s.setStream i { (s.stream i).dropped with phase := .closing true })
  grantTo : ∀ {L s} cl i q, s.alt.staged = none → p L s → p L (s.grantTo cl i q)
  move : ∀ {L s b}, s.alt.staged = some b → s.alt.sending = none → 0 < s.alt.credits → p L s →
    p L ((s.changeRecord b.slot fun r => { r with place := .sending }).setAlt
      { s.alt with staged := none, sending := some ⟨b.slot, s.alt.nextLink, b.bytes⟩ })
  sent : ∀ {L s b} loopback, s.alt.sending = some b → p L s →
    p L ((s.changeRecord b.slot fun r => { r with place := .outstanding }).setAlt (State.sentAlt s.alt b loopback))
  -- the configuration directives and RESET ENGINE
  engine : ∀ {L s} strictMode loopback mask, (∃ d, c = .setEngine d) →
    (loopback ≠ s.settings.loopback → s.alt.outstanding = []) → p L s →
    p L (((s.setAlt (s.alt.withLoopback s.settings.loopback loopback)).setSettings
      ⟨strictMode, loopback, mask⟩).dropDisabled EventPair.isLink)
  timeout : ∀ {L s} n, (∃ d, c = .setLink d) → p L s →
    p L (s.setAlt { s.alt with commitTimeout := clampTo 1000 10000000 n })
  layout : ∀ {L s} x, (∃ d, c = .writeLayout d) → p L s → p L (s.setLayout x)
  configure : ∀ {L s} i {bs cfg} e, (∃ d, c = .configureStream d) → streamConfigOf bs = some cfg → p L s →
    p L ((s.setStream i ((s.stream i).configured cfg e)).dropDisabled (EventPair.isOf i))
  configureGroup : ∀ {L s} g bs, (∃ d, c = .configureGroup d) → p L s →
    p L (s.setGroup g ((s.group g).configured bs))
  resetBlocks : ∀ {s}, (∃ d, c = .resetEngine d) → p [] s → p [] s.resetBlocks

namespace Writes

variable {c : Instr} {strict : Prop} {p : List Nat → State → Prop} {L : List Nat} {s : State} {i : StreamId}

/-! ## Answers, events, counters and operations -/

section
variable (hk : Writes c strict p) (hp : p L s)
include hk hp

theorem raise (e : EventPair) : p L (s.raise e) := by
  unfold State.raise
  split
  · next h =>
    simp only [Bool.and_eq_true, Bool.not_eq_true', List.contains_eq_mem, decide_eq_false_iff_not] at h
    refine hk.report { nodup := fun hn => ?_, enabled := fun x hx => ?_ } hp
    · rw [List.nodup_append]
      exact ⟨hn, List.nodup_singleton e, fun a ha b hb hab => h.2 (List.mem_singleton.1 hb ▸ hab ▸ ha)⟩
    · rcases List.mem_append.1 hx with hx | hx
      · exact .inl hx
      · exact .inr (List.mem_singleton.1 hx ▸ h.1)
  · exact hp

theorem offer (e : Answer) : p L (s.offer e) := by
  unfold State.offer
  split
  · next h => exact hk.report { fifo := by simp [Config.fifoDepth] at h ⊢; omega } hp
  · exact hk.report {} hp

theorem respond (strictMode : Bool) (code : Byte) (d : Directive) (r : Reply) : p L (s.respond strictMode code d r) := by
  unfold State.respond
  split
  · exact hk.offer hp _
  · exact hp

theorem foldl_offer (l : List Answer) : p L (l.foldl State.offer s) := by
  induction l generalizing s with
  | nil => exact hp
  | cons e l ih => exact ih (hk.offer hp e)

theorem settleOps : p L s.settleOps :=
  hk.foldl_offer (hk.ops ((List.length_filter_le _ _).trans (Nat.le_max_right _ _)) hp) _

theorem mapOps (f : PendingOp → PendingOp) : p L (s.setOps (s.ops.map f)) := hk.ops (by simp) hp

theorem enterOp (d : Directive) (k : OpKind) (h : s.opsFull = false) : p L (s.enterOp d k) := by
  have hroom := State.opsFull_eq_false.1 h
  exact hk.ops (by simp; omega) hp

theorem judge (g : GroupId) : p L (s.judge g) := by
  refine hk.group rfl (fun h => ?_) hp
  obtain ⟨h1, h2⟩ := h
  constructor
  · simp only [Group.judged, Group.judgedOver, Group.judgedSettle]
    cases s.condition g <;> simp [Timer.isRunning]
  · intro hh
    obtain ⟨ho, hs⟩ := h2 hh
    have hh' : (s.group g).holdOffTimer.isRunning = true := hh
    constructor <;> simp [Group.judged, Group.judgedOver, Group.judgedSettle, hh', ho, hs]

theorem judgeFor (i : StreamId) : p L (s.judgeFor i) := hk.judge hp _

theorem countEcc (a b : Nat) : p L (s.countEcc a b) := by
  refine hk.counters (.inl ?_) hp
  obtain ⟨h1, h2, h3, h4, -, -, h7, h8⟩ := CountersAtMost.refl s.counters
  exact ⟨h1, h2, h3, h4, le_satAdd _ _, le_satAdd _ _, h7, h8⟩

theorem countBad : p L s.countBad := by
  refine hk.counters (.inl ?_) hp
  obtain ⟨-, h⟩ := CountersAtMost.refl s.counters
  exact ⟨le_satAdd _ _, h⟩

theorem countIntake (a b d : Bool) : p L (s.countIntake a b d) := by
  refine hk.counters (.inl ?_) hp
  obtain ⟨h1, -, -, -, h5⟩ := CountersAtMost.refl s.counters
  exact ⟨h1, le_satAdd _ _, le_satAdd _ _, le_satAdd _ _, h5⟩

theorem violation : p L s.violation := by
  refine hk.raise (hk.counters (.inl ?_) hp) _
  obtain ⟨h1, h2, h3, h4, h5, h6, -, h8⟩ := CountersAtMost.refl s.counters
  exact ⟨h1, h2, h3, h4, h5, h6, le_satAdd _ _, h8⟩

theorem checkFailed : p L (State.checkFailed s) := by
  refine hk.raise (hk.counters (.inl ?_) hp) _
  obtain ⟨h1, h2, h3, h4, h5, h6, h7, -⟩ := CountersAtMost.refl s.counters
  exact ⟨h1, h2, h3, h4, h5, h6, h7, le_satAdd _ _⟩

theorem abandonRead (n : Nat) : p L (s.abandonRead n) := hk.own _ (hk.countEcc hp _ _)

theorem foldl_abandonRead (l : List Nat) : p L (l.foldl State.abandonRead s) := by
  induction l generalizing s with
  | nil => exact hp
  | cons n l ih => exact ih (hk.abandonRead hp n)

theorem abandonVerifies (n : Nat) : p L (s.abandonVerifies n) :=
  s.abandonVerifies_induction (p L) n (fun _ h => hk.abandonRead h n) hp

theorem verifiesGone (n : Nat) : p L (s.verifiesGone n) := hk.mapOps (hk.abandonVerifies hp n) _

theorem noteRead (slot : Nat) (r : ReadResult) : p L (s.noteRead slot r) := hk.badLines _ (hk.countEcc hp _ _)

theorem endReport (e : Ending) : p L (s.endReport e) := by
  unfold State.endReport
  split
  · exact hp
  · exact hk.own _ hp

theorem changeRecord (n : Nat) {f : SlotRecord → SlotRecord} (hplace : ∀ r, (f r).place = r.place)
    (hstream : ∀ r, (f r).stream = r.stream) : p L (s.changeRecord n f) := by
  unfold State.changeRecord
  split
  · next r h => exact hk.record h (hplace r) (hstream r) hp
  · exact hp

theorem enterIdle (i : StreamId) (byAbort : Bool)
    (h : (s.stream i).phase ≠ .closing false ∨ i ∉ s.spill.endWaits) : p L (s.enterIdle i byAbort) :=
  hk.mapOps (hk.stream { phase := .inr h } hp) _

theorem testRunEnd (i : StreamId) : p L (s.testRunEnd i) := by
  unfold State.testRunEnd
  dsimp only
  split
  · next h =>
    refine hk.mapOps (hk.enterIdle hp i false (.inr ?_)) _
    simp at h
    exact h.1.1.2
  · exact hp

end

end Writes

end Sys2Proof.Machine
end

section
/-! PROOFS. What blocks, windows and losses are moved by: each operation of the block assembler keeps what its writes keep. -/

-- One theorem at a time: the stacks of a thread each would exceed the memory of the check.
set_option Elab.async false

namespace Sys2Proof.Machine

open Sys2Proof.Safety

namespace State

variable {s : State} {i : StreamId}

/-! ## What the block assembler keeps of its stream -/

@[simp] theorem closeOpen_stream_window (f : BitVec 16) (t : Option GapSection) :
    ((s.closeOpen i f t).stream i).window = (s.stream i).window := by
  cases h : (s.stream i).openBlock with
  | none => simp [h]
  | some b => rw [closeOpen_stream_self h]

@[simp] theorem closeOpen_stream_phase (f : BitVec 16) (t : Option GapSection) :
    ((s.closeOpen i f t).stream i).phase = (s.stream i).phase := by
  cases h : (s.stream i).openBlock with
  | none => simp [h]
  | some b => rw [closeOpen_stream_self h]

@[simp] theorem closeOpen_stream_loss (f : BitVec 16) (t : Option GapSection) :
    ((s.closeOpen i f t).stream i).loss = (s.stream i).loss := by
  cases h : (s.stream i).openBlock with
  | none => simp [h]
  | some b => rw [closeOpen_stream_self h]

@[simp] theorem closeOpen_stream_openBlock (f : BitVec 16) (t : Option GapSection) :
    ((s.closeOpen i f t).stream i).openBlock = none := by
  cases h : (s.stream i).openBlock with
  | none => simp [h]
  | some b => rw [closeOpen_stream_self h]

@[simp] theorem openIn_stream_openBlock (n : Nat) (g : Option GapSection) (k : Nat) (b : Bool) :
    ((s.openIn i n g k b).stream i).openBlock = some (newBlock (s.stream i) i n g k) := by
  simp [openedStream]

@[simp] theorem openCarrying_stream_openBlock (n k : Nat) (b : Bool) :
    ((s.openCarrying i n k b).stream i).openBlock ≠ none := by
  simp [openCarrying_stream_self, openedStream]

@[simp] theorem openCarrying_stream_window (n k : Nat) (b : Bool) :
    ((s.openCarrying i n k b).stream i).window = (s.stream i).window := by
  simp [openCarrying_stream_self, openedStream]

@[simp] theorem openCarrying_stream_phase (n k : Nat) (b : Bool) :
    ((s.openCarrying i n k b).stream i).phase = (s.stream i).phase := by
  simp [openCarrying_stream_self, openedStream]

@[simp] theorem openCarrying_stream_loss (n k : Nat) (b : Bool) :
    ((s.openCarrying i n k b).stream i).loss = none := by
  simp [openCarrying_stream_self, openedStream]

@[simp] theorem emitPartial_stream_window : ((s.emitPartial i).stream i).window = none := by
  obtain ⟨b, points, h, -⟩ := s.emitPartial_stream_self i
  rw [h]

@[simp] theorem emitPartial_stream_phase : ((s.emitPartial i).stream i).phase = (s.stream i).phase := by
  obtain ⟨b, points, h, -⟩ := s.emitPartial_stream_self i
  rw [h]

@[simp] theorem emitPartial_stream_loss : ((s.emitPartial i).stream i).loss = (s.stream i).loss := by
  obtain ⟨b, points, h, -⟩ := s.emitPartial_stream_self i
  rw [h]

/-- R110: applying a level moves no window, no loss and no phase. -/
theorem applyLevel_stream_self :
    ((s.applyLevel i).stream i).window = (s.stream i).window ∧ ((s.applyLevel i).stream i).loss = (s.stream i).loss ∧
      ((s.applyLevel i).stream i).phase = (s.stream i).phase ∧
      ((s.stream i).openBlock = none → ((s.applyLevel i).stream i).openBlock = none) := by
  unfold applyLevel
  dsimp only
  split <;> simp

/-- R83, R85: the record of a slot just allocated. -/
theorem allocate_record {t : State} {ordinary : Bool} {slot : Nat} (h : s.allocate i ordinary = some (slot, t)) :
    t.slotRecord slot = some (s.newRecord i) := by
  obtain ⟨-, -, -, -, -, -, hslots, -⟩ := allocate_some h
  rw [slotRecord, hslots, SlotMap.find_put_self]

end State

namespace Kept

variable {c : Instr} {strict : Prop} {p : List Nat → State → Prop} {L : List Nat} {s : State} {i : StreamId}

section
variable (hk : Kept c strict p) (hp : p L s)
include hk hp

/-! ## Losses and levels -/

theorem leaveLossy (i : StreamId) : p L (s.leaveLossy i) := by
  refine hk.raise (hk.stream ?_ hp) _
  exact { ok := fun _ h => ⟨h.1, fun e => by simp [Stream.lossy] at e⟩ }

theorem enterLossy (r : LossRecord) (h : strict → (s.stream i).openBlock = none) : p L (s.enterLossy i r) := by
  refine hk.raise (hk.stream ?_ hp) _
  exact { ok := fun hs hok => ⟨fun _ => ⟨rfl, (hok.1 (h hs)).2⟩, fun _ => ⟨h hs, rfl⟩⟩ }

theorem applyLevel (h : strict → (s.stream i).window = none) : p L (s.applyLevel i) := by
  unfold State.applyLevel
  dsimp only
  split
  · exact hp
  · exact hk.raise (hk.stream {} (hk.closeOpen _ _ h hp)) _

theorem countLossy (i : StreamId) : p L (s.countLossy i) := by
  unfold State.countLossy
  dsimp only
  split
  · exact hp
  · next r hr => exact hk.stream { ok := fun _ h => ⟨h.1, fun _ => h.2 (by simp [Stream.lossy, hr])⟩ } hp

/-! ## Points -/

theorem writeFilledLine (b d : OpenBlock) : p L (s.writeFilledLine b d) := by
  unfold State.writeFilledLine
  dsimp only
  split
  · exact hk.writeLines _ _ _ hp
  · exact hp

theorem emitWindow (i : StreamId) (isPartial : Bool) : p L (s.emitWindow i isPartial) := by
  unfold State.emitWindow
  dsimp only
  split
  · next w b hw hb =>
    have hput : p L ((s.setStream i { s.stream i with
        window := none, openBlock := some (State.placePoint b (pointBytes w.point) isPartial)
        counts := { (s.stream i).counts with points := (s.stream i).counts.points + 1 } }).writeFilledLine b
          (State.placePoint b (pointBytes w.point) isPartial)) := by
      refine hk.writeFilledLine (hk.stream { slot := by simp [hb, State.placePoint], ok := fun _ h => ⟨?_, ?_⟩ } hp) _ _
      · intro e; cases e
      · intro e
        have := (h.2 e).1
        simp [hb] at this
    split
    · exact hk.closeOpen _ _ (fun _ => by simp) hput
    · exact hput
  · exact hk.stream { ok := fun _ h => ⟨fun e => ⟨rfl, (h.1 e).2⟩, h.2⟩ } hp

theorem emitPartial (i : StreamId) : p L (s.emitPartial i) := by
  unfold State.emitPartial
  split
  · exact hk.emitWindow hp i true
  · exact hp

theorem beginWindow (v : Int) (h : strict → (s.stream i).openBlock ≠ none) : p L (s.beginWindow i v) := by
  have hput : p L (s.setStream i { s.stream i with
      window := some (Window.beginWith (s.stream i).cfg (s.stream i).level (s.stream i).inputIndex v) }) :=
    hk.stream { ok := fun hs hok => ⟨fun e => absurd e (h hs), hok.2⟩ } hp
  unfold State.beginWindow
  dsimp only
  split
  · exact hk.emitWindow hput i false
  · exact hput

theorem takeNext (w : Window) (v : Int) (h : (s.stream i).window = some w) : p L (s.takeNext i w v) := by
  have hput : p L (s.setStream i { s.stream i with window := some (w.add v) }) :=
    hk.stream { ok := fun _ hok => ⟨fun e => by have := (hok.1 e).1; simp [h] at this, hok.2⟩ } hp
  unfold State.takeNext
  dsimp only
  split
  · exact hk.emitWindow hput i false
  · exact hput

end

section
variable (hk : Kept c strict p)
include hk

/-! ## Opening a block in a granted slot -/

theorem openCarrying {slot : Nat} {r : SlotRecord} (n : Nat) (timed : Bool) (hr : s.slotRecord slot = some r)
    (hplace : r.place = .openBlock) (hstream : r.stream = i)
    (h : strict → (s.stream i).openBlock = none ∧ i ∉ s.spill.endWaits) (hp : p (slot :: L) s) : p L (s.openCarrying i slot n timed) := by
  unfold State.openCarrying
  dsimp only
  split
  · refine hk.openIn (r := r) _ _ _ (by simpa [State.slotRecord] using hr) hplace hstream (fun hs => ?_)
      (hk.stream { ok := fun _ hok => ⟨hok.1, fun e => ⟨(hok.2 e).1, rfl⟩⟩ } (hk.leaveLossy hp i))
    obtain ⟨hopen, hwait⟩ := h hs
    simp [State.leaveLossy, hopen, hwait]
  · next hl =>
    refine hk.openIn (r := r) _ _ _ (by simpa using hr) hplace hstream (fun hs => ?_)
      (hk.stream { ok := fun _ hok => ⟨hok.1, fun e => ⟨(hok.2 e).1, rfl⟩⟩ } hp)
    obtain ⟨hopen, hwait⟩ := h hs
    simpa [hopen, hwait, Stream.lossy] using hl

/-- A granted request, and the block that opens in its slot. -/
theorem allocate_openCarrying {t : State} {ordinary : Bool} {slot : Nat} (ha : s.allocate i ordinary = some (slot, t))
    (n : Nat) (timed : Bool) (h : strict → (s.stream i).openBlock = none ∧ i ∉ s.spill.endWaits) (hp : p L s) :
    p L (t.openCarrying i slot n timed) := by
  obtain ⟨-, -, hself, hwaits, -⟩ := State.allocate_some ha
  refine hk.openCarrying n timed (State.allocate_record ha) rfl rfl (fun hs => ?_) (hk.allocate ha hp)
  rw [hself, hwaits]
  exact h hs

theorem openEndBlock {slot : Nat} {r : SlotRecord} (hr : s.slotRecord slot = some r)
    (hplace : r.place = .openBlock) (hstream : r.stream = i)
    (h : strict → (s.stream i).openBlock = none ∧ i ∉ s.spill.endWaits) (hw : strict → (s.stream i).window = none)
    (hp : p (slot :: L) s) : p L (s.openEndBlock i slot) :=
  hk.closeOpen _ _ (fun hs => by simp [hw hs]) (hk.openCarrying _ _ hr hplace hstream h hp)

/-! ## Inputs -/

/-- R112: under the assemblers' consistency a LOSSY stream has no open block. -/
theorem openBlock_of_lossy (hp : p L s) {r : LossRecord} (hr : (s.stream i).loss = some r) (hs : strict) :
    (s.stream i).openBlock = none :=
  ((hk.consistent hp hs).2.1 i (by simp [Stream.lossy, hr])).1

theorem window_of_openBlock (hp : p L s) (hs : strict) (h : (s.stream i).openBlock = none) :
    (s.stream i).window = none :=
  ((hk.consistent hp hs).1 i h).1

/-- R76: an END-slot wait is of a CLOSING stream. -/
theorem notWaiting (hp : p L s) (h : (s.stream i).phase ≠ .closing false) (hs : strict) : i ∉ s.spill.endWaits :=
  fun hi => h ((hk.consistent hp hs).2.2.2 i hi).1

theorem lossyRetry (h : (s.stream i).phase ≠ .closing false) (hp : p L s) : p L (s.lossyRetry i) := by
  unfold State.lossyRetry
  split
  · exact hp
  · next r hr =>
    split
    · exact hp
    · dsimp only
      have hopen : strict → (s.stream i).openBlock = none := fun hs => hk.openBlock_of_lossy hp hr hs
      have happly := hk.applyLevel hp fun hs => hk.window_of_openBlock hp hs (hopen hs)
      obtain ⟨-, hloss, -, hkeep⟩ := s.applyLevel_stream_self (i := i)
      have hput := hk.stream (i := i) (x := { (s.applyLevel i).stream i with loss := some { r with
          factor := some (effectiveFactor ((s.applyLevel i).stream i).cfg ((s.applyLevel i).stream i).level) } })
        { ok := fun _ hok => ⟨hok.1, fun _ => hok.2 (by simp [Stream.lossy, hloss, hr])⟩ } happly
      split
      · next ha =>
        refine hk.allocate_openCarrying ha _ _ (fun hs => ⟨?_, ?_⟩) hput
        · simpa using hkeep (hopen hs)
        · simpa using hk.notWaiting hp h hs
      · exact hput

omit hk in
/-- R115: a retry either leaves the stream LOSSY or opens a block. -/
theorem lossyRetry_openBlock {r : LossRecord} (hr : (s.stream i).loss = some r)
    (h : ((s.lossyRetry i).stream i).lossy = false) : ((s.lossyRetry i).stream i).openBlock ≠ none := by
  revert h
  unfold State.lossyRetry
  rw [hr]
  dsimp only
  split
  · simp [Stream.lossy, hr]
  · split
    · simp
    · simp [Stream.lossy]

end

end Kept

end Sys2Proof.Machine
end

section
/-! PROOFS. Inputs, walks, segments and runs: each keeps what the operations of the block assembler keep. -/

-- One theorem at a time: the stacks of a thread each would exceed the memory of the check.
set_option Elab.async false

namespace Sys2Proof.Machine

open Sys2Proof.Safety

namespace State

variable {s : State} {i : StreamId}

@[simp] theorem openedStream_window (x : Stream) (b : OpenBlock) (timed : Bool) :
    (openedStream x b timed).window = x.window := rfl

@[simp] theorem openedStream_phase (x : Stream) (b : OpenBlock) (timed : Bool) :
    (openedStream x b timed).phase = x.phase := rfl

/-! ## An input moves no phase -/

@[simp] theorem emitWindow_stream_phase (isPartial : Bool) :
    ((s.emitWindow i isPartial).stream i).phase = (s.stream i).phase := by
  unfold emitWindow
  dsimp only
  repeat' split
  all_goals simp

@[simp] theorem beginWindow_stream_phase (v : Int) : ((s.beginWindow i v).stream i).phase = (s.stream i).phase := by
  unfold beginWindow
  dsimp only
  split <;> simp

@[simp] theorem takeNext_stream_phase (w : Window) (v : Int) :
    ((s.takeNext i w v).stream i).phase = (s.stream i).phase := by
  unfold takeNext
  dsimp only
  split <;> simp

@[simp] theorem applyLevel_stream_phase : ((s.applyLevel i).stream i).phase = (s.stream i).phase :=
  applyLevel_stream_self.2.2.1

@[simp] theorem enterLossy_stream_phase (r : LossRecord) : ((s.enterLossy i r).stream i).phase = (s.stream i).phase := by
  simp [enterLossy]

theorem allocate_stream_phase {t : State} {ordinary : Bool} {slot : Nat}
    (h : s.allocate i ordinary = some (slot, t)) : (t.stream i).phase = (s.stream i).phase := by
  obtain ⟨-, -, hself, -⟩ := allocate_some h
  rw [hself]

@[simp] theorem takeFirst_stream_phase (v : Int) : ((s.takeFirst i v).stream i).phase = (s.stream i).phase := by
  unfold takeFirst
  dsimp only
  split
  · simp
  · split
    · next ha => simp [allocate_stream_phase ha]
    · simp

@[simp] theorem countLossy_stream_phase : ((s.countLossy i).stream i).phase = (s.stream i).phase := by
  unfold countLossy
  dsimp only
  split <;> simp

@[simp] theorem lossyRetry_stream_phase : ((s.lossyRetry i).stream i).phase = (s.stream i).phase := by
  unfold lossyRetry
  split
  · rfl
  · split
    · rfl
    · dsimp only
      split
      · next ha => simp [allocate_stream_phase ha]
      · simp

@[simp] theorem handInput_stream_phase (v : Int) : ((s.handInput i v).stream i).phase = (s.stream i).phase := by
  unfold handInput
  dsimp only
  split
  · split <;> simp
  · split <;> simp

@[simp] theorem passInput_stream_phase (isTail : Bool) (tail : Option GapRecord) :
    ((s.passInput i isTail tail).1.stream i).phase = (s.stream i).phase := by
  unfold passInput
  dsimp only
  split
  · simp
  · split <;> simp [loseToTail, loseToGap]

@[simp] theorem fieldInput_stream_phase (way : WalkOver) (tail : Option GapRecord) (offset width : Nat) :
    ((s.fieldInput i way tail offset width).1.stream i).phase = (s.stream i).phase := by
  unfold fieldInput
  split <;> simp

@[simp] theorem carryGap_stream_phase (g : GapSection) (truncated : Bool) :
    ((s.carryGap i g truncated).stream i).phase = (s.stream i).phase := by
  unfold carryGap
  split
  · next ha => simp [allocate_stream_phase ha]
  · simp

@[simp] theorem endSegmentBlock_stream_phase (truncated : Bool) (tail : Option GapRecord) :
    ((s.endSegmentBlock i truncated tail).stream i).phase = (s.stream i).phase := by
  unfold endSegmentBlock
  dsimp only
  repeat' split
  all_goals simp

end State

/-- R59: the input index moves on, and with it the anchor, a held resync and the count of inputs. -/
theorem Stream.advancedIndex_eq (x : Stream) : ∃ anchor resync, x.advanceIndex = { x with
    inputIndex := x.inputIndex + 1, anchor := anchor, resync := resync
    counts := { x.counts with accepted := x.counts.accepted + 1 } } := by
  unfold Stream.advanceIndex
  dsimp only
  split
  · split
    · exact ⟨_, _, rfl⟩
    · exact ⟨_, _, rfl⟩
  · exact ⟨_, _, rfl⟩

namespace Kept

variable {c : Instr} {strict : Prop} {p : List Nat → State → Prop} {L : List Nat} {s : State} {i : StreamId}

section
variable (hk : Kept c strict p) (hp : p L s)
include hk hp

/-! ## Inputs -/

theorem takeFirst (v : Int) (hph : (s.stream i).phase ≠ .closing false) (h : (s.stream i).window = none) : p L (s.takeFirst i v) := by
  have happly := hk.applyLevel (i := i) hp fun _ => h
  unfold State.takeFirst
  dsimp only
  split
  · next ho => exact hk.beginWindow happly v fun _ e => by simp [e] at ho
  · next ho =>
    have ho' : ((s.applyLevel i).stream i).openBlock = none := by simpa using ho
    split
    · next ha =>
      exact hk.beginWindow (hk.allocate_openCarrying ha _ _ (fun hs => ⟨ho', by simpa using hk.notWaiting hp hph hs⟩) happly) v fun _ => by simp
    · refine hk.enterLossy (hk.stream ?_ happly) _ fun _ => by simpa using ho'
      exact {}

theorem handInput (v : Int) (hph : (s.stream i).phase ≠ .closing false) : p L (s.handInput i v) := by
  unfold State.handInput
  dsimp only
  split
  · next hl =>
    have hretry := hk.lossyRetry hph hp
    obtain ⟨r, hr⟩ := Option.isSome_iff_exists.1 hl
    split
    · exact hk.countLossy hretry i
    · next hl' => exact hk.beginWindow hretry v fun _ => lossyRetry_openBlock hr (by simpa using hl')
  · split
    · next w hw => exact hk.takeNext hp w v hw
    · next hw => exact hk.takeFirst hp v hph hw

theorem loseToGap (h : (s.stream i).loss = none) : p L (s.loseToGap i) := by
  unfold State.loseToGap
  dsimp only
  refine hk.stream { ok := fun _ hok => ⟨hok.1, fun e => ?_⟩ }
    (hk.closeOpen _ _ (fun _ => by simp) (hk.emitPartial hp i))
  simp [Stream.lossy, h] at e

theorem passInput (isTail : Bool) (tail : Option GapRecord) (hph : (s.stream i).phase ≠ .closing false) :
    p L (s.passInput i isTail tail).1 := by
  have hretry := hk.lossyRetry hph hp
  unfold State.passInput
  dsimp only
  split
  · exact hk.countLossy hretry i
  · next hl =>
    split
    · exact hk.stream {} hretry
    · exact hk.loseToGap hretry (by simpa [Stream.lossy] using hl)

theorem fieldInput (way : WalkOver) (tail : Option GapRecord) (offset width : Nat)
    (hph : (s.stream i).phase ≠ .closing false) : p L (s.fieldInput i way tail offset width).1 := by
  unfold State.fieldInput
  split
  · exact hk.handInput hp _ hph
  · exact hk.passInput hp _ _ hph
  · exact hk.passInput hp _ _ hph

theorem advanceInput (i : StreamId) : p L (s.advanceInput i) := by
  obtain ⟨anchor, resync, h⟩ := (s.stream i).advancedIndex_eq
  unfold State.advanceInput
  rw [h]
  exact hk.stream {} hp

/-! ## Segment ends -/

theorem carryGap (g : GapSection) (truncated : Bool)
    (h : strict → (s.stream i).openBlock = none ∧ (s.stream i).window = none) (hloss : (s.stream i).loss = none)
    (hph : (s.stream i).phase ≠ .closing false) : p L (s.carryGap i g truncated) := by
  unfold State.carryGap
  split
  · next slot t ha =>
    obtain ⟨-, -, hself, hwaits, -⟩ := State.allocate_some ha
    have hput : p (slot :: L) (t.setStream i { t.stream i with awaiting := none }) :=
      hk.stream { ok := fun _ hok => ⟨hok.1, fun e => ⟨(hok.2 e).1, rfl⟩⟩ } (hk.allocate ha hp)
    refine hk.closeOpen _ _ (fun hs => ?_) (hk.openIn (r := s.newRecord i) _ _ _ ?_ rfl rfl (fun hs => ?_) hput)
    · simp [hself, (h hs).2]
    · simpa using State.allocate_record ha
    · simpa [hself, (h hs).1, hloss, hwaits] using hk.notWaiting hp hph hs
  · exact hk.enterLossy hp _ fun hs => (h hs).1

theorem endSegmentBlock (truncated : Bool) (tail : Option GapRecord) (h : strict → (s.stream i).window = none)
    (hph : (s.stream i).phase ≠ .closing false) : p L (s.endSegmentBlock i truncated tail) := by
  unfold State.endSegmentBlock
  dsimp only
  split
  · exact hp
  · next hl =>
    have hloss : (s.stream i).loss = none := by simpa [Stream.lossy] using hl
    split
    · exact hk.closeOpen _ _ h hp
    · split
      · exact hk.closeOpen _ _ h hp
      · exact hk.carryGap (hk.closeOpen _ _ h hp) _ _ (fun hs => by simp [h hs]) (by simp [hloss]) (by simpa using hph)
    · next ho =>
      split
      · exact hk.carryGap hp _ _ (fun hs => ⟨ho, h hs⟩) hloss hph
      · exact hk.carryGap hp _ _ (fun hs => ⟨ho, h hs⟩) hloss hph
      · exact hk.carryGap hp _ _ (fun hs => ⟨ho, h hs⟩) hloss hph
      · exact hp

theorem endSegment (truncated : Bool) (tail : Option GapRecord) (h : (s.stream i).phase ≠ .closing false) :
    p L (s.endSegment i truncated tail) := by
  have hblock := hk.endSegmentBlock (i := i) (hk.emitPartial hp i) truncated tail (fun _ => by simp) (by simpa using h)
  have hok : ∀ x : Stream, StreamOk x → StreamOk { State.abandonWouldBe x with
      phase := .running .betweenSegments, walker := { x.walker with stack := [] }, resync := none } := by
    intro x hx
    refine ⟨hx.1, fun e => hx.2 ?_⟩
    simpa [Stream.lossy, State.abandonWouldBe] using e
  unfold State.endSegment
  dsimp only
  split
  · exact hk.stream { ok := fun _ => hok _, phase := by simp [h] } (hk.raise hblock _)
  · exact hk.stream { ok := fun _ => hok _, phase := by simp [h] } hblock

/-! ## The walk -/

theorem execEntry (way : WalkOver) (tail : Option GapRecord) (h : (s.stream i).phase = .running .inSegment) :
    p L (s.execEntry i way tail).1 := by
  unfold State.execEntry
  dsimp only
  split
  · next offset width advance _ =>
    unfold State.execField
    dsimp only
    have hadvance := hk.advanceInput (hk.fieldInput (i := i) hp way tail offset width (by simp [h])) i
    split
    · refine hk.endSegment hadvance _ _ ?_
      obtain ⟨anchor, resync, e⟩ := ((s.fieldInput i way tail offset width).1.stream i).advancedIndex_eq
      simp [State.advanceInput, e, h]
    · exact hk.stream {} hadvance
  · exact hk.stream {} hp
  · exact hk.stream {} hp
  · exact hk.stream {} hp

theorem walk (limit : Nat) (way : WalkOver) (fuel : Nat) (tail : Option GapRecord) :
    p L (State.walk i limit way fuel s tail).1 := by
  induction fuel generalizing s tail with
  | zero => exact hp
  | succ n ih =>
    unfold State.walk
    split
    · next h =>
      have hin : (s.stream i).phase = .running .inSegment := by
        simp only [State.inSegment, Bool.and_eq_true, beq_iff_eq] at h
        exact h.1
      exact ih (hk.execEntry hp way tail hin) _
    · exact hp

theorem setExpected (n : Nat) : p L (s.setExpected i n) := hk.stream {} hp

theorem takeWords (first : Nat) (words : List SampleWord) : p L (s.takeWords i first words) :=
  hk.walk (hk.setExpected hp _) _ _ _ _

theorem dryWalk (limit : Nat) (isTail : Bool) : p L (s.dryWalk i limit isTail).1 := by
  unfold State.dryWalk
  generalize (if isTail = true then WalkOver.tail else WalkOver.gap) = way
  have hwalk := hk.walk (i := i) hp limit way Config.walkFuel none
  dsimp only
  split
  · exact hk.setExpected hwalk _
  · exact hwalk

theorem takeSamples (first : Nat) (words : List SampleWord) (h : (s.stream i).phase = .running .inSegment) :
    p L (s.takeSamples i first words).1 := by
  unfold State.takeSamples
  dsimp only
  split
  · exact hp
  · split
    · exact hk.takeWords hp _ _
    · split
      · split
        · split
          · exact hk.takeWords (hk.dryWalk hp _ _) _ _
          · exact hk.dryWalk hp _ _
        · split
          · exact hk.takeWords hp _ _
          · exact hp
      · exact hk.endSegment hp _ _ (by simp [h])

theorem takeSegmentEnd (final : Nat) (h : (s.stream i).phase = .running .inSegment) :
    p L (s.takeSegmentEnd i final) := by
  have hphase : ∀ {t : State}, t.inSegment i = true → (t.stream i).phase ≠ .closing false := by
    intro t ht
    simp only [State.inSegment, beq_iff_eq] at ht
    simp [ht]
  unfold State.takeSegmentEnd
  dsimp only
  split
  · split
    · split
      · next hin => exact hk.endSegment (hk.dryWalk hp _ _) _ _ (hphase hin)
      · exact hk.dryWalk hp _ _
    · split
      · next hin => exact hk.endSegment hp _ _ (hphase hin)
      · exact hp
  · exact hk.endSegment hp _ _ (by simp [h])

/-! ## The life of a run -/

theorem beginSegment (segment : BitVec 32) (t0 : BitVec 64) (period : BitVec 32)
    (h : (s.stream i).phase ≠ .closing false) : p L (s.beginSegment i segment t0 period) := by
  unfold State.beginSegment
  exact hk.stream { ok := fun _ hok => ⟨fun e => ⟨rfl, (hok.1 e).2⟩, hok.2⟩, phase := .inr (.inl h) } hp

theorem enterRunning (late : Bool) (segment : BitVec 32) (t0 : BitVec 64) (period : BitVec 32)
    (h : (s.stream i).phase ≠ .closing false) : p L (s.enterRunning i late segment t0 period) := by
  unfold State.enterRunning
  refine hk.judgeFor (hk.beginSegment (hk.stream ?_ hp) _ _ _ (by simpa using h)) i
  exact {}

theorem takeArmedStart (arming : Arming) (segment : BitVec 32) (t0 : BitVec 64) (period : BitVec 32)
    (h : (s.stream i).phase ≠ .closing false) : p L (s.takeArmedStart i arming segment t0 period) := by
  unfold State.takeArmedStart
  split
  · exact hk.enterRunning hp _ _ _ _ h
  · dsimp only
    split
    · have hput : p L (s.setGroup (s.stream i).cfg.group
          { s.group (s.stream i).cfg.group with startSegment := some segment }) := hk.group rfl (fun hg => hg) hp
      exact hk.enterRunning hput _ _ _ _ (by simpa using h)
    · split
      · exact hp
      · exact hk.enterRunning hp _ _ _ _ h

theorem startRun (arming : Arming) (h : (s.stream i).phase ≠ .closing false) : p L (s.startRun i arming) := by
  unfold State.startRun
  exact hk.stream { ok := fun _ hok => ⟨hok.1, fun e => by simp [Stream.lossy, Stream.started] at e⟩
                    phase := .inr (.inl h) } hp

theorem endRun (h : strict → (s.stream i).phase = .closing false ∧ i ∉ s.spill.endWaits)
    (hw : (s.stream i).window = none) : p L (s.endRun i) := by
  unfold State.endRun
  split
  · exact hk.closeOpen _ _ (fun _ => hw) hp
  · next ho =>
    have ho' : (s.stream i).openBlock = none := by simpa using ho
    split
    · next ha =>
      obtain ⟨-, -, hself, hwaits, -⟩ := State.allocate_some ha
      refine hk.openEndBlock (State.allocate_record ha) rfl rfl (fun hs => ⟨?_, ?_⟩) (fun _ => ?_) (hk.allocate ha hp)
      · simp [hself, ho']
      · rw [hwaits]
        exact (h hs).2
      · simp [hself, hw]
    · exact hk.wait (fun hs => ⟨(h hs).1, ho', (h hs).2⟩) hp

theorem closeRun (h : (s.stream i).phase ≠ .closing false) : p L (s.closeRun i) := by
  have hwaits : strict → i ∉ s.spill.endWaits := fun hs hi => h ((hk.consistent hp hs).2.2.2 i hi).1
  unfold State.closeRun
  dsimp only
  refine hk.endRun (hk.emitPartial (hk.judgeFor (hk.stream { phase := .inr (.inl h) } hp) i) i) (fun hs => ?_) (by simp)
  simpa using hwaits hs

end

end Kept

end Sys2Proof.Machine
end

section
/-! PROOFS. Commits, returns and aborts: what the freeing of a slot leaves alone, and what the way of a slot through them
keeps. -/

-- One theorem at a time: the stacks of a thread each would exceed the memory of the check.
set_option Elab.async false

namespace Sys2Proof.Machine

open Sys2Proof.Safety

namespace State

variable {s : State} {i j : StreamId}

/-! ## What the freeing of a slot leaves alone -/

/-- R130: whether the block of a held slot carries the aborted mark. -/
def abortedIn (s : State) (n : Nat) : Bool := (s.slotRecord n).any fun r => r.aborted

@[simp] theorem openEndBlock_stream_phase (slot : Nat) :
    ((s.openEndBlock i slot).stream j).phase = (s.stream j).phase := by
  by_cases h : j = i
  · subst h; simp [openEndBlock]
  · rw [openEndBlock_stream_other _ _ _ h]

@[simp] theorem occupancyUp_stream_phase : ((s.occupancyUp i).stream j).phase = (s.stream j).phase := by
  by_cases h : j = i
  · subst h; simp [occupancyUp]
  · rw [occupancyUp_stream_other _ _ h]

@[simp] theorem occupancyDown_stream_phase : ((s.occupancyDown i).stream j).phase = (s.stream j).phase := by
  by_cases h : j = i
  · subst h; simp [occupancyDown]
  · rw [occupancyDown_stream_other _ _ h]

@[simp] theorem freeSlot_stream_phase (n : Nat) : ((s.freeSlot n).stream j).phase = (s.stream j).phase := by
  unfold freeSlot
  split
  · rfl
  · dsimp only
    unfold placeFreed
    split <;> simp

theorem foldl_freeSlot_stream_phase (l : List Nat) :
    ((l.foldl freeSlot s).stream j).phase = (s.stream j).phase := by
  induction l generalizing s with
  | nil => rfl
  | cons n l ih => rw [List.foldl_cons, ih, freeSlot_stream_phase]

theorem changeRecord_slotRecord (n m : Nat) (f : SlotRecord → SlotRecord) :
    (s.changeRecord n f).slotRecord m = if m = n then (s.slotRecord n).map f else s.slotRecord m := by
  unfold changeRecord
  split
  · next r h =>
    simp only [putRecord, slotRecord, setSpill, SlotMap.find_put]
    split
    · next e => simp only [slotRecord] at h; simp [h]
    · rfl
  · next h =>
    split
    · next e => subst e; simp [h]
    · rfl

theorem putRecord_slotRecord (n m : Nat) (r : SlotRecord) :
    (s.putRecord n r).slotRecord m = if m = n then some r else s.slotRecord m := SlotMap.find_put _ _ _ _

@[simp] theorem writeLines_slotRecord (n l : Nat) (bs : List Byte) (m : Nat) :
    (s.writeLines n l bs).slotRecord m = s.slotRecord m := rfl

@[simp] theorem raise_slotRecord (e : EventPair) (m : Nat) : (s.raise e).slotRecord m = s.slotRecord m := by
  simp [slotRecord]

@[simp] theorem beginVerifies_slotRecord (n m : Nat) : (s.beginVerifies n).slotRecord m = s.slotRecord m := rfl

@[simp] theorem verifiesGone_slotRecord (n m : Nat) : (s.verifiesGone n).slotRecord m = s.slotRecord m := by
  simp [slotRecord]

@[simp] theorem leaveLossy_slotRecord (m : Nat) : (s.leaveLossy i).slotRecord m = s.slotRecord m := by
  simp [slotRecord]

@[simp] theorem occupancyUp_slotRecord (m : Nat) : (s.occupancyUp i).slotRecord m = s.slotRecord m := rfl

@[simp] theorem occupancyDown_slotRecord (m : Nat) : (s.occupancyDown i).slotRecord m = s.slotRecord m := rfl

theorem openIn_slotRecord {n m : Nat} (g : Option GapSection) (k : Nat) (b : Bool) (h : m ≠ n) :
    (s.openIn i n g k b).slotRecord m = s.slotRecord m := by
  unfold openIn
  dsimp only
  split <;> simp [changeRecord_slotRecord, h]

theorem openCarrying_slotRecord {n m : Nat} (k : Nat) (b : Bool) (h : m ≠ n) :
    (s.openCarrying i n k b).slotRecord m = s.slotRecord m := by
  unfold openCarrying
  dsimp only
  split <;> simp [openIn_slotRecord _ _ _ h]

/-- R71: the close of a block changes its own slot's record. -/
theorem closeOpen_slotRecord {m : Nat} (f : BitVec 16) (t : Option GapSection)
    (h : (s.stream i).openBlock.map OpenBlock.slot ≠ some m) :
    (s.closeOpen i f t).slotRecord m = s.slotRecord m := by
  unfold closeOpen
  dsimp only
  split
  · rfl
  · next b hb =>
    have hm : m ≠ b.slot := fun e => h (by simp [hb, e])
    simp [changeRecord_slotRecord, hm]

theorem openEndBlock_slotRecord {n m : Nat} (h : m ≠ n) : (s.openEndBlock i n).slotRecord m = s.slotRecord m := by
  unfold openEndBlock
  rw [closeOpen_slotRecord, openCarrying_slotRecord _ _ h]
  simp [openCarrying_stream_self, openedStream, newBlock, Ne.symm h]

/-- R86: the freeing of a slot changes its own record. -/
theorem freeSlot_slotRecord {n m : Nat} (h : m ≠ n) : (s.freeSlot n).slotRecord m = s.slotRecord m := by
  unfold freeSlot
  split
  · rfl
  · dsimp only
    unfold placeFreed
    split
    · simp [slotRecord, SlotMap.find_erase_other _ h]
    · rw [openEndBlock_slotRecord h, occupancyUp_slotRecord, putRecord_slotRecord, if_neg h]
      simp [slotRecord, SlotMap.find_erase_other _ h]

@[simp] theorem enterIdle_slotRecord (b : Bool) (m : Nat) : (s.enterIdle i b).slotRecord m = s.slotRecord m := rfl

/-- R130: what returns to its queue keeps its aborted mark. -/
theorem requeue_abortedIn (n : Nat) : (s.requeue n).abortedIn = s.abortedIn := by
  funext m
  unfold requeue
  split
  · rfl
  · next r hr =>
    split
    · rfl
    · next ha =>
      unfold abortedIn
      rw [putRecord_slotRecord]
      split
      · next e => subst e; simp [hr]
      · rfl

/-- R12, R101: the end of a stream's operations leaves slots, streams and transmitter alone. -/
theorem foldl_abandonRead_induction {α : Type} (f : State → α) (h : ∀ t n, f (abandonRead t n) = f t) (l : List Nat) :
    f (l.foldl abandonRead s) = f s := by
  induction l generalizing s with
  | nil => rfl
  | cons n l ih => rw [List.foldl_cons, ih, h]

@[simp] theorem abortOps_stream : (s.abortOps i).stream j = s.stream j :=
  foldl_abandonRead_induction (fun t => t.stream j) (fun t n => by simp) _

@[simp] theorem abortOps_alt : (s.abortOps i).alt = s.alt :=
  foldl_abandonRead_induction (fun t => t.alt) (fun t n => t.abandonRead_alt n) _

@[simp] theorem abortOps_spill : (s.abortOps i).spill = s.spill :=
  foldl_abandonRead_induction (fun t => t.spill) (fun _ _ => rfl) _

theorem stagedFor_abortOps : (s.abortOps i).stagedFor j = s.stagedFor j := by
  unfold stagedFor slotRecord
  rw [abortOps_alt, abortOps_spill]

/-- R130: the slots that a return concerns. -/
theorem heldByLink_eq : s.heldByLink = s.alt.outstanding.map SentBlock.slot ++
    (s.alt.sending.map SendingBlock.slot).toList ++ (s.alt.staged.map StagedBlock.slot).toList := by
  unfold heldByLink
  cases s.alt.sending <;> cases s.alt.staged <;> simp

/-- R12: the slots that ABORT gives back. -/
theorem abortedSlots_eq : s.abortedSlots i = s.stagedFor i ++ (s.stream i).sendQueue ++
    ((s.stream i).openBlock.map OpenBlock.slot).toList := by
  unfold abortedSlots
  cases (s.stream i).openBlock <;> simp

@[simp] theorem abandonSend_staged : s.abandonSend.alt.staged = s.alt.staged := by
  unfold abandonSend
  split
  · rfl
  · dsimp only
    split <;> simp

@[simp] theorem abandonSend_outstanding : s.abandonSend.alt.outstanding = s.alt.outstanding := by
  unfold abandonSend
  split
  · rfl
  · dsimp only
    split <;> simp

@[simp] theorem dropStaged_outstanding : s.dropStaged.alt.outstanding = s.alt.outstanding := by
  unfold dropStaged
  split
  · rfl
  · dsimp only
    split <;> simp

theorem foldl_requeue_abortedIn (l : List Nat) : (l.foldl requeue s).abortedIn = s.abortedIn := by
  induction l generalizing s with
  | nil => rfl
  | cons n l ih => rw [List.foldl_cons, ih, requeue_abortedIn]

@[simp] theorem dropStaged_stream : s.dropStaged.stream j = s.stream j := by
  unfold dropStaged
  split
  · rfl
  · dsimp only
    split <;> simp

/-- R12: the state in which ABORT of a stream has dropped all that the stream holds, its slots not yet freed. -/
def abortHeld (s : State) (i : StreamId) : State :=
  let s := s.abortOps i
  let s := if (s.stagedFor i).isEmpty then s else s.dropStaged
  let s := s.setSpill { s.spill with endWaits := s.spill.endWaits.filter fun j => j != i }
  ((s.setStream i { (s.stream i).dropped with phase := .closing true }).judgeFor i).markAborted i

theorem dropStaged_sending : s.dropStaged.alt.sending = s.alt.sending := by
  unfold dropStaged
  split
  · rfl
  · dsimp only
    split <;> simp

theorem dropStaged_slotRecord (n : Nat) : s.dropStaged.slotRecord n = s.slotRecord n := by
  unfold dropStaged
  split
  · rfl
  · dsimp only
    split <;> simp [slotRecord]

theorem sendsFor_congr {t : State} (hsend : t.alt.sending = s.alt.sending)
    (hrec : ∀ n, t.slotRecord n = s.slotRecord n) : t.sendsFor i = s.sendsFor i := by
  unfold sendsFor
  rw [hsend]
  cases s.alt.sending with
  | none => rfl
  | some b => simp only [hrec]

theorem abortRun_eq : s.abortRun i = if s.sendsFor i then (s.abortedSlots i).foldl freeSlot (s.abortHeld i)
    else ((s.abortedSlots i).foldl freeSlot (s.abortHeld i)).enterIdle i true := by
  have hbusy : (if ((s.abortOps i).stagedFor i).isEmpty then s.abortOps i else (s.abortOps i).dropStaged).sendsFor i =
      s.sendsFor i := by
    refine sendsFor_congr ?_ fun n => ?_
    · split <;> simp [dropStaged_sending]
    · split
      · simp [slotRecord]
      · rw [dropStaged_slotRecord]; simp [slotRecord]
  unfold abortRun
  dsimp only
  rw [hbusy]
  rfl

end State

namespace Kept

variable {c : Instr} {strict : Prop} {p : List Nat → State → Prop} {L : List Nat} {s : State} {i : StreamId}

section
variable (hk : Kept c strict p)
include hk

/-! ## Commits -/

theorem foldl_freeSlot (l : List Nat) (hp : p (l ++ L) s) : p L (l.foldl State.freeSlot s) := by
  induction l generalizing s with
  | nil => exact hp
  | cons n l ih => exact ih (hk.freeSlot hp)

theorem reportCommit (r : SlotRecord) (hp : p L s) : p L (s.reportCommit r) := by
  unfold State.reportCommit
  split
  · exact hp
  · refine hk.testRunEnd (hk.stream ?_ hp) _
    exact {}

theorem commitHead (hp : p L s) : p L s.commitHead := by
  unfold State.commitHead
  split
  · exact hp
  · next b rest ho =>
    have hlift := hk.liftHead ho hp
    dsimp only
    split
    · exact hk.freeSlot (hk.reportCommit _ hlift)
    · exact hk.freeSlot hlift

theorem commitMany (n : Nat) (hp : p L s) : p L (s.commitMany n) := by
  unfold State.commitMany
  induction n generalizing s with
  | zero => exact hp
  | succ n ih => exact hk.commitHead (ih hp)

theorem accepted (hp : p L s) : p L (s.setAlt s.alt.accepted) := hk.alt {} hp

theorem addCredits (k : Nat) (hp : p L s) (h : s.alt.outstanding.length ≤ 64) : p L (s.setAlt (s.alt.addCredits k)) :=
  hk.alt { credits := .inr (by simp only [Transmitter.addCredits, Config.creditLimit]; omega) } hp

theorem acceptCommit (n : Nat) (hp : p L s) : p L (s.acceptCommit n) := hk.accepted (hk.commitMany _ hp)

/-! ## Returns -/

theorem abandonSend (hp : p L s) : p ((s.alt.sending.map SendingBlock.slot).toList ++ L) s.abandonSend := by
  unfold State.abandonSend
  split
  · next h => simpa [h] using hp
  · next b h =>
    have hb : (s.alt.sending.map SendingBlock.slot).toList = [b.slot] := by simp [h]
    rw [hb]
    dsimp only
    split
    · exact hk.liftSending h hp
    · exact hk.liftSending (b := b) h (hk.own _ hp)

theorem dropStaged (hp : p L s) : p ((s.alt.staged.map StagedBlock.slot).toList ++ L) s.dropStaged := by
  unfold State.dropStaged
  split
  · next h => simpa [h] using hp
  · next b h =>
    have hb : (s.alt.staged.map StagedBlock.slot).toList = [b.slot] := by simp [h]
    rw [hb]
    dsimp only
    split
    · exact hk.liftStaged h hp
    · exact hk.liftStaged (b := b) (by simpa using h) (hk.abandonRead hp _)

theorem dropOutstanding (hp : p L s) :
    p (s.alt.outstanding.map SentBlock.slot ++ L) (s.setAlt { s.alt with outstanding := [] }) := by
  generalize h : s.alt.outstanding = l
  induction l generalizing s L with
  | nil =>
    have hsame : s.setAlt { s.alt with outstanding := [] } = s := by rw [← h]; rfl
    rw [hsame]
    exact hp
  | cons b l ih =>
    have hrest := ih (hk.liftHead h hp) rfl
    exact hk.perm (by simp) hrest

/-- The slots without the aborted mark return to their queues; the others stay in flight. -/
theorem foldl_requeue (l : List Nat) (hp : p (l ++ L) s) : p (l.filter s.abortedIn ++ L) (l.foldl State.requeue s) := by
  induction l generalizing s L with
  | nil => exact hp
  | cons n l ih =>
    rw [List.foldl_cons]
    cases hr : s.slotRecord n with
    | none =>
      rcases hk.flight with hany | hheld
      · exact hany _ _ _ (ih (hk.perm (by rfl) (hany _ (l ++ L) _ (by simpa [State.requeue, hr] using hp))))
      · have := (hheld _ _ hp).2 n (by simp)
        simp only [State.slotRecord] at hr
        simp [Held, hr] at this
    | some r =>
      cases ha : r.aborted with
      | true =>
        have hstay : s.requeue n = s := by simp [State.requeue, hr, ha]
        have hn : s.abortedIn n = true := by simp [State.abortedIn, hr, ha]
        rw [hstay, List.filter_cons, if_pos hn]
        exact hk.perm List.perm_middle (ih (hk.perm (List.perm_middle.symm) hp))
      | false =>
        have hn : ¬ s.abortedIn n = true := by simp [State.abortedIn, hr, ha]
        rw [List.filter_cons, if_neg hn, ← s.requeue_abortedIn n]
        exact ih (hk.requeue hr ha hp)

/-- The slots with the aborted mark are freed. -/
theorem foldl_freeIfAborted (sending : Option Nat) (l : List Nat) (hp : p (l.filter s.abortedIn ++ L) s) :
    p L (l.foldl (State.freeIfAborted sending) s) := by
  induction l generalizing s with
  | nil => exact hp
  | cons n l ih =>
    rw [List.foldl_cons]
    apply ih
    cases hr : s.slotRecord n with
    | none => simpa [State.freeIfAborted, hr, State.abortedIn] using hp
    | some r =>
      cases ha : r.aborted with
      | false => simpa [State.freeIfAborted, hr, ha, State.abortedIn] using hp
      | true =>
        have hn : s.abortedIn n = true := by simp [State.abortedIn, hr, ha]
        rw [List.filter_cons, if_pos hn] at hp
        have hfree := hk.freeSlot hp
        have hfilter : p (l.filter (s.freeSlot n).abortedIn ++ L) (s.freeSlot n) := by
          rcases hk.flight with hany | hheld
          · exact hany _ _ _ hfree
          · have hout : n ∉ l.filter s.abortedIn := fun e =>
              (List.nodup_cons.1 (hheld _ _ hp).1).1 (List.mem_append_left _ e)
            have hsame : l.filter (s.freeSlot n).abortedIn = l.filter s.abortedIn := by
              refine List.filter_congr fun m hm => ?_
              have hmn : m ≠ n := fun e => hout (List.mem_filter.2 ⟨e ▸ hm, hn⟩)
              simp only [State.abortedIn, State.freeSlot_slotRecord hmn]
            rw [hsame]
            exact hfree
        simp only [State.freeIfAborted, hr, ha, if_true]
        split
        · next h =>
          refine hk.enterIdle hfilter _ _ (.inl ?_)
          simp only [Bool.and_eq_true, beq_iff_eq] at h
          simp [h.2]
        · exact hfilter

theorem returnAll (hp : p L s) : p L s.returnAll := by
  have hdrop := hk.dropOutstanding (hk.dropStaged (hk.abandonSend hp))
  rw [State.dropStaged_outstanding, State.abandonSend_outstanding, State.abandonSend_staged] at hdrop
  have hheld : p (s.heldByLink ++ L) ((s.abandonSend.dropStaged).setAlt
      { (s.abandonSend.dropStaged).alt with outstanding := [] }) := by
    refine hk.perm ?_ hdrop
    rw [State.heldByLink_eq, List.append_assoc, List.append_assoc]
    refine List.Perm.append_left _ ?_
    rw [← List.append_assoc, ← List.append_assoc]
    exact List.perm_append_comm.append_right L
  have hqueued := hk.foldl_requeue s.heldByLink.reverse
    (hk.perm ((List.reverse_perm s.heldByLink).symm.append_right L) hheld)
  rw [List.filter_reverse] at hqueued
  refine hk.foldl_freeIfAborted _ _ (hk.perm (List.Perm.append_right L ?_) hqueued)
  rw [State.foldl_requeue_abortedIn]
  exact List.reverse_perm _

/-! ## Aborts -/

theorem abortOps (i : StreamId) (hp : p L s) : p L (s.abortOps i) := hk.mapOps (hk.foldl_abandonRead hp _) _

theorem dropStagedFor (i : StreamId) (hp : p L s) :
    p (s.stagedFor i ++ L) (if (s.stagedFor i).isEmpty then s else s.dropStaged) := by
  split
  · next h => simpa [List.isEmpty_iff.1 h] using hp
  · next h =>
    have hslot : s.stagedFor i = (s.alt.staged.map StagedBlock.slot).toList := by
      rw [List.isEmpty_iff] at h
      revert h
      unfold State.stagedFor
      cases s.alt.staged with
      | none => simp
      | some b =>
        dsimp only
        split
        · exact fun _ => rfl
        · simp
    rw [hslot]
    exact hk.dropStaged hp

theorem abortHeld (i : StreamId) (hp : p L s) : p (s.abortedSlots i ++ L) (s.abortHeld i) := by
  have hstaged := hk.dropStagedFor i (hk.abortOps i hp)
  rw [State.stagedFor_abortOps] at hstaged
  have hself : (if (s.stagedFor i).isEmpty then s.abortOps i else (s.abortOps i).dropStaged).stream i = s.stream i := by
    split <;> simp
  unfold State.abortHeld
  dsimp only
  rw [State.stagedFor_abortOps]
  revert hstaged hself
  generalize (if (s.stagedFor i).isEmpty then s.abortOps i else (s.abortOps i).dropStaged) = t
  intro hstaged hself
  have hlift := hk.markAborted i (hk.judgeFor (hk.liftStream (i := i) (by simp) (hk.unwait i hstaged)) i)
  refine hk.perm ?_ hlift
  rw [State.setSpill_stream, hself, State.abortedSlots_eq, ← List.append_assoc, List.append_assoc (s.stagedFor i)]
  exact List.perm_append_comm.append_right L

theorem abortRun (i : StreamId) (hp : p L s) : p L (s.abortRun i) := by
  have hfree := hk.foldl_freeSlot _ (hk.abortHeld i hp)
  rw [State.abortRun_eq]
  split
  · exact hfree
  · refine hk.enterIdle hfree i true (.inl ?_)
    rw [State.foldl_freeSlot_stream_phase]
    simp [State.abortHeld]

end

end Kept

end Sys2Proof.Machine
end

section
/-! PROOFS. The effects of the directives, the fan-out of the capture frames and the transmitter's events keep what the
writes and the operations on slots that they are made of keep. -/

-- One theorem at a time: the stacks of a thread each would exceed the memory of the check.
set_option Elab.async false

namespace Sys2Proof.Machine

open Sys2Proof.Safety

@[simp] theorem State.noteRead_alt (s : State) (slot : Nat) (r : ReadResult) : (s.noteRead slot r).alt = s.alt := rfl

theorem State.endReport_report (s : State) (e : Ending) : (s.endReport e).report = s.report := by
  unfold endReport
  split <;> rfl

theorem State.endReport_enabled (s : State) (e : Ending) : (s.endReport e).enabled = s.enabled := by
  unfold endReport
  split <;> rfl

theorem Group.started_exclusive (x : Group) : GroupExclusive x.started :=
  ⟨by simp [Group.started, Timer.isRunning], fun _ => ⟨rfl, rfl⟩⟩

/-- R107: a timer that has run out runs. -/
theorem Timer.isRunning_of_ranOut {t : Timer} (h : t.ranOut = true) : t.isRunning = true := by
  cases t with
  | stopped => simp [Timer.ranOut] at h
  | running n => rfl

theorem Timer.eq_stopped_iff {t : Timer} : t = .stopped ↔ ¬ t.isRunning = true := by
  cases t <;> simp [Timer.isRunning]

/-- R107: beside the over-timer that expires no other timer runs. -/
theorem Group.overExpired_exclusive {x : Group} (hrun : x.overTimer.isRunning = true) (h : GroupExclusive x) :
    GroupExclusive x.overExpired := by
  obtain ⟨hboth, hhold⟩ := h
  have hsettle : ¬ x.settleTimer.isRunning = true := fun e => hboth ⟨hrun, e⟩
  have hoff : ¬ x.holdOffTimer.isRunning = true := fun e => Timer.eq_stopped_iff.1 (hhold e).1 hrun
  exact ⟨fun e => hsettle e.2, fun e => absurd e hoff⟩

/-- R108: beside the settle-timer that expires no other timer runs. -/
theorem Group.settleExpired_exclusive {x : Group} (hrun : x.settleTimer.isRunning = true) (h : GroupExclusive x) :
    GroupExclusive x.settleExpired := by
  obtain ⟨hboth, hhold⟩ := h
  have hover : ¬ x.overTimer.isRunning = true := fun e => hboth ⟨e, hrun⟩
  have hoff : ¬ x.holdOffTimer.isRunning = true := fun e => Timer.eq_stopped_iff.1 (hhold e).2 hrun
  exact ⟨fun e => hover e.1, fun e => absurd e hoff⟩

namespace Kept

variable {c : Instr} {strict : Prop} {p : List Nat → State → Prop} {L : List Nat} {s : State} {i : StreamId}

section
variable (hk : Kept c strict p)
include hk

/-! ## What every directive shares -/

theorem directive (hp : p L s) {code : Byte} {d : Directive} {ok : Bool} {effect : State × Reply}
    (heffect : p L effect.1) : p L (s.directive code d ok effect) := by
  unfold State.directive
  split
  · exact hp
  · split
    · exact hk.respond hp _ _ _ _
    · exact hk.respond heffect _ _ _ _

omit hk in
theorem withStream (hp : p L s) {bs : List Byte} {f : StreamId → State × Reply} (hf : ∀ i, p L (f i).1) :
    p L (Machine.withStream bs s f).1 := by
  unfold Machine.withStream
  split
  · exact hf _
  · exact hp

omit hk in
theorem withGroup (hp : p L s) {bs : List Byte} {f : GroupId → State × Reply} (hf : ∀ g, p L (f g).1) :
    p L (Machine.withGroup bs s f).1 := by
  unfold Machine.withGroup
  split
  · exact hf _
  · exact hp

/-! ## Configuration directives -/

theorem setEngineEffect {d : Directive} (hc : c = .setEngine d) (bs : List Byte) (hp : p L s) :
    p L (Machine.setEngineEffect bs s).1 := by
  unfold Machine.setEngineEffect
  split
  · split
    · exact hp
    · next strictMode loopback _ _ hidle =>
      refine hk.engine _ _ _ ⟨d, hc⟩ (fun hne => ?_) hp
      simp only [Bool.and_eq_true, bne_iff_ne, Bool.not_eq_true', not_and, Bool.not_eq_false] at hidle
      exact List.isEmpty_iff.1 (hidle hne).2
  · exact hp

theorem foldl_withdrawSpan (first n : Nat) (l : List StreamId) (hp : p L s) :
    p L (l.foldl (State.withdrawSpan first n) s) := by
  induction l generalizing s with
  | nil => exact hp
  | cons i l ih =>
    refine ih ?_
    unfold State.withdrawSpan
    split
    · exact hk.stream {} hp
    · exact hp

theorem writeLayoutEffect {d : Directive} (hc : c = .writeLayout d) (bs : List Byte) (hp : p L s) :
    p L (Machine.writeLayoutEffect bs s).1 := by
  unfold Machine.writeLayoutEffect
  dsimp only
  split
  · exact hp
  · split
    · exact hp
    · split
      · exact hp
      · split
        · exact hp
        · dsimp only
          exact hk.foldl_withdrawSpan _ _ _ (hk.layout _ ⟨d, hc⟩ hp)

theorem configureStreamEffect {d : Directive} (hc : c = .configureStream d) (bs : List Byte) (hp : p L s) :
    p L (Machine.configureStreamEffect bs s).1 := by
  unfold Machine.configureStreamEffect
  split
  · next i cfg hi hcfg =>
    unfold configureChecked
    dsimp only
    split
    · exact hp
    · split
      · exact hp
      · split
        · exact hp
        · exact hk.configure _ _ ⟨d, hc⟩ hcfg hp
  · exact hp

theorem configureGroupEffect {d : Directive} (hc : c = .configureGroup d) (bs : List Byte) (hp : p L s) :
    p L (Machine.configureGroupEffect bs s).1 := by
  unfold Machine.configureGroupEffect
  split
  · exact hp
  · split
    · exact hk.configureGroup _ _ ⟨d, hc⟩ hp
    · exact hp

/-! ## Operation directives -/

theorem startStreamEffect (i : StreamId) (hp : p L s) : p L (Machine.startStreamEffect i s).1 := by
  unfold Machine.startStreamEffect
  split
  · next h =>
    refine hk.startRun hp _ fun e => ?_
    simp [Stream.startable, e] at h
  · exact hp

theorem foldl_startRun (arming : Arming) (l : List StreamId) (hl : ∀ i ∈ l, (s.stream i).phase ≠ .closing false)
    (hp : p L s) : p L (l.foldl (fun s i => s.startRun i arming) s) := by
  induction l generalizing s with
  | nil => exact hp
  | cons i l ih =>
    refine ih (fun j hj => ?_) (hk.startRun hp _ (hl i (by simp)))
    by_cases hji : j = i
    · subst hji
      simp [State.startRun, Stream.started]
    · unfold State.startRun
      rw [State.setStream_stream_other s _ hji]
      exact hl j (by simp [hj])

theorem startGroupEffect (g : GroupId) (hp : p L s) : p L (Machine.startGroupEffect g s).1 := by
  unfold Machine.startGroupEffect
  dsimp only
  split
  · exact hp
  · refine hk.judge (hk.group (by rfl) (fun _ => Group.started_exclusive _)
      (hk.foldl_startRun .group _ (fun i hi e => ?_) hp)) g
    have hstart := (List.mem_filter.1 hi).2
    simp [Stream.startable, e] at hstart

theorem closeStreamEffect (i : StreamId) (d : Directive) (hp : p L s) : p L (Machine.closeStreamEffect i d s).1 := by
  unfold Machine.closeStreamEffect
  split
  · exact hp
  · exact hp
  · next h => exact hk.enterIdle hp _ _ (.inl (by simp [h]))
  · next h =>
    split
    · exact hp
    · next hroom =>
      refine hk.closeRun (hk.enterOp hp _ _ (by simpa using hroom)) ?_
      have hphase : ((s.enterOp d (.close i)).stream i).phase = (s.stream i).phase := rfl
      rw [hphase, h]
      simp

theorem foldl_closeMember (l : List StreamId) (hp : p L s) : p L (l.foldl State.closeMember s) := by
  induction l generalizing s with
  | nil => exact hp
  | cons i l ih =>
    refine ih ?_
    unfold State.closeMember
    split
    · next h => exact hk.enterIdle hp _ _ (.inl (by simp [h]))
    · next h => exact hk.closeRun hp (by simp [h])
    · exact hp

theorem closeGroupEffect (g : GroupId) (d : Directive) (hp : p L s) : p L (Machine.closeGroupEffect g d s).1 := by
  unfold Machine.closeGroupEffect
  dsimp only
  split
  · exact hk.foldl_closeMember _ hp
  · split
    · exact hp
    · next hroom => exact hk.foldl_closeMember _ (hk.enterOp hp _ _ (by simpa using hroom))

theorem abortStreamEffect (i : StreamId) (hp : p L s) : p L (Machine.abortStreamEffect i s).1 := by
  unfold Machine.abortStreamEffect
  refine hk.settleOps ?_
  split
  · exact hp
  · exact hp
  · next h => exact hk.enterIdle hp _ _ (.inl (by simp [h]))
  · exact hk.abortRun _ hp
  · exact hk.abortRun _ hp

theorem flushStreamEffect (i : StreamId) (hp : p L s) : p L (Machine.flushStreamEffect i s).1 := by
  unfold Machine.flushStreamEffect
  split
  · split
    · next b hb =>
      refine hk.closeShort (fun e => ?_) hp
      simp [Stream.flushable, e] at hb
    · exact hp
  · exact hp

theorem amendOpen (i : StreamId) (slot : Nat) (word : Fin 4) (value : BitVec 32) (hp : p L s) :
    p L (s.amendOpen i slot word value) := by
  unfold State.amendOpen
  dsimp only
  split
  · exact hp
  · next b hb =>
    refine hk.writeLines _ _ _ (hk.stream { slot := by simp [hb], ok := fun _ hok => ⟨fun e => ?_, fun e => ?_⟩ } hp)
    · simp at e
    · have := (hok.2 e).1
      simp [hb] at this

theorem staleStaged (slot : Nat) (hp : p L s) : p L (s.staleStaged slot) := by
  unfold State.staleStaged
  split
  · exact hp
  · next b hb =>
    split
    · exact hp
    · split
      · exact hk.alt { staged := by simp [hb] } hp
      · exact hk.abandonRead hp _

theorem amendClosed (slot : Nat) (word : Fin 4) (value : BitVec 32) (checks : List LineCheck) (hp : p L s) :
    p L (Machine.amendClosed s slot word value checks).1 := by
  unfold Machine.amendClosed
  dsimp only
  split
  · exact hk.staleStaged _ (hk.abandonVerifies (hk.writeLines _ _ _ (hk.noteRead hp _ _)) _)
  · exact hk.noteRead hp _ _

theorem amendEffect (i : StreamId) (seq : BitVec 32) (word : Fin 4) (value : BitVec 32) (checks : List LineCheck)
    (hp : p L s) : p L (Machine.amendEffect i seq word value checks s).1 := by
  unfold Machine.amendEffect
  split
  · exact hp
  · split
    · exact hk.amendOpen _ _ _ _ hp
    · exact hk.amendClosed _ _ _ _ hp
    · exact hk.amendClosed _ _ _ _ hp
    · exact hp
    · exact hp

theorem verifyEffect (i : StreamId) (seq : BitVec 32) (d : Directive) (hp : p L s) :
    p L (Machine.verifyEffect i seq d s).1 := by
  unfold Machine.verifyEffect
  split
  · exact hp
  · split
    · exact hp
    · next hroom => exact hk.enterOp hp _ _ (by simpa using hroom)

/-! ## Capture link intake -/

omit hk in
theorem fanOut (source : Byte) {offer : State → StreamId → State × Disposal}
    (hoffer : ∀ t i, p L t → p L (offer t i).1) (hp : p L s) : p L (s.fanOut source offer).1 := by
  unfold State.fanOut
  refine List.foldlRecOn (motive := fun acc : State × List Disposal => p L acc.1) streamIds _ hp fun acc hacc i _ => ?_
  dsimp only
  split
  · exact hoffer _ _ hacc
  · exact hacc

theorem intake (source : Byte) (shapeOk samples : Bool) {offer : State → StreamId → State × Disposal}
    (hoffer : ∀ t i, p L t → p L (offer t i).1) (hp : p L s) : p L (s.intake source shapeOk samples offer) := by
  have hfan := fanOut source hoffer hp
  unfold State.intake
  split
  · exact hp
  · split
    · exact hk.countBad hp
    · revert hfan
      generalize s.fanOut source offer = r
      exact fun hfan => hk.countIntake hfan _ _ _

omit hk in
theorem ofSegment (i : StreamId) (segment : BitVec 32) {take : State × Disposal}
    (htake : (s.stream i).phase = .running .inSegment → p L take.1) (hp : p L s) :
    p L (s.ofSegment i segment take).1 := by
  unfold State.ofSegment
  split
  · next h =>
    split
    · exact htake h
    · exact hp
  · exact hp
  · exact hp

theorem offerSegmentStart (segment : BitVec 32) (t0 : BitVec 64) (period : BitVec 32) (hp : p L s) :
    p L (State.offerSegmentStart segment t0 period s i).1 := by
  unfold State.offerSegmentStart
  split
  · next h => exact hk.takeArmedStart hp _ _ _ _ (by simp [h])
  · next h =>
    refine hk.beginSegment (hk.endSegment hp _ _ (by simp [h])) _ _ _ ?_
    simp [State.endSegment]
  · next h => exact hk.beginSegment hp _ _ _ (by simp [h])
  · exact hp

theorem resynced (index time : Nat) (hp : p L s) : p L (s.setStream i ((s.stream i).resynced index time)) := by
  unfold Stream.resynced
  split
  · exact hk.stream {} hp
  · exact hk.stream {} hp

theorem cutLane (hp : p L s) : p L s.cutLane := by
  have hend := hk.endReport hp .cutOff
  unfold State.cutLane
  dsimp only
  split
  · next e _ _ =>
    refine hk.report ?_ hend
    unfold State.putBack
    split
    · next h =>
      simp only [Bool.and_eq_true, Bool.not_eq_true', List.contains_eq_mem, decide_eq_false_iff_not] at h
      refine { nodup := fun hn => ?_, enabled := fun x hx => ?_ }
      · rw [State.endReport_report] at hn
        exact List.nodup_cons.2 ⟨h.2, hn⟩
      · rw [State.endReport_report, State.endReport_enabled]
        rcases List.mem_cons.1 hx with hx | hx
        · exact .inr (hx ▸ h.1)
        · exact .inl hx
    · exact { nodup := fun hn => by simpa [State.endReport_report] using hn
              enabled := fun x hx => .inl (by simpa [State.endReport_report] using hx) }
  · exact hk.report {} hend

/-! ## The archive link and the transmitter -/

theorem credited (k : Nat) (hp : p L s) : p L (s.setAlt (s.alt.addCredits k)) := by
  by_cases h : s.alt.outstanding.length ≤ 64
  · exact hk.addCredits k hp h
  · refine hk.alt { credits := .inl ?_ } hp
    simp only [Transmitter.addCredits, Config.creditLimit]
    omega

theorem acceptRewind (n : Nat) (hp : p L s) : p L (s.acceptRewind n) :=
  hk.settleOps (hk.accepted (hk.credited 0 (hk.returnAll (hk.commitMany n hp))))

theorem linkDown (hp : p L s) (t : State) (ht : execLinkDown s = .next t) : p L t := by
  obtain rfl := Host.Outcome.next.inj ht
  have hsync : p L (s.setAlt { s.alt with archiveSync := false }) := hk.alt {} hp
  dsimp only
  split
  · exact hsync
  · have hdown : p L ((s.setAlt { s.alt with archiveSync := false }).setAlt
        { (s.setAlt { s.alt with archiveSync := false }).alt with linkState := .down, credits := 0 }) :=
      hk.alt { credits := .inl (Nat.zero_le _) } hsync
    exact hk.settleOps (hk.raise (hk.restore hp (hk.alt {} (hk.returnAll hdown))) _)

theorem finishStaging (b : StagedBlock) (r : SlotRecord) (checks : List LineCheck) (hb : s.alt.staged = some b)
    (hp : p L s) : p L (s.finishStaging b r checks) := by
  unfold State.finishStaging
  dsimp only
  split
  · exact hk.alt { staged := by simp [hb] } (hk.noteRead hp _ _)
  · refine hk.alt { staged := by simp [State.markDamaged, hb] } ?_
    exact hk.raise (hk.abandonVerifies (hk.writeLines _ _ _ (hk.noteRead hp _ _)) _) _

theorem checkCommit (link : BitVec 32) (hp : p L s) : p L (s.checkCommit link) := by
  unfold State.checkCommit
  dsimp only
  refine hk.settleOps (hk.credited 1 ?_)
  split
  · exact hk.acceptCommit _ hp
  · exact hp

end

end Kept

end Sys2Proof.Machine
end

section
/-! PROOFS. Every command but the power-on reset runs to a next state, and keeps what every write and every operation on
slots keeps. -/

-- One theorem at a time: the stacks of a thread each would exceed the memory of the check.
set_option Elab.async false

namespace Sys2Proof.Machine

open Sys2Proof.Safety

/-- The answer of a meaning is a next state of which `q` holds. -/
def Reaches (q : State → Prop) (o : Answered) : Prop := ∃ t, o = .next t ∧ q t

theorem reaches_next {q : State → Prop} {t : State} (h : q t) : Reaches q (.next t) := ⟨t, rfl, h⟩

namespace Kept

variable {c : Instr} {strict : Prop} {p : List Nat → State → Prop} {L : List Nat} {s : State} {i : StreamId}

section
variable (hk : Kept c strict p) (hp : p L s)
include hk hp

/-! ## The queries and RESET ENGINE -/

theorem queryStream (d : Directive) : Reaches (p L) (execQueryStream d s) :=
  reaches_next (hk.directive hp (withStream hp fun _ => hp))

theorem queryGroup (d : Directive) : Reaches (p L) (execQueryGroup d s) :=
  reaches_next (hk.directive hp (withGroup hp fun _ => hp))

theorem clearCounts {d : Directive} (hc : c = .clearCounts d) : Reaches (p L) (execClearCounts d s) :=
  reaches_next (hk.directive hp (hk.counters (.inr ⟨d, hc⟩) hp))

omit hp in
theorem resetEngine {d : Directive} (hc : c = .resetEngine d) (hp : p [] s) : Reaches (p []) (execResetEngine d s) := by
  refine reaches_next ?_
  split
  · exact hp
  · split
    · exact hk.respond hp _ _ _ _
    · exact hk.offer (hk.resetBlocks ⟨d, hc⟩ hp) _

theorem unknownDirective (code : Byte) (d : Directive) : Reaches (p L) (execUnknownDirective code d s) := by
  refine reaches_next ?_
  split
  · exact hp
  · exact hk.respond hp _ _ _ _

theorem amend (d : Directive) (checks : List LineCheck) : Reaches (p L) (execAmend d checks s) := by
  refine reaches_next (hk.directive hp (withStream hp fun i => ?_))
  split
  · exact hk.amendEffect _ _ _ _ _ hp
  · exact hp

/-! ## The capture link -/

theorem badFrame (bytes : List Byte) : Reaches (p L) (execBadFrame bytes s) := by
  refine reaches_next ?_
  split
  · exact hk.countBad hp
  · exact hp

theorem samples (source : Byte) (segment : BitVec 32) (first : BitVec 48) (words : List SampleWord) :
    Reaches (p L) (execSamples source segment first words s) :=
  reaches_next (hk.intake _ _ _ (fun _ i ht => ofSegment i _ (fun h => hk.takeSamples ht _ _ h) ht) hp)

theorem segmentStart (source : Byte) (segment : BitVec 32) (t0 : BitVec 64) (period : BitVec 32) :
    Reaches (p L) (execSegmentStart source segment t0 period s) :=
  reaches_next (hk.intake _ _ _ (fun _ _ ht => hk.offerSegmentStart _ _ _ ht) hp)

theorem segmentEnd (source : Byte) (segment : BitVec 32) (final : BitVec 48) :
    Reaches (p L) (execSegmentEnd source segment final s) :=
  reaches_next (hk.intake _ _ _ (fun _ i ht => ofSegment i _ (fun h => hk.takeSegmentEnd ht _ h) ht) hp)

theorem resync (source : Byte) (segment : BitVec 32) (index time : BitVec 64) :
    Reaches (p L) (execResync source segment index time s) :=
  reaches_next (hk.intake _ _ _ (fun _ i ht => ofSegment i _ (fun _ => hk.resynced _ _ ht) ht) hp)

/-! ## The archive link -/

theorem linkUp : Reaches (p L) (execLinkUp s) := by
  refine reaches_next ?_
  have hsync : p L (s.setAlt { s.alt with archiveSync := true }) := hk.alt {} hp
  split
  · exact hsync
  · exact hk.raise (hk.alt {} hsync) _

theorem credit (count : Byte) : Reaches (p L) (execCredit count s) := by
  refine reaches_next ?_
  split
  · exact hp
  · split
    · exact hk.credited _ hp
    · exact hk.violation hp

theorem commit (link : BitVec 32) : Reaches (p L) (execCommit link s) := by
  refine reaches_next ?_
  split
  · exact hp
  · split
    · exact hk.settleOps (hk.acceptCommit _ hp)
    · exact hp
    · exact hk.violation hp
    · exact hk.violation hp

theorem rewind (link : BitVec 32) : Reaches (p L) (execRewind link s) := by
  refine reaches_next ?_
  split
  · exact hp
  · split
    · exact hk.acceptRewind _ hp
    · exact hk.acceptRewind _ hp
    · exact hk.violation hp
    · exact hk.violation hp

theorem protocolViolation (bytes : List Byte) : Reaches (p L) (execProtocolViolation bytes s) := by
  refine reaches_next ?_
  split
  · exact hk.violation hp
  · exact hp

/-! ## The timers -/

theorem interimTimerExpiry (i : StreamId) : Reaches (p L) (execInterimTimerExpiry i s) := by
  refine reaches_next ?_
  split
  · exact hp
  · split
    · next b hb =>
      split
      · exact hk.closeShort (by simp [hb]) hp
      · exact hk.stream { ok := fun _ hok => ⟨fun e => absurd e (by simp [hb]), hok.2⟩ } hp
    · exact hp

theorem overTimerExpiry (g : GroupId) : Reaches (p L) (execOverTimerExpiry g s) := by
  refine reaches_next ?_
  split
  · next h => exact hk.group (by rfl) (Group.overExpired_exclusive (Timer.isRunning_of_ranOut h)) hp
  · exact hp

theorem settleTimerExpiry (g : GroupId) : Reaches (p L) (execSettleTimerExpiry g s) := by
  refine reaches_next ?_
  split
  · next h => exact hk.group (by rfl) (Group.settleExpired_exclusive (Timer.isRunning_of_ranOut h)) hp
  · exact hp

theorem holdOffTimerExpiry (g : GroupId) : Reaches (p L) (execHoldOffTimerExpiry g s) := by
  refine reaches_next ?_
  split
  · have hstopped : p L (s.setGroup g { s.group g with holdOffTimer := .stopped }) :=
      hk.group (by rfl) (fun h => ⟨h.1, fun e => by simp [Timer.isRunning] at e⟩) hp
    exact hk.judge hstopped g
  · exact hp

theorem commitTimerExpiry : Reaches (p L) (execCommitTimerExpiry s) := by
  refine reaches_next ?_
  have hexpired : p L (s.setAlt { s.alt with commitTimer := .expired }) := hk.alt {} hp
  split
  · exact hp
  · split
    · exact hk.raise (hk.alt {} hexpired) _
    · exact hexpired

/-! ## The transmitter, the checker and the return lane -/

theorem arbiterGrant : Reaches (p L) (execArbiterGrant s) := by
  refine reaches_next ?_
  split
  · exact hp
  · next hmay =>
    split
    · exact hp
    · split
      · refine hk.grantTo _ _ _ ?_ hp
        simp only [State.mayGrant, Bool.not_eq_true', Bool.not_eq_false, Bool.and_eq_true, Option.isNone_iff_eq_none] at hmay
        exact hmay.1.1
      · exact hp

theorem stagingDone (checks : List LineCheck) : Reaches (p L) (execStagingDone checks s) := by
  refine reaches_next ?_
  split
  · next b hb =>
    split
    · exact hp
    · split
      · exact hk.finishStaging _ _ _ hb hp
      · exact hp
  · exact hp

theorem moveToSending : Reaches (p L) (execMoveToSending s) := by
  refine reaches_next ?_
  split
  · exact hp
  · next hmay =>
    simp only [State.mayMove, Bool.not_eq_true', Bool.not_eq_false, Bool.and_eq_true, Option.isNone_iff_eq_none,
      decide_eq_true_eq] at hmay
    obtain ⟨⟨⟨-, hsending⟩, hcredits⟩, -⟩ := hmay
    split
    · next b hb =>
      dsimp only
      rw [State.changeRecord_alt]
      exact hk.move hb hsending hcredits hp
    · exact hp

theorem sendDone : Reaches (p L) (execSendDone s) := by
  refine reaches_next ?_
  split
  · exact hp
  · next b hb =>
    have hsent := hk.sent s.settings.loopback hb hp
    have hout : p L (if s.settings.loopback then
        (s.changeRecord b.slot fun r => { r with place := .outstanding }).setAlt
          (State.sentAlt s.alt b s.settings.loopback)
      else ((s.changeRecord b.slot fun r => { r with place := .outstanding }).setAlt
          (State.sentAlt s.alt b s.settings.loopback)).setOwn
        { s.own with archiveOut := s.own.archiveOut ++ [⟨b.link, b.bytes, .complete⟩] }) := by
      split
      · exact hsent
      · exact hk.own _ hsent
    dsimp only
    rw [State.changeRecord_alt]
    simp only [State.setAlt_own, State.changeRecord_own]
    generalize (if s.settings.loopback = true then _ else _) = u at hout ⊢
    split
    · split
      · next h => exact hk.settleOps (hk.enterIdle hout _ _ (.inl (by rw [eq_of_beq h]; simp)))
      · exact hout
    · exact hout

theorem checkDone : Reaches (p L) (execCheckDone s) := by
  refine reaches_next ?_
  split
  · exact hp
  · next x rest _ =>
    have hchecked : p L (s.setAlt { s.alt with
        checking := rest, checkRecords := State.checkedRecords s.alt x.bytes }) := hk.alt {} hp
    refine hk.checkCommit _ ?_
    dsimp only
    split
    · exact hchecked
    · exact hk.checkFailed hchecked

theorem verifyReadEnd (position : Nat) (checks : List LineCheck) : Reaches (p L) (execVerifyReadEnd position checks s) := by
  refine reaches_next ?_
  split
  · split
    · exact hk.settleOps (hk.ops (by simp) (hk.noteRead hp _ _))
    · exact hp
  · exact hp

theorem reportSendBegin : Reaches (p L) (execReportSendBegin s) := by
  refine reaches_next ?_
  split
  · exact hp
  · split
    · exact hk.report {} hp
    · split
      · next e rest he =>
        exact hk.report { nodup := fun h => (List.nodup_cons.1 (he ▸ h)).2
                          enabled := fun x hx => .inl (he ▸ List.mem_cons_of_mem _ hx) } hp
      · exact hp

theorem reportSendDone : Reaches (p L) (execReportSendDone s) := by
  refine reaches_next ?_
  have hend := hk.endReport hp .complete
  split
  · exact hp
  · exact hk.report { fifo := by simp } hend
  · exact hk.report {} hend

end

/-- A command other than the power-on reset runs to a next state, and keeps what every write and every operation on slots
keeps. -/
theorem exec (hk : Kept c strict p) (hc : c ≠ .powerOn) (hp : p [] s) : Reaches (p []) (Machine.exec c s) := by
  cases c with
  | powerOn => exact absurd rfl hc
  | setEngine d => exact reaches_next (hk.directive hp (hk.setEngineEffect rfl _ hp))
  | setLink d => exact reaches_next (hk.directive hp (hk.timeout _ ⟨d, rfl⟩ hp))
  | writeLayout d => exact reaches_next (hk.directive hp (hk.writeLayoutEffect rfl _ hp))
  | configureStream d => exact reaches_next (hk.directive hp (hk.configureStreamEffect rfl _ hp))
  | configureGroup d => exact reaches_next (hk.directive hp (hk.configureGroupEffect rfl _ hp))
  | startStream d => exact reaches_next (hk.directive hp (withStream hp fun i => hk.startStreamEffect i hp))
  | startGroup d => exact reaches_next (hk.directive hp (withGroup hp fun g => hk.startGroupEffect g hp))
  | closeStream d => exact reaches_next (hk.directive hp (withStream hp fun i => hk.closeStreamEffect i d hp))
  | closeGroup d => exact reaches_next (hk.directive hp (withGroup hp fun g => hk.closeGroupEffect g d hp))
  | abortStream d => exact reaches_next (hk.directive hp (withStream hp fun i => hk.abortStreamEffect i hp))
  | flushStream d => exact reaches_next (hk.directive hp (withStream hp fun i => hk.flushStreamEffect i hp))
  | amend d checks => exact hk.amend hp d checks
  | verify d => exact reaches_next (hk.directive hp (withStream hp fun i => hk.verifyEffect i _ d hp))
  | queryStream d => exact hk.queryStream hp d
  | queryGroup d => exact hk.queryGroup hp d
  | queryLink d => exact reaches_next (hk.directive hp hp)
  | clearCounts d => exact hk.clearCounts hp rfl
  | resetEngine d => exact hk.resetEngine rfl hp
  | unknownDirective code d => exact hk.unknownDirective hp code d
  | badFrame bytes => exact hk.badFrame hp bytes
  | samples source segment first words => exact hk.samples hp source segment first words
  | segmentStart source segment t0 period => exact hk.segmentStart hp source segment t0 period
  | segmentEnd source segment final => exact hk.segmentEnd hp source segment final
  | resync source segment index time => exact hk.resync hp source segment index time
  | captureSyncLoss => exact reaches_next (hk.receiver _ (hk.cutLane hp))
  | captureSyncGain => exact reaches_next (hk.receiver _ hp)
  | linkUp => exact hk.linkUp hp
  | linkDown => exact reaches_next (hk.linkDown hp _ rfl)
  | credit count => exact hk.credit hp count
  | commit link => exact hk.commit hp link
  | rewind link => exact hk.rewind hp link
  | protocolViolation bytes => exact hk.protocolViolation hp bytes
  | interimTimerExpiry i => exact hk.interimTimerExpiry hp i
  | overTimerExpiry g => exact hk.overTimerExpiry hp g
  | settleTimerExpiry g => exact hk.settleTimerExpiry hp g
  | holdOffTimerExpiry g => exact hk.holdOffTimerExpiry hp g
  | commitTimerExpiry => exact hk.commitTimerExpiry hp
  | arbiterGrant => exact hk.arbiterGrant hp
  | stagingDone checks => exact hk.stagingDone hp checks
  | moveToSending => exact hk.moveToSending hp
  | sendDone => exact hk.sendDone hp
  | checkDone => exact hk.checkDone hp
  | verifyReadEnd position checks => exact hk.verifyReadEnd hp position checks
  | reportSendBegin => exact hk.reportSendBegin hp
  | reportSendDone => exact hk.reportSendDone hp

end Kept

end Sys2Proof.Machine
end

section
/-! PROOFS. A condition that the writes of the state keep one by one, wherever the slots stand, every step keeps. -/

-- One theorem at a time: the stacks of a thread each would exceed the memory of the check.
set_option Elab.async false

namespace Sys2Proof.Machine

open Sys2Proof.Safety

/-- A write of the transmitter that gives no link sequence: blocks may leave it. -/
structure Transmitter.Lighter (t u : Transmitter) : Prop where
  outstanding : u.outstanding <:+ t.outstanding := by exact List.suffix_rfl
  nextLink : u.nextLink = t.nextLink := by rfl
  commitTimeout : u.commitTimeout = t.commitTimeout := by rfl
  sending : u.sending = t.sending ∨ u.sending = none := by exact .inl rfl
  credits : u.credits ≤ t.credits ∨ u.outstanding.length + u.credits ≤ 64 := by exact .inl (Nat.le_refl _)

/-- `q` is kept by each write that the meaning of the command `c` makes. -/
structure Respects (c : Instr) (q : State → Prop) : Prop where
  report : ∀ {s x}, ReportWithin s x → q s → q (s.setReport x) := by exact fun _ h => h
  ops : ∀ {s} {x : List PendingOp}, x.length ≤ max 4 s.ops.length → q s → q (s.setOps x) := by exact fun _ h => h
  group : ∀ {s g x}, groupSettings x = groupSettings (s.group g) → (GroupExclusive (s.group g) → GroupExclusive x) →
    q s → q (s.setGroup g x) := by exact fun _ _ h => h
  counters : ∀ {s x}, (CountersAtMost s.counters x ∨ ∃ d, c = .clearCounts d) → q s → q (s.setCounters x) := by
    exact fun _ h => h
  restore : ∀ {s t}, q s → q t → q (t.setCounters s.counters) := by exact fun _ h => h
  own : ∀ {s} x, q s → q (s.setOwn x) := by exact fun _ h => h
  receiver : ∀ {s} x, q s → q (s.setReceiver x) := by exact fun _ h => h
  stream : ∀ {s i x}, x.cfg = (s.stream i).cfg → q s → q (s.setStream i x) := by exact fun _ h => h
  spill : ∀ {s x}, x.dram = s.spill.dram → q s → q (s.setSpill x) := by exact fun _ h => h
  writeLines : ∀ {s} slot line bs, q s → q (s.writeLines slot line bs) := by exact fun _ _ _ h => h
  alt : ∀ {s x}, s.alt.Lighter x → q s → q (s.setAlt x) := by exact fun _ h => h
  move : ∀ {s} b bs, s.alt.sending = none → 0 < s.alt.credits → q s →
    q (s.setAlt { s.alt with staged := none, sending := some ⟨b, s.alt.nextLink, bs⟩ }) := by exact fun _ _ _ _ h => h
  sent : ∀ {s b} loopback, s.alt.sending = some b → q s → q (s.setAlt (State.sentAlt s.alt b loopback)) := by
    exact fun _ _ h => h
  engine : ∀ {s} strictMode loopback mask, (∃ d, c = .setEngine d) →
    (loopback ≠ s.settings.loopback → s.alt.outstanding = []) → q s →
    q (((s.setAlt (s.alt.withLoopback s.settings.loopback loopback)).setSettings
      ⟨strictMode, loopback, mask⟩).dropDisabled EventPair.isLink) := by exact fun _ _ _ _ _ h => h
  timeout : ∀ {s} n, (∃ d, c = .setLink d) → q s → q (s.setAlt { s.alt with commitTimeout := clampTo 1000 10000000 n }) := by
    exact fun _ _ h => h
  layout : ∀ {s} x, (∃ d, c = .writeLayout d) → q s → q (s.setLayout x) := by exact fun _ _ h => h
  configure : ∀ {s} i {bs cfg} e, (∃ d, c = .configureStream d) → streamConfigOf bs = some cfg → q s →
    q ((s.setStream i ((s.stream i).configured cfg e)).dropDisabled (EventPair.isOf i)) := by
    exact fun _ _ _ _ _ _ h => h
  configureGroup : ∀ {s} g bs, (∃ d, c = .configureGroup d) → q s → q (s.setGroup g ((s.group g).configured bs)) := by
    exact fun _ _ _ h => h
  resetBlocks : ∀ {s}, (∃ d, c = .resetEngine d) → q s → q s.resetBlocks

namespace Respects

variable {c : Instr} {q : State → Prop} {s : State} {i : StreamId}

theorem writes (hr : Respects c q) : Writes c False fun _ => q where
  report := hr.report
  ops := hr.ops
  group := hr.group
  counters := hr.counters
  restore := hr.restore
  own := hr.own
  receiver := hr.receiver
  alt h := hr.alt
    { outstanding := h.outstanding ▸ List.suffix_rfl
      nextLink := h.nextLink
      commitTimeout := h.commitTimeout
      sending := .inl h.sending
      credits := h.credits }
  badLines _ := hr.spill rfl
  writeLines := hr.writeLines
  stream h := hr.stream h.cfg
  record _ _ _ := hr.spill rfl

section
variable (hr : Respects c q)
include hr

theorem raise (e : EventPair) (h : q s) : q (s.raise e) := hr.writes.raise (L := []) h e

theorem changeRecord (n : Nat) (f : SlotRecord → SlotRecord) (h : q s) : q (s.changeRecord n f) := by
  unfold State.changeRecord
  split
  · exact hr.spill rfl h
  · exact h

theorem occupancyUp (i : StreamId) (h : q s) : q (s.occupancyUp i) :=
  hr.writes.judgeFor (L := []) (hr.stream (by rfl) h) i

theorem allocate {t : State} {ordinary : Bool} {slot : Nat} (ha : s.allocate i ordinary = some (slot, t)) (h : q s) :
    q t := by
  unfold State.allocate at ha
  split at ha
  · cases ha
  · split at ha
    · cases ha
    · next rest _ _ =>
      cases ha
      have htaken : q (s.setSpill { s.spill with freeList := rest }) := hr.spill rfl h
      have hrecorded : q ((s.setSpill { s.spill with freeList := rest }).putRecord slot (s.newRecord i)) :=
        hr.spill rfl htaken
      exact hr.occupancyUp i hrecorded

theorem openIn (slot : Nat) (gap : Option GapSection) (n : Nat) (timed : Bool) (h : q s) :
    q (s.openIn i slot gap n timed) := by
  have hopen : q (s.setStream i (State.openedStream (s.stream i) (State.newBlock (s.stream i) i slot gap n) timed)) :=
    hr.stream rfl h
  unfold State.openIn
  dsimp only
  split
  · exact hr.raise _ (hr.writeLines _ _ _ (hr.changeRecord _ _ hopen))
  · exact hr.writeLines _ _ _ (hr.changeRecord _ _ hopen)

theorem closeOpen (flags : BitVec 16) (tail : Option GapSection) (h : q s) : q (s.closeOpen i flags tail) := by
  unfold State.closeOpen
  dsimp only
  split
  · exact h
  · refine hr.writes.mapOps (L := []) (hr.stream ?_ (hr.changeRecord _ _ (hr.writeLines _ _ _ h))) _
    simp

theorem openCarrying (slot n : Nat) (timed : Bool) (h : q s) : q (s.openCarrying i slot n timed) := by
  unfold State.openCarrying
  dsimp only
  refine hr.openIn _ _ _ _ (hr.stream (by rfl) ?_)
  split
  · exact hr.raise _ (hr.stream (by rfl) h)
  · exact h

theorem openEndBlock (slot : Nat) (h : q s) : q (s.openEndBlock i slot) :=
  hr.closeOpen _ _ (hr.openCarrying _ _ _ h)

theorem freeSlot (n : Nat) (h : q s) : q (s.freeSlot n) := by
  unfold State.freeSlot
  split
  · exact h
  · have hgone := hr.writes.verifiesGone (L := []) h n
    have hdown : ∀ j, q ((s.verifiesGone n).occupancyDown j) := fun j =>
      hr.writes.judgeFor (L := []) (hr.stream (by rfl) hgone) j
    have herased : ∀ j x, q (((s.verifiesGone n).occupancyDown j).setSpill { ((s.verifiesGone n).occupancyDown j).spill with
      slots := x }) := fun j x => hr.spill rfl (hdown j)
    dsimp only
    unfold State.placeFreed
    split
    · exact hr.spill rfl (herased _ _)
    · exact hr.openEndBlock _ (hr.occupancyUp _ (hr.spill rfl (hr.spill rfl (herased _ _))))

theorem closeShort (h : q s) : q (s.closeShort i) := by
  have hclosed := hr.closeOpen (i := i) Flag.short none h
  unfold State.closeShort
  dsimp only
  split
  · exact hclosed
  · split
    · next ha => exact hr.openCarrying _ _ _ (hr.allocate ha hclosed)
    · exact hr.raise _ (hr.stream (by rfl) (hr.stream (by rfl) hclosed))

theorem requeue (n : Nat) (h : q s) : q (s.requeue n) := by
  unfold State.requeue
  split
  · exact h
  · split
    · exact h
    · exact hr.spill rfl (hr.stream (by rfl) h)

theorem grantTo (cl : Fin 4) (p : Pointer) (h : q s) : q (s.grantTo cl i p) := by
  unfold State.grantTo
  dsimp only
  split
  · exact h
  · exact hr.alt {} (hr.changeRecord _ _ (hr.stream (by rfl) h))

theorem moved (b : StagedBlock) (f : SlotRecord → SlotRecord) (hs : s.alt.sending = none) (hc : 0 < s.alt.credits)
    (h : q s) : q ((s.changeRecord b.slot f).setAlt
      { s.alt with staged := none, sending := some ⟨b.slot, s.alt.nextLink, b.bytes⟩ }) := by
  have hmove := hr.move b.slot b.bytes (by rwa [State.changeRecord_alt]) (by rwa [State.changeRecord_alt])
    (hr.changeRecord b.slot f h)
  rwa [State.changeRecord_alt] at hmove

theorem sentOut {b : SendingBlock} (f : SlotRecord → SlotRecord) (loopback : Bool) (hs : s.alt.sending = some b)
    (h : q s) : q ((s.changeRecord b.slot f).setAlt (State.sentAlt s.alt b loopback)) := by
  have hsent := hr.sent loopback (by rwa [State.changeRecord_alt]) (hr.changeRecord b.slot f h)
  rwa [State.changeRecord_alt] at hsent

end

/-- What the writes keep, the operations on slots keep, which are made of them. -/
theorem kept (hr : Respects c q) : Kept c False fun _ => q where
  toWrites := hr.writes
  consistent _ h := h.elim
  flight := .inl fun _ _ _ h => h
  perm _ h := h
  markAborted _ := hr.spill rfl
  allocate := hr.allocate
  openIn _ _ _ _ _ _ _ := hr.openIn _ _ _ _
  closeOpen _ _ _ := hr.closeOpen _ _
  closeShort _ := hr.closeShort
  wait _ := hr.spill rfl
  unwait _ := hr.spill rfl
  freeSlot := hr.freeSlot _
  requeue _ _ := hr.requeue _
  liftStaged _ := hr.alt {}
  liftSending _ := hr.alt { sending := .inr rfl }
  liftHead h := hr.alt { outstanding := h ▸ List.suffix_cons _ _ }
  liftStream _ := hr.stream rfl
  grantTo _ _ _ _ := hr.grantTo _ _
  move _ := hr.moved _ _
  sent := hr.sentOut _
  engine := hr.engine
  timeout := hr.timeout
  layout := hr.layout
  configure := hr.configure
  configureGroup := hr.configureGroup
  resetBlocks := hr.resetBlocks

end Respects

/-- A step keeps what its command keeps, what the timebase keeps, and what power-on brings. -/
theorem Kept.step {strict : Prop} {p : List Nat → State → Prop} {s t : State} (hk : ∀ c, Kept c strict p)
    (hpending : ∀ {s : State} l, p [] s → p [] { s with pending := l })
    (htick : ∀ {s : State}, p [] s → p [] s.tick) 
    (hreset : ∀ {s : State}, p [] s → p [] { State.reset with own := s.own, pending := s.pending })
    (hp : p [] s) (h : Machine.step s = .next t) : p [] t := by
  unfold Machine.step at h
  split at h
  · exact Host.Outcome.next.inj h ▸ htick hp
  · next c rest _ =>
    by_cases hc : c = .powerOn
    · subst hc
      exact Host.Outcome.next.inj h ▸ hreset (hpending rest hp)
    · obtain ⟨u, hu, hkept⟩ := (hk c).exec hc (hpending rest hp)
      exact Host.Outcome.next.inj (hu.symm.trans h) ▸ hkept

end Sys2Proof.Machine
end

section
/-! PROOFS. The conditions that the writes keep one by one: credits and link sequences, report bounds and group timers, the
memory's form, the settings' ranges, the configuration and the counters. -/

-- One theorem at a time: the stacks of a thread each would exceed the memory of the check.
set_option Elab.async false

namespace Sys2Proof.Machine

open Sys2Proof.Safety

/-! ## RESET ENGINE and power-on -/

namespace State

theorem abandonSend_eq (s : State) : ∃ x, s.abandonSend = (s.setOwn x).setAlt { s.alt with sending := none } := by
  unfold abandonSend
  split
  · next h => exact ⟨s.own, by rw [← h]; rfl⟩
  · dsimp only
    split
    · exact ⟨s.own, rfl⟩
    · exact ⟨_, rfl⟩

theorem endReport_eq (s : State) (e : Ending) : ∃ x, s.endReport e = s.setOwn x := by
  unfold endReport
  split
  · exact ⟨s.own, rfl⟩
  · exact ⟨_, rfl⟩

/-- R161: RESET ENGINE's next state but for the model's own trace. -/
theorem resetBlocks_eq (s : State) : ∃ x, s.resetBlocks = { s with
    streams := s.streams.map fun x => Stream.cleared x.cfg x.span
    groups := s.groups.map Group.resetEngine
    counters := .zero
    ops := []
    spill := .allFree s.spill.dram s.spill.badLines
    alt := s.alt.resetEngine s.settings.loopback
    report := .empty
    own := x } := by
  obtain ⟨x, hx⟩ := s.abandonSend_eq
  obtain ⟨y, hy⟩ := s.abandonSend.endReport_eq .abandoned
  refine ⟨y, ?_⟩
  unfold resetBlocks
  dsimp only
  rw [hy, hx]
  rfl

theorem resetBlocks_stream (s : State) (i : StreamId) :
    s.resetBlocks.stream i = Stream.cleared (s.stream i).cfg (s.stream i).span := by
  obtain ⟨x, h⟩ := s.resetBlocks_eq
  rw [h]
  simp [stream]

theorem resetBlocks_group (s : State) (g : GroupId) : s.resetBlocks.group g = (s.group g).resetEngine := by
  obtain ⟨x, h⟩ := s.resetBlocks_eq
  rw [h]
  simp [group]

theorem resetBlocks_alt (s : State) : s.resetBlocks.alt = s.alt.resetEngine s.settings.loopback := by
  obtain ⟨x, h⟩ := s.resetBlocks_eq
  rw [h]

theorem resetBlocks_spill (s : State) : s.resetBlocks.spill = .allFree s.spill.dram s.spill.badLines := by
  obtain ⟨x, h⟩ := s.resetBlocks_eq
  rw [h]

theorem reset_stream (i : StreamId) : reset.stream i = Stream.cleared (.powerOn i) none := by
  simp [reset, stream]

theorem reset_group (g : GroupId) : reset.group g = .powerOn := by
  simp [reset, group]

theorem tick_stream (s : State) (i : StreamId) :
    s.tick.stream i = { s.stream i with interimTimer := (s.stream i).interimTimer.tick } := by
  simp [tick, stream]

theorem tick_group (s : State) (g : GroupId) : s.tick.group g = { s.group g with
    overTimer := (s.group g).overTimer.tick
    settleTimer := (s.group g).settleTimer.tick
    holdOffTimer := (s.group g).holdOffTimer.tick } := by
  simp [tick, group]

end State

theorem Transmitter.withLoopback_commitTimeout (t : Transmitter) (old new : Bool) :
    (t.withLoopback old new).commitTimeout = t.commitTimeout := by
  unfold withLoopback
  split
  · rfl
  · split <;> rfl

theorem Transmitter.withLoopback_outstanding (t : Transmitter) (old new : Bool) :
    (t.withLoopback old new).outstanding = t.outstanding := by
  unfold withLoopback
  split
  · rfl
  · split <;> rfl

theorem Transmitter.withLoopback_nextLink (t : Transmitter) (old new : Bool) :
    (t.withLoopback old new).nextLink = t.nextLink := by
  unfold withLoopback
  split
  · rfl
  · split <;> rfl

theorem Transmitter.withLoopback_sending (t : Transmitter) (old new : Bool) :
    (t.withLoopback old new).sending = t.sending := by
  unfold withLoopback
  split
  · rfl
  · split <;> rfl

/-! ## Credits and link sequences -/

theorem creditsBounded_iff (s : State) : CreditsBounded s ↔
    s.alt.outstanding.length + s.alt.credits ≤ 64 ∧
      s.alt.outstanding.length + (if s.alt.sending.isSome then 1 else 0) ≤ 64 := by
  unfold CreditsBounded
  omega

theorem creditsBounded_respected (c : Instr) : Respects c CreditsBounded where
  alt {s x} h hs := by
    rw [creditsBounded_iff] at hs ⊢
    have hlen := h.outstanding.length_le
    rw [State.setAlt_alt]
    constructor
    · rcases h.credits with hc | hc <;> omega
    · rcases h.sending with e | e <;> simp only [e]
      · omega
      · simp
        omega
  move _ _ _ hc hs := by
    rw [creditsBounded_iff] at hs ⊢
    simp
    omega
  sent {s b} _ hb hs := by
    rw [creditsBounded_iff] at hs ⊢
    simp [State.sentAlt, hb] at hs ⊢
    omega
  engine {s} strict loopback mask _ hnone hs := by
    unfold CreditsBounded at hs ⊢
    by_cases h : loopback = s.settings.loopback
    · simpa [State.dropDisabled, Transmitter.withLoopback, h] using hs
    · have hout := hnone h
      have hne : ¬ s.settings.loopback = loopback := fun e => h e.symm
      simp only [State.dropDisabled, State.setReport_alt, State.setSettings_alt, State.setAlt_alt,
        Transmitter.withLoopback_outstanding, Transmitter.withLoopback_sending, hout]
      simp only [Transmitter.withLoopback, if_neg hne]
      split <;> split <;> simp [Transmitter.enterLoopback, Transmitter.leaveLoopback, Config.creditLimit]
  resetBlocks {s} _ _ := by
    unfold CreditsBounded
    rw [State.resetBlocks_alt]
    simp only [Transmitter.resetEngine, Transmitter.powerOn]
    split <;> simp [Config.creditLimit]

/-- R121: the link sequences of an outstanding list of a length, before a next link sequence. -/
def linksBefore (next : BitVec 32) (n : Nat) : List (BitVec 32) :=
  (List.range n).map fun k => next - BitVec.ofNat 32 n + BitVec.ofNat 32 k

theorem linksBefore_drop (next : BitVec 32) (n m : Nat) :
    (linksBefore next (n + m)).drop n = linksBefore next m := by
  refine List.ext_getElem (by simp [linksBefore]) fun k _ _ => ?_
  simp only [linksBefore, List.getElem_drop, List.getElem_map, List.getElem_range, BitVec.ofNat_add]
  ring

theorem linksBefore_succ (next : BitVec 32) (n : Nat) :
    linksBefore (next + 1) (n + 1) = linksBefore next n ++ [next] := by
  simp only [linksBefore, List.range_succ, List.map_append, List.map_cons, List.map_nil, BitVec.ofNat_add,
    BitVec.ofNat_eq_ofNat]
  congr 1
  · refine List.map_congr_left fun k _ => ?_
    ring
  · congr 1
    ring

theorem linkSequenced_iff (s : State) : LinkSequenced s ↔
    s.alt.outstanding.map SentBlock.link = linksBefore s.alt.nextLink s.alt.outstanding.length ∧
      ∀ b, s.alt.sending = some b → b.link = s.alt.nextLink := Iff.rfl

theorem linkSequenced_respected (c : Instr) : Respects c LinkSequenced where
  alt {s x} h hs := by
    rw [linkSequenced_iff] at hs ⊢
    obtain ⟨hlinks, hsending⟩ := hs
    simp only [State.setAlt_alt, h.nextLink]
    constructor
    · obtain ⟨l, hl⟩ := h.outstanding
      rw [← hl, List.length_append] at hlinks
      rw [← linksBefore_drop _ l.length, ← hlinks, ← List.map_drop, List.drop_left]
    · intro b hb
      rcases h.sending with e | e
      · exact hsending b (e ▸ hb)
      · rw [e] at hb
        cases hb
  move b bs _ _ hs := by
    obtain ⟨hlinks, -⟩ := hs
    exact ⟨hlinks, fun x hx => by cases hx; rfl⟩
  sent {s b} loopback hb hs := by
    rw [linkSequenced_iff] at hs ⊢
    obtain ⟨hlinks, hsending⟩ := hs
    refine ⟨?_, fun x hx => by simp [State.sentAlt] at hx⟩
    simp only [State.setAlt_alt, State.sentAlt, List.map_append, List.map_cons, List.map_nil, List.length_append,
      List.length_cons, List.length_nil, hlinks, hsending b hb]
    rw [linksBefore_succ]
  engine strict loopback mask _ _ hs := by
    rw [linkSequenced_iff] at hs ⊢
    simpa only [State.dropDisabled, State.setReport_alt, State.setSettings_alt, State.setAlt_alt,
      Transmitter.withLoopback_outstanding, Transmitter.withLoopback_sending, Transmitter.withLoopback_nextLink] using hs
  resetBlocks {s} _ _ := by
    rw [linkSequenced_iff, State.resetBlocks_alt]
    exact ⟨rfl, fun b hb => by cases hb⟩

/-! ## Report bounds and group timers -/

theorem enabled_setStream {s : State} {i : StreamId} {x : Stream} (h : x.cfg = (s.stream i).cfg) :
    (s.setStream i x).enabled = s.enabled := by
  funext e
  cases e with
  | link e => rfl
  | stream j e =>
    by_cases hj : j = i
    · subst hj; simp [State.enabled, h]
    · simp [State.enabled, State.setStream_stream_other _ _ hj]

/-- R2, R151: the pending set keeps its conditions where only events of the source that is purged lose their enable. -/
theorem dropDisabled_reportsBounded {s t : State} {source : EventPair → Bool} (hops : t.ops = s.ops)
    (hreport : t.report = s.report) (hother : ∀ e, source e = false → t.enabled e = s.enabled e)
    (hs : ReportsBounded s) : ReportsBounded (t.dropDisabled source) := by
  obtain ⟨hlen, hfifo, hnodup, henabled⟩ := hs
  simp only [ReportsBounded, State.dropDisabled, State.setReport_ops, State.setReport_report, hops, hreport]
  refine ⟨hlen, hfifo, hnodup.filter _, fun e he => ?_⟩
  obtain ⟨hmem, hkeep⟩ := List.mem_filter.1 he
  cases hsrc : source e with
  | true => simpa [hsrc] using hkeep
  | false => exact (hother e hsrc).trans (henabled e hmem)

theorem reportsBounded_respected (c : Instr) : Respects c ReportsBounded where
  report h hs := by
    obtain ⟨hlen, hfifo, hnodup, henabled⟩ := hs
    refine ⟨hlen, h.fifo.trans (by omega), h.nodup hnodup, fun e he => ?_⟩
    exact (h.enabled e he).elim (henabled e) id
  ops h hs := by
    obtain ⟨hlen, hrest⟩ := hs
    exact ⟨h.trans (by omega), hrest⟩
  stream h hs := by
    obtain ⟨hlen, hfifo, hnodup, henabled⟩ := hs
    exact ⟨hlen, hfifo, hnodup, fun e he => by rw [enabled_setStream h]; exact henabled e he⟩
  engine {s} strict loopback mask _ _ hs :=
    dropDisabled_reportsBounded (s := s) rfl rfl (fun e he => by cases e with
      | link e => cases he
      | stream j e => rfl) hs
  configure {s} i bs cfg n _ _ hs :=
    dropDisabled_reportsBounded (s := s) rfl rfl (fun e he => by cases e with
      | link e => rfl
      | stream j e =>
        have hj : j ≠ i := by simpa [EventPair.isOf] using he
        simp [State.enabled, State.setStream_stream_other _ _ hj]) hs
  resetBlocks {s} _ _ := by
    obtain ⟨x, h⟩ := s.resetBlocks_eq
    rw [h]
    exact ⟨Nat.zero_le _, Nat.zero_le _, List.nodup_nil, fun e he => by cases he⟩

theorem timersExclusive_iff (s : State) : TimersExclusive s ↔ ∀ g, GroupExclusive (s.group g) := Iff.rfl

theorem timersExclusive_setGroup {s : State} {g : GroupId} {x : Group}
    (hx : GroupExclusive (s.group g) → GroupExclusive x) (hs : TimersExclusive s) : TimersExclusive (s.setGroup g x) := by
  rw [timersExclusive_iff] at hs ⊢
  intro h
  by_cases hg : h = g
  · subst hg
    simpa using hx (hs h)
  · simpa [State.setGroup_group_other _ _ hg] using hs h

theorem timersExclusive_respected (c : Instr) : Respects c TimersExclusive where
  group _ hx := timersExclusive_setGroup hx
  configureGroup _ _ _ := timersExclusive_setGroup fun h => h
  resetBlocks {s} _ _ := by
    rw [timersExclusive_iff]
    intro g
    rw [State.resetBlocks_group]
    exact ⟨by simp [Group.resetEngine, Timer.isRunning], fun _ => ⟨rfl, rfl⟩⟩

/-! ## The memory's form and the settings' ranges -/

theorem memoryCanonical_respected (c : Instr) : Respects c MemoryCanonical where
  spill h hs := by
    unfold MemoryCanonical at hs ⊢
    rw [State.setSpill_spill, h]
    exact hs
  writeLines slot line bs hs := State.wf_writeLines hs slot line bs
  resetBlocks {s} _ hs := by
    unfold MemoryCanonical at hs ⊢
    rw [State.resetBlocks_spill]
    exact hs

theorem clampTo_bounds {low high : Nat} (h : low ≤ high) (n : Nat) : low ≤ clampTo low high n ∧ clampTo low high n ≤ high := by
  unfold clampTo
  omega

theorem clampKib_range (k : Nat) : clampKib k = 0 ∨ 4 ≤ clampKib k ∧ clampKib k ≤ 64 ∧ clampKib k % 4 = 0 := by
  unfold clampKib clampTo
  split
  · exact .inl rfl
  · right
    omega

theorem clampInterim_range (n : Nat) : clampInterim n = 0 ∨ 100 ≤ clampInterim n ∧ clampInterim n ≤ 1000000 := by
  unfold clampInterim
  split
  · exact .inl rfl
  · exact .inr (clampTo_bounds (by decide) n)

/-- R155: the configuration that CONFIGURE STREAM reads lies within its ranges. -/
theorem streamConfigOf_inRange {bs : List Byte} {cfg : StreamConfig} (h : streamConfigOf bs = some cfg) :
    StreamInRange cfg := by
  simp only [streamConfigOf, Option.bind_eq_bind, Option.bind_eq_some_iff, Option.pure_def, Option.some.injEq] at h
  obtain ⟨source, -, base, -, group, -, sign, -, mode, -, size, hsize, rfl⟩ := h
  obtain ⟨hq1, hq2⟩ := clampTo_bounds (low := 16) (high := 65536) (by decide) (field bs 15 4)
  obtain ⟨hh1, hh2⟩ := clampTo_bounds (low := 1) (high := clampTo 16 65536 (field bs 15 4)) (by omega) (field bs 19 4)
  obtain ⟨-, hl⟩ := clampTo_bounds (low := 0) (high := clampTo 1 (clampTo 16 65536 (field bs 15 4)) (field bs 19 4) - 1)
    (Nat.zero_le _) (field bs 23 4)
  obtain ⟨hb1, hb2⟩ := clampTo_bounds (low := 1) (high := 4096) (by decide) (field bs 9 2)
  refine ⟨?_, ?_, fun e => if_pos e, fun k hk => ?_, clampInterim_range _, hq1, hq2, hh1, hh2, ?_,
    clampTo_bounds (by decide) _⟩
  · dsimp only; split <;> omega
  · dsimp only; split <;> omega
  · have hkib : size = .kib (clampKib (field bs 7 2)) := by
      unfold blockSizeOf at hsize
      split at hsize
      · exact (Option.some.inj hsize).symm
      · split at hsize
        · cases Option.some.inj hsize
          cases hk
        · cases hsize
    cases hkib.symm.trans hk
    exact clampKib_range _
  · dsimp only; omega

theorem settingsInRange_respected (c : Instr) : Respects c SettingsInRange where
  group {s g x} h _ hs := by
    obtain ⟨hstream, hgroup, hlink⟩ := hs
    refine ⟨hstream, fun k => ?_, hlink⟩
    by_cases hk : k = g
    · subst hk
      simp only [groupSettings, Prod.mk.injEq] at h
      obtain ⟨-, h1, h2, h3⟩ := h
      simp only [State.setGroup_group_self, GroupInRange, h1, h2, h3]
      exact hgroup k
    · rw [State.setGroup_group_other _ _ hk]
      exact hgroup k
  stream {s i x} h hs := by
    obtain ⟨hstream, hrest⟩ := hs
    refine ⟨fun j => ?_, hrest⟩
    by_cases hj : j = i
    · subst hj
      rw [State.setStream_stream_self, h]
      exact hstream j
    · rw [State.setStream_stream_other _ _ hj]
      exact hstream j
  alt h hs := by
    obtain ⟨hstream, hgroup, hlink⟩ := hs
    refine ⟨hstream, hgroup, ?_⟩
    rw [State.setAlt_alt, h.commitTimeout]
    exact hlink
  engine strict loopback mask _ _ hs := by
    obtain ⟨hstream, hgroup, hlink⟩ := hs
    refine ⟨hstream, hgroup, ?_⟩
    simpa [State.dropDisabled, Transmitter.withLoopback_commitTimeout] using hlink
  timeout n _ hs := by
    obtain ⟨hstream, hgroup, -⟩ := hs
    exact ⟨hstream, hgroup, clampTo_bounds (by decide) n⟩
  configure {s} i bs cfg e _ hcfg hs := by
    obtain ⟨hstream, hrest⟩ := hs
    refine ⟨fun j => ?_, hrest⟩
    by_cases hj : j = i
    · subst hj
      simpa [State.dropDisabled, Stream.configured] using streamConfigOf_inRange hcfg
    · simpa [State.dropDisabled, State.setStream_stream_other _ _ hj] using hstream j
  configureGroup {s} g bs _ hs := by
    obtain ⟨hstream, hgroup, hlink⟩ := hs
    refine ⟨hstream, fun k => ?_, hlink⟩
    by_cases hk : k = g
    · subst hk
      obtain ⟨hw1, hw2⟩ := clampTo_bounds (low := 1000) (high := 10000000) (by decide) (field bs 2 4)
      obtain ⟨ht1, ht2⟩ := clampTo_bounds (low := 1000) (high := 60000000) (by decide) (field bs 6 4)
      rw [State.setGroup_group_self]
      exact ⟨hw1, hw2, ht1, ht2, Nat.min_le_left _ _⟩
    · rw [State.setGroup_group_other _ _ hk]
      exact hgroup k
  resetBlocks {s} _ hs := by
    obtain ⟨hstream, hgroup, hlink⟩ := hs
    refine ⟨fun i => ?_, fun g => ?_, ?_⟩
    · rw [State.resetBlocks_stream]; exact hstream i
    · rw [State.resetBlocks_group]; exact hgroup g
    · rw [State.resetBlocks_alt]; exact hlink

end Sys2Proof.Machine
end

section
/-! PROOFS. What every step keeps of credits, link sequences, reports, timers, memory and settings; and what only the
commands of its own writes. -/

-- One theorem at a time: the stacks of a thread each would exceed the memory of the check.
set_option Elab.async false

namespace Sys2Proof.Machine

open Sys2Proof.Safety

/-! ## The reset state -/

theorem reset_creditsBounded : CreditsBounded State.reset := by
  rw [creditsBounded_iff]
  decide

theorem reset_linkSequenced : LinkSequenced State.reset := ⟨rfl, fun _ h => by cases h⟩

theorem reset_reportsBounded : ReportsBounded State.reset :=
  ⟨Nat.zero_le _, Nat.zero_le _, List.nodup_nil, fun _ h => by cases h⟩

theorem reset_timersExclusive : TimersExclusive State.reset := fun g => by
  rw [State.reset_group]
  exact ⟨by simp [Group.powerOn, Timer.isRunning], fun _ => ⟨rfl, rfl⟩⟩

theorem reset_memoryCanonical : MemoryCanonical State.reset := by
  unfold MemoryCanonical
  decide

theorem powerOn_inRange (i : StreamId) : StreamInRange (.powerOn i) := by
  refine ⟨?_, ?_, fun _ => rfl, fun k h => .inr (by cases h; decide), .inl rfl, ?_, ?_, ?_, ?_, ?_, ?_, ?_⟩ <;>
    simp [StreamConfig.powerOn]

theorem reset_settingsInRange : SettingsInRange State.reset := by
  refine ⟨fun i => ?_, fun g => ?_, by decide, by decide⟩
  · rw [State.reset_stream]; exact powerOn_inRange i
  · rw [State.reset_group]; unfold GroupInRange; decide

theorem reset_slotsOf (i : StreamId) : slotsOf State.reset i = 0 := rfl

theorem reset_slotsPartitioned : SlotsPartitioned State.reset := by
  refine ⟨List.nodup_range', List.Pairwise.nil, fun n => ?_, fun n _ h => (nomatch h), fun i => ?_⟩
  · have hfree : n ∈ State.reset.spill.freeList ↔ n < 65536 := by
      show n ∈ List.range' 0 65536 ↔ _
      rw [List.mem_range'_1]
      omega
    rw [hfree]
    exact ⟨.inl, fun h => h.resolve_right fun e => by cases e⟩
  · rw [State.reset_stream]; rfl

theorem reset_assemblersConsistent : AssemblersConsistent State.reset := by
  refine ⟨fun i _ => ?_, fun i h => ?_, List.nodup_nil, fun i h => (nomatch h)⟩
  · rw [State.reset_stream]; exact ⟨rfl, rfl⟩
  · rw [State.reset_stream] at h; cases h

theorem reset_placesAgree : PlacesAgree State.reset := by
  refine ⟨fun n r h => (nomatch h), fun i n h => ?_, fun i b h => ?_, fun b h => (nomatch h), fun b h => (nomatch h),
    fun b h => (nomatch h), fun i => ?_, List.nodup_nil⟩
  · rw [State.reset_stream] at h; cases h
  · rw [State.reset_stream] at h; cases h
  · rw [State.reset_stream]; exact List.nodup_nil

/-! ## The timebase -/

theorem Timer.tick_isRunning (t : Timer) : t.tick.isRunning = t.isRunning := by
  cases t <;> rfl

theorem Group.tick_exclusive {s : State} {g : GroupId} (h : GroupExclusive (s.group g)) :
    GroupExclusive (s.tick.group g) := by
  simpa only [GroupExclusive, State.tick_group, Timer.eq_stopped_iff, Timer.tick_isRunning] using h

theorem State.tick_enabled (s : State) : s.tick.enabled = s.enabled := by
  funext e
  cases e with
  | link e => rfl
  | stream i e => simp [State.enabled, State.tick_stream]

theorem tick_reportsBounded {s : State} (h : ReportsBounded s) : ReportsBounded s.tick := by
  obtain ⟨hlen, hfifo, hnodup, henabled⟩ := h
  exact ⟨hlen, hfifo, hnodup, fun e he => by rw [State.tick_enabled]; exact henabled e he⟩

theorem tick_settingsInRange {s : State} (h : SettingsInRange s) : SettingsInRange s.tick := by
  obtain ⟨hstream, hgroup, hlink⟩ := h
  refine ⟨fun i => ?_, fun g => ?_, hlink⟩
  · rw [State.tick_stream]; exact hstream i
  · rw [State.tick_group]; exact hgroup g

/-! ## Every step -/

/-- A step keeps what the writes keep, the timebase keeps and the reset state meets. -/
theorem Respects.step {q : State → Prop} {s t : State} (hr : ∀ c, Respects c q)
    (hpending : ∀ {s : State} l, q s → q { s with pending := l }) (htick : ∀ {s : State}, q s → q s.tick)
    (hreset : ∀ {s : State}, q s → q { State.reset with own := s.own, pending := s.pending }) (hq : q s)
    (h : Machine.step s = .next t) : q t :=
  Kept.step (fun c => (hr c).kept) hpending htick hreset hq h

end Sys2Proof.Machine

namespace Sys2Proof

open Machine Safety

/-- Settles O53: each write of the transmitter keeps the credits within their bound and the link sequences consecutive. -/
theorem stepsKeepCreditsAndLinkSequences : Obligations.StepsKeepCreditsAndLinkSequences := by
  intro s t h
  exact ⟨fun hs => Respects.step creditsBounded_respected (fun _ h => h) (fun h => h) (fun _ => reset_creditsBounded) hs h,
    fun hs => Respects.step linkSequenced_respected (fun _ h => h) (fun h => h) (fun _ => reset_linkSequenced) hs h⟩

/-- Settles O54: an event enters the pending set where it is enabled and absent, and a timer of a group starts where the
others are stopped. -/
theorem stepsKeepReportsAndTimersBounded : Obligations.StepsKeepReportsAndTimersBounded := by
  intro s t h
  exact ⟨fun hs => Respects.step reportsBounded_respected (fun _ h => h) tick_reportsBounded
      (fun _ => reset_reportsBounded) hs h,
    fun hs => Respects.step timersExclusive_respected (fun _ h => h) (fun h g => Group.tick_exclusive (h g))
      (fun _ => reset_timersExclusive) hs h⟩

/-- Settles O55: the memory is written by lines alone, and each such write keeps its form. -/
theorem stepsKeepMemoryCanonical : Obligations.StepsKeepMemoryCanonical := fun _ _ hs h =>
  Respects.step memoryCanonical_respected (fun _ h => h) (fun h => h) (fun _ => reset_memoryCanonical) hs h

/-- Settles O56: a setting is written by its own directive alone, which clamps it. -/
theorem stepsKeepSettingsInRange : Obligations.StepsKeepSettingsInRange := fun _ _ hs h =>
  Respects.step settingsInRange_respected (fun _ h => h) tick_settingsInRange (fun _ => reset_settingsInRange) hs h

/-- Settles O59, condition by condition. -/
theorem resetStateMeetsEveryCondition : Obligations.ResetStateMeetsEveryCondition :=
  ⟨reset_creditsBounded, reset_linkSequenced, reset_reportsBounded, reset_memoryCanonical, reset_timersExclusive,
    reset_settingsInRange, reset_slotsPartitioned, reset_assemblersConsistent, reset_placesAgree⟩

end Sys2Proof

namespace Sys2Proof.Machine

open Sys2Proof.Safety

/-! ## What only the commands of its own write -/

/-- The configuration and the counters of `t`, as the command `c` may leave those of `s`. -/
structure KeepsSettings (c : Instr) (s t : State) : Prop where
  stream : (∀ d, c ≠ .configureStream d) → ∀ i, (t.stream i).cfg = (s.stream i).cfg
  group : (∀ d, c ≠ .configureGroup d) → ∀ g, groupSettings (t.group g) = groupSettings (s.group g)
  layout : (∀ d, c ≠ .writeLayout d) → t.layout = s.layout
  engine : (∀ d, c ≠ .setEngine d) → t.settings = s.settings
  timeout : (∀ d, c ≠ .setLink d) → t.alt.commitTimeout = s.alt.commitTimeout
  counters : (∀ d, c ≠ .resetEngine d) → (∀ d, c ≠ .clearCounts d) → CountersAtMost s.counters t.counters

theorem CountersAtMost.trans {a b k : EngineCounters} (h : CountersAtMost a b) (h' : CountersAtMost b k) :
    CountersAtMost a k := by
  obtain ⟨h1, h2, h3, h4, h5, h6, h7, h8⟩ := h
  obtain ⟨k1, k2, k3, k4, k5, k6, k7, k8⟩ := h'
  exact ⟨BitVec.le_trans h1 k1, BitVec.le_trans h2 k2, BitVec.le_trans h3 k3, BitVec.le_trans h4 k4,
    BitVec.le_trans h5 k5, BitVec.le_trans h6 k6, BitVec.le_trans h7 k7, BitVec.le_trans h8 k8⟩

theorem KeepsSettings.refl (c : Instr) (s : State) : KeepsSettings c s s :=
  ⟨fun _ _ => rfl, fun _ _ => rfl, fun _ => rfl, fun _ => rfl, fun _ => rfl, fun _ _ => CountersAtMost.refl _⟩

theorem cfg_setStream {s : State} {i : StreamId} {x : Stream} (h : x.cfg = (s.stream i).cfg) (j : StreamId) :
    ((s.setStream i x).stream j).cfg = (s.stream j).cfg := by
  by_cases hj : j = i
  · subst hj; simp [h]
  · rw [State.setStream_stream_other _ _ hj]

theorem groupSettings_setGroup {s : State} {g : GroupId} {x : Group} (h : groupSettings x = groupSettings (s.group g))
    (k : GroupId) : groupSettings ((s.setGroup g x).group k) = groupSettings (s.group k) := by
  by_cases hk : k = g
  · subst hk; simp [h]
  · rw [State.setGroup_group_other _ _ hk]

theorem keepsSettings_respected (c : Instr) (s : State) : Respects c (KeepsSettings c s) where
  report _ h := { h with }
  ops _ h := { h with }
  group hx _ h := { h with group := fun hc k => (groupSettings_setGroup hx k).trans (h.group hc k) }
  counters hx h := { h with
    counters := fun hr hc => CountersAtMost.trans (h.counters hr hc) (hx.resolve_right fun ⟨d, hd⟩ => hc d hd) }
  restore h h' := { h' with counters := h.counters }
  own _ h := { h with }
  receiver _ h := { h with }
  stream hx h := { h with stream := fun hc j => (cfg_setStream hx j).trans (h.stream hc j) }
  spill _ h := { h with }
  writeLines _ _ _ h := { h with }
  alt hx h := { h with timeout := fun hc => hx.commitTimeout.trans (h.timeout hc) }
  move _ _ _ _ h := { h with }
  sent _ _ h := { h with }
  engine _ _ _ hd _ h := { h with
    engine := fun hc => hd.elim fun d e => absurd e (hc d)
    timeout := fun hc => (Transmitter.withLoopback_commitTimeout _ _ _).trans (h.timeout hc) }
  timeout _ hd h := { h with timeout := fun hc => hd.elim fun d e => absurd e (hc d) }
  layout _ hd h := { h with layout := fun hc => hd.elim fun d e => absurd e (hc d) }
  configure _ _ _ _ hd _ h := { h with stream := fun hc => hd.elim fun d e => absurd e (hc d) }
  configureGroup _ _ hd h := { h with group := fun hc => hd.elim fun d e => absurd e (hc d) }
  resetBlocks {t} hd h := by
    obtain ⟨x, hx⟩ := t.resetBlocks_eq
    exact {
      stream := fun hc i => by rw [State.resetBlocks_stream]; exact h.stream hc i
      group := fun hc g => by rw [State.resetBlocks_group]; exact h.group hc g
      layout := fun hc => by rw [hx]; exact h.layout hc
      engine := fun hc => by rw [hx]; exact h.engine hc
      timeout := fun hc => by rw [State.resetBlocks_alt]; exact h.timeout hc
      counters := fun hr _ => hd.elim fun d e => absurd e (hr d) }

theorem pending_respected (c : Instr) (l : List Instr) : Respects c fun t => t.pending = l where
  resetBlocks {t} _ h := by
    obtain ⟨x, hx⟩ := t.resetBlocks_eq
    rw [hx]
    exact h

end Sys2Proof.Machine

namespace Sys2Proof

open Machine Safety

/-- Settles O60: each write that the meaning of a command makes keeps the settings of the other commands. -/
theorem settingsAndCountersChangeByTheirCommandsAlone : Obligations.SettingsAndCountersChangeByTheirCommandsAlone := by
  intro c s t h hc
  obtain ⟨u, hu, hkept⟩ := (keepsSettings_respected c s).kept.exec hc (KeepsSettings.refl c s)
  cases hu.symm.trans h
  exact ⟨hkept.stream, hkept.group, hkept.layout, hkept.engine, hkept.timeout, hkept.counters⟩

/-- Settles O3: power-on answers the reset state with the queue kept, and every other command is made of writes that leave
the queue alone. -/
theorem everyCommandRunsAndKeepsTheQueue : Obligations.EveryCommandRunsAndKeepsTheQueue := by
  intro c s
  by_cases hc : c = .powerOn
  · subst hc
    exact ⟨_, rfl, rfl⟩
  · exact (pending_respected c s.pending).kept.exec hc rfl

end Sys2Proof
end

section
/-! PROOFS. Windows, open blocks, losses and END-slot waits stay consistent at every step. -/

-- One theorem at a time: the stacks of a thread each would exceed the memory of the check.
set_option Elab.async false

namespace Sys2Proof.Machine

open Sys2Proof.Safety

/-! ## One stream changes -/

theorem assemblersConsistent_iff (s : State) : AssemblersConsistent s ↔ (∀ i, StreamOk (s.stream i)) ∧
    s.spill.endWaits.Nodup ∧
    ∀ i ∈ s.spill.endWaits, (s.stream i).phase = .closing false ∧ (s.stream i).openBlock = none := by
  unfold AssemblersConsistent StreamOk
  rw [forall_and, and_assoc]

/-- Where one stream alone changes, and no END-slot wait. -/
theorem assemblersConsistent_of_stream {s t : State} {i : StreamId} (hs : AssemblersConsistent s)
    (hother : ∀ j, j ≠ i → t.stream j = s.stream j) (hok : StreamOk (t.stream i))
    (hwaits : t.spill.endWaits = s.spill.endWaits)
    (hwait : i ∈ s.spill.endWaits → (t.stream i).phase = .closing false ∧ (t.stream i).openBlock = none) :
    AssemblersConsistent t := by
  rw [assemblersConsistent_iff] at hs ⊢
  obtain ⟨hall, hnodup, hclosing⟩ := hs
  rw [hwaits]
  refine ⟨fun j => ?_, hnodup, fun j hj => ?_⟩
  · by_cases h : j = i
    · exact h ▸ hok
    · rw [hother j h]; exact hall j
  · by_cases h : j = i
    · exact h ▸ hwait (h ▸ hj)
    · rw [hother j h]; exact hclosing j hj

/-- Where one stream alone changes, its assembler as before. -/
theorem assemblersConsistent_of_same {s t : State} {i : StreamId} (hs : AssemblersConsistent s)
    (hother : ∀ j, j ≠ i → t.stream j = s.stream j) (hwaits : t.spill.endWaits = s.spill.endWaits)
    (hopen : (t.stream i).openBlock = (s.stream i).openBlock := by rfl)
    (hwindow : (t.stream i).window = (s.stream i).window := by rfl)
    (htimer : (t.stream i).interimTimer = (s.stream i).interimTimer := by rfl)
    (hloss : (t.stream i).loss = (s.stream i).loss := by rfl)
    (hawaiting : (t.stream i).awaiting = (s.stream i).awaiting := by rfl)
    (hphase : (t.stream i).phase = (s.stream i).phase := by rfl) : AssemblersConsistent t := by
  have hs' := (assemblersConsistent_iff s).1 hs
  obtain ⟨hall, -, hclosing⟩ := hs'
  refine assemblersConsistent_of_stream hs hother ?_ hwaits fun h => ?_
  · simpa only [StreamOk, Stream.lossy, hopen, hwindow, htimer, hloss, hawaiting] using hall i
  · simpa only [hphase, hopen] using hclosing i h

section
variable {s : State} {i : StreamId}

theorem streamOk_of_consistent (hs : AssemblersConsistent s) (i : StreamId) : StreamOk (s.stream i) :=
  ((assemblersConsistent_iff s).1 hs).1 i

theorem consistent_setStream {x : Stream} (hs : AssemblersConsistent s) (hok : StreamOk x)
    (hwait : i ∈ s.spill.endWaits → x.phase = .closing false ∧ x.openBlock = none) :
    AssemblersConsistent (s.setStream i x) :=
  assemblersConsistent_of_stream (i := i) hs (fun _ hj => State.setStream_stream_other _ _ hj) (by simpa using hok) rfl
    (by simpa using hwait)

/-- Where a write of a stream leaves its assembler as before. -/
theorem consistent_setSame {x : Stream} (hs : AssemblersConsistent s)
    (hopen : x.openBlock = (s.stream i).openBlock := by rfl) (hwindow : x.window = (s.stream i).window := by rfl)
    (htimer : x.interimTimer = (s.stream i).interimTimer := by rfl) (hloss : x.loss = (s.stream i).loss := by rfl)
    (hawaiting : x.awaiting = (s.stream i).awaiting := by rfl) (hphase : x.phase = (s.stream i).phase := by rfl) :
    AssemblersConsistent (s.setStream i x) :=
  assemblersConsistent_of_same (i := i) hs (fun _ hj => State.setStream_stream_other _ _ hj) rfl
    (by simpa using hopen) (by simpa using hwindow) (by simpa using htimer) (by simpa using hloss)
    (by simpa using hawaiting) (by simpa using hphase)

theorem consistent_tweak {x : Stream} (hx : Tweak True (i ∈ s.spill.endWaits) (s.stream i) x)
    (hs : AssemblersConsistent s) : AssemblersConsistent (s.setStream i x) := by
  obtain ⟨hall, -, hclosing⟩ := (assemblersConsistent_iff s).1 hs
  refine consistent_setStream hs (hx.ok trivial (hall i)) fun hi => ?_
  obtain ⟨hphase, hopen⟩ := hclosing i hi
  constructor
  · rcases hx.phase with h | h | h
    · exact h.trans hphase
    · exact absurd hphase h
    · exact absurd hi h
  · simpa [hopen] using hx.slot

theorem consistent_allocate {t : State} {ordinary : Bool} {slot : Nat} (ha : s.allocate i ordinary = some (slot, t))
    (hs : AssemblersConsistent s) : AssemblersConsistent t := by
  obtain ⟨-, -, hself, hwaits, -⟩ := State.allocate_some ha
  exact assemblersConsistent_of_same (i := i) hs (fun j hj => State.allocate_stream_other ha hj) hwaits
    (by rw [hself]) (by rw [hself]) (by rw [hself]) (by rw [hself]) (by rw [hself]) (by rw [hself])

theorem consistent_openIn {slot n : Nat} {gap : Option GapSection} {timed : Bool} (hloss : (s.stream i).loss = none)
    (hi : i ∉ s.spill.endWaits) (hs : AssemblersConsistent s) : AssemblersConsistent (s.openIn i slot gap n timed) := by
  refine assemblersConsistent_of_stream (i := i) hs (fun j hj => State.openIn_stream_other _ _ _ _ _ _ hj) ?_ (by simp)
    fun h => absurd h hi
  rw [State.openIn_stream_self]
  exact ⟨fun e => by simp [State.openedStream] at e, fun e => by simp [State.openedStream, Stream.lossy, hloss] at e⟩

theorem consistent_openCarrying {slot n : Nat} {timed : Bool} (hi : i ∉ s.spill.endWaits)
    (hs : AssemblersConsistent s) : AssemblersConsistent (s.openCarrying i slot n timed) := by
  refine assemblersConsistent_of_stream (i := i) hs (fun j hj => State.openCarrying_stream_other _ _ _ _ _ hj) ?_ (by simp)
    fun h => absurd h hi
  rw [State.openCarrying_stream_self]
  exact ⟨fun e => by simp [State.openedStream] at e, fun e => by simp [State.openedStream, Stream.lossy] at e⟩

theorem consistent_closeOpen {flags : BitVec 16} {tail : Option GapSection} (hw : (s.stream i).window = none)
    (hs : AssemblersConsistent s) : AssemblersConsistent (s.closeOpen i flags tail) := by
  cases hb : (s.stream i).openBlock with
  | none => rwa [State.closeOpen_of_none hb]
  | some b =>
    obtain ⟨hall, -, hclosing⟩ := (assemblersConsistent_iff s).1 hs
    refine assemblersConsistent_of_stream (i := i) hs (fun j hj => State.closeOpen_stream_other _ _ _ _ hj) ?_ (by simp)
      fun h => ?_
    · rw [State.closeOpen_stream_self hb]
      exact ⟨fun _ => ⟨hw, rfl⟩, fun e => ⟨rfl, ((hall i).2 e).2⟩⟩
    · exact absurd (hclosing i h).2 (by simp [hb])

/-- R56: a SHORT close, after which a window in progress has its next block or its loss. -/
theorem consistent_closeShort (hopen : (s.stream i).openBlock ≠ none) (hs : AssemblersConsistent s) :
    AssemblersConsistent (s.closeShort i) := by
  obtain ⟨b, hb⟩ := Option.ne_none_iff_exists'.1 hopen
  obtain ⟨hall, hnodup, hclosing⟩ := (assemblersConsistent_iff s).1 hs
  have hi : i ∉ s.spill.endWaits := fun h => hopen (hclosing i h).2
  have hlossy : ¬ (s.stream i).lossy = true := fun e => hopen ((hall i).2 e).1
  have hother : ∀ j, j ≠ i → (s.closeShort i).stream j = s.stream j := fun j hj => State.closeShort_stream_other _ _ hj
  cases hw : (s.stream i).window with
  | none =>
    have hshort : s.closeShort i = s.closeOpen i Flag.short none := by
      simp [State.closeShort, State.closeOpen_stream_self hb, hw]
    rw [hshort]
    exact consistent_closeOpen hw hs
  | some w =>
    cases ha : (s.closeOpen i Flag.short none).allocate i true with
    | none =>
      have hshort : ∃ k r, s.closeShort i = (((s.closeOpen i Flag.short none).setStream i
          { (s.closeOpen i Flag.short none).stream i with counts := k }).enterLossy i r) := by
        simp only [State.closeShort, State.closeOpen_stream_self hb, hw, ha]
        exact ⟨_, _, rfl⟩
      obtain ⟨k, r, hshort⟩ := hshort
      refine assemblersConsistent_of_stream (i := i) hs hother ?_ (by rw [hshort]; simp) fun h => absurd h hi
      rw [hshort]
      simp [StreamOk, State.enterLossy, State.closeOpen_stream_self hb]
    | some r =>
      obtain ⟨slot, t⟩ := r
      have hshort : s.closeShort i = t.openCarrying i slot w.firstIndex true := by
        simp only [State.closeShort, State.closeOpen_stream_self hb, hw, ha]
      obtain ⟨-, -, -, hwaits, -⟩ := State.allocate_some ha
      refine assemblersConsistent_of_stream (i := i) hs hother ?_ (by rw [hshort]; simp [hwaits]) fun h => absurd h hi
      rw [hshort, State.openCarrying_stream_self]
      exact ⟨fun e => by simp [State.openedStream] at e, fun e => by simp [State.openedStream, Stream.lossy] at e⟩

theorem consistent_setSpill {x : Spill} (hx : x.endWaits.Sublist s.spill.endWaits) (hs : AssemblersConsistent s) :
    AssemblersConsistent (s.setSpill x) := by
  obtain ⟨hall, hnodup, hclosing⟩ := (assemblersConsistent_iff s).1 hs
  exact (assemblersConsistent_iff _).2 ⟨hall, hx.nodup hnodup, fun i hi => hclosing i (hx.subset hi)⟩

theorem consistent_occupancyUp (i : StreamId) (hs : AssemblersConsistent s) : AssemblersConsistent (s.occupancyUp i) :=
  assemblersConsistent_of_same (i := i) hs (fun j hj => State.occupancyUp_stream_other _ _ hj) rfl
    (by simp [State.occupancyUp]) (by simp [State.occupancyUp]) (by simp [State.occupancyUp])
    (by simp [State.occupancyUp]) (by simp [State.occupancyUp]) (by simp [State.occupancyUp])

theorem consistent_occupancyDown (i : StreamId) (hs : AssemblersConsistent s) :
    AssemblersConsistent (s.occupancyDown i) :=
  assemblersConsistent_of_same (i := i) hs (fun j hj => State.occupancyDown_stream_other _ _ hj) rfl
    (by simp [State.occupancyDown]) (by simp [State.occupancyDown]) (by simp [State.occupancyDown])
    (by simp [State.occupancyDown]) (by simp [State.occupancyDown]) (by simp [State.occupancyDown])

/-- R10, R76: an END block that opens for a stream that waits for none. -/
theorem consistent_openEndBlock {slot : Nat} (hi : i ∉ s.spill.endWaits) (hw : (s.stream i).window = none)
    (hs : AssemblersConsistent s) : AssemblersConsistent (s.openEndBlock i slot) :=
  consistent_closeOpen (by simp [hw]) (consistent_openCarrying hi hs)

theorem consistent_placeFreed (n : Nat) (hs : AssemblersConsistent s) : AssemblersConsistent (s.placeFreed n) := by
  obtain ⟨hall, hnodup, hclosing⟩ := (assemblersConsistent_iff s).1 hs
  unfold State.placeFreed
  split
  · exact consistent_setSpill (List.Sublist.refl _) hs
  · next j rest hw =>
    rw [hw, List.nodup_cons] at hnodup
    have hopen : (s.stream j).openBlock = none := (hclosing j (by simp [hw])).2
    refine consistent_openEndBlock (by simpa using hnodup.1) ?_ (consistent_occupancyUp j
      (consistent_setSpill (List.Sublist.refl _) (consistent_setSpill ?_ hs)))
    · simpa [State.occupancyUp] using ((hall j).1 hopen).1
    · rw [hw]
      exact List.sublist_cons_self _ _

theorem verifiesGone_consistent {n : Nat} (hs : AssemblersConsistent s) : AssemblersConsistent (s.verifiesGone n) :=
  assemblersConsistent_of_same (i := 0) hs (fun j _ => by simp) (by simp) (by simp) (by simp) (by simp) (by simp) (by simp)
    (by simp)

theorem consistent_freeSlot (n : Nat) (hs : AssemblersConsistent s) : AssemblersConsistent (s.freeSlot n) := by
  unfold State.freeSlot
  split
  · exact hs
  · exact consistent_placeFreed n
      (consistent_setSpill (List.Sublist.refl _) (consistent_occupancyDown _ (verifiesGone_consistent hs)))

theorem consistent_changeRecord (n : Nat) (f : SlotRecord → SlotRecord) (hs : AssemblersConsistent s) :
    AssemblersConsistent (s.changeRecord n f) := by
  unfold State.changeRecord
  split
  · exact consistent_setSpill (List.Sublist.refl _) hs
  · exact hs

theorem consistent_requeue (n : Nat) (hs : AssemblersConsistent s) : AssemblersConsistent (s.requeue n) := by
  unfold State.requeue
  split
  · exact hs
  · next r _ =>
    split
    · exact hs
    · exact consistent_setSpill (List.Sublist.refl _) (consistent_setSame hs)

theorem consistent_grantTo (cl : Fin 4) (i : StreamId) (q : Pointer) (hs : AssemblersConsistent s) :
    AssemblersConsistent (s.grantTo cl i q) := by
  unfold State.grantTo
  dsimp only
  split
  · exact hs
  · exact consistent_changeRecord _ _ (consistent_setSame hs)

theorem consistent_resetBlocks (s : State) : AssemblersConsistent s.resetBlocks := by
  refine (assemblersConsistent_iff _).2 ⟨fun i => ?_, ?_, ?_⟩
  · rw [State.resetBlocks_stream]
    exact ⟨fun _ => ⟨rfl, rfl⟩, fun e => by simp [Stream.lossy, Stream.cleared] at e⟩
  · rw [State.resetBlocks_spill]
    exact List.nodup_nil
  · rw [State.resetBlocks_spill]
    exact fun i hi => nomatch hi

theorem consistent_wait (hi : (s.stream i).phase = .closing false ∧ (s.stream i).openBlock = none ∧
    i ∉ s.spill.endWaits) (hs : AssemblersConsistent s) :
    AssemblersConsistent (s.setSpill { s.spill with endWaits := s.spill.endWaits ++ [i] }) := by
  obtain ⟨hphase, hopen, hout⟩ := hi
  obtain ⟨hall, hnodup, hclosing⟩ := (assemblersConsistent_iff s).1 hs
  refine (assemblersConsistent_iff _).2 ⟨hall, ?_, fun j hj => ?_⟩
  · exact List.nodup_append.2 ⟨hnodup, List.nodup_singleton i, fun a ha b hb e =>
      hout (List.mem_singleton.1 hb ▸ e ▸ ha)⟩
  · rcases List.mem_append.1 hj with hj | hj
    · exact hclosing j hj
    · rw [List.mem_singleton.1 hj]
      exact ⟨hphase, hopen⟩

theorem consistent_drop (hi : i ∉ s.spill.endWaits) (hs : AssemblersConsistent s) :
    AssemblersConsistent (s.setStream i { (s.stream i).dropped with phase := .closing true }) :=
  consistent_setStream hs ⟨fun _ => ⟨rfl, rfl⟩, fun _ => ⟨rfl, rfl⟩⟩ fun h => absurd h hi

end

/-! ## Every step -/

theorem consistent_kept (c : Instr) : Kept c True fun _ => AssemblersConsistent where
  report _ hs := hs
  ops _ hs := hs
  group _ _ hs := hs
  counters _ hs := hs
  restore _ ht := ht
  own _ hs := hs
  receiver _ hs := hs
  alt _ hs := hs
  badLines _ hs := hs
  writeLines _ _ _ hs := hs
  stream := consistent_tweak
  record _ _ _ hs := hs
  consistent hs _ := hs
  flight := .inl fun _ _ _ hs => hs
  perm _ hs := hs
  markAborted _ hs := hs
  allocate := consistent_allocate
  openIn _ _ _ _ _ _ h := by
    obtain ⟨-, hloss, hi⟩ := h trivial
    exact consistent_openIn hloss hi
  closeOpen _ _ h := consistent_closeOpen (h trivial)
  closeShort := consistent_closeShort
  wait h := consistent_wait (h trivial)
  unwait _ := consistent_setSpill List.filter_sublist
  freeSlot := consistent_freeSlot _
  requeue _ _ := consistent_requeue _
  liftStaged _ hs := hs
  liftSending _ hs := hs
  liftHead _ hs := hs
  liftStream := consistent_drop
  grantTo _ _ _ _ := consistent_grantTo _ _ _
  move _ _ _ := consistent_changeRecord _ _
  sent _ _ := consistent_changeRecord _ _
  engine _ _ _ _ _ hs := hs
  timeout _ _ hs := hs
  layout _ _ hs := hs
  configure _ _ _ _ _ _ hs := consistent_setSame hs
  configureGroup _ _ _ hs := hs
  resetBlocks _ _ := consistent_resetBlocks _

theorem tick_consistent {s : State} (hs : AssemblersConsistent s) : AssemblersConsistent s.tick := by
  obtain ⟨hall, hnodup, hclosing⟩ := (assemblersConsistent_iff s).1 hs
  refine (assemblersConsistent_iff _).2 ⟨fun i => ?_, hnodup, fun i hi => ?_⟩
  · obtain ⟨hopen, hlossy⟩ := hall i
    rw [State.tick_stream]
    exact ⟨fun e => ⟨(hopen e).1, by simp [(hopen e).2, Timer.tick]⟩, hlossy⟩
  · rw [State.tick_stream]
    exact hclosing i hi

end Sys2Proof.Machine

namespace Sys2Proof

open Machine Safety

/-- Settles O58: each write of a stream keeps its assembler consistent, and each operation on slots that opens or closes a
block. -/
theorem stepsKeepAssemblersConsistent : Obligations.StepsKeepAssemblersConsistent := fun _ _ hs h =>
  Kept.step consistent_kept (fun _ hs => hs) tick_consistent (fun _ => reset_assemblersConsistent) hs h

end Sys2Proof
end

section
/-! PROOFS. Every slot stays in exactly one place, and occupancy counts a stream's slots: the slot records as a map from
numbers to streams, a slot that is for the moment nowhere, and the operations that take and give back slots. -/

-- One theorem at a time: the stacks of a thread each would exceed the memory of the check.
set_option Elab.async false

namespace Sys2Proof.Machine

open Sys2Proof.Safety

/-! ## The slot records -/

namespace SlotMap

variable {m : SlotMap} {k : Nat} {r q : SlotRecord}

theorem put_perm (h : find m k = none) : (put m k q).Perm ((k, q) :: m) := by
  induction m with
  | nil => exact .refl _
  | cons c rest ih =>
    obtain ⟨j, x⟩ := c
    simp only [find] at h
    split at h
    · cases h
    · next hj =>
      simp only [put, if_neg hj]
      split
      · exact ((ih h).cons _).trans (.swap _ _ _)
      · exact .refl _

theorem perm_erase (h : find m k = some r) : m.Perm ((k, r) :: erase m k) := by
  induction m with
  | nil => cases h
  | cons c rest ih =>
    obtain ⟨j, x⟩ := c
    simp only [find] at h
    simp only [erase]
    split at h
    · next hj =>
      cases h
      rw [if_pos hj, hj]
    · next hj =>
      rw [if_neg hj]
      exact ((ih h).cons _).trans (.swap _ _ _)

theorem mem_keys_put {n : Nat} : n ∈ (put m k q).map Prod.fst ↔ n = k ∨ n ∈ m.map Prod.fst := by
  rw [← not_iff_not, not_or, ← find_eq_none, ← find_eq_none, find_put]
  split
  · next h => simp [h]
  · next h => simp [h]

theorem put_sorted (h : (m.map Prod.fst).Pairwise (· < ·)) : ((put m k q).map Prod.fst).Pairwise (· < ·) := by
  induction m with
  | nil => simp [put]
  | cons c rest ih =>
    obtain ⟨j, x⟩ := c
    rw [List.map_cons, List.pairwise_cons] at h
    obtain ⟨hj, hrest⟩ := h
    simp only [put]
    split
    · next hlt =>
      rw [List.map_cons, List.pairwise_cons]
      refine ⟨fun a ha => ?_, ih hrest⟩
      rcases mem_keys_put.1 ha with rfl | ha
      · exact hlt
      · exact hj a ha
    · split
      · next _ he => subst he; exact List.pairwise_cons.2 ⟨hj, hrest⟩
      · next hlt hne =>
        rw [List.map_cons, List.pairwise_cons]
        refine ⟨fun a ha => ?_, List.pairwise_cons.2 ⟨hj, hrest⟩⟩
        rcases List.mem_cons.1 ha with rfl | ha
        · dsimp only at hlt hne ⊢; omega
        · have := hj a ha; dsimp only at hlt hne this ⊢; omega

/-- The number of the records that name a stream. -/
def countOf (m : SlotMap) (i : StreamId) : Nat := (m.filter fun x => x.2.stream == i).length

theorem countOf_perm {m' : SlotMap} (h : m.Perm m') (i : StreamId) : countOf m i = countOf m' i :=
  (h.filter _).length_eq

theorem countOf_cons (i : StreamId) : countOf ((k, r) :: m) i = countOf m i + if r.stream = i then 1 else 0 := by
  unfold countOf
  by_cases h : r.stream = i <;> simp [h]

theorem countOf_put_new (h : find m k = none) (i : StreamId) :
    countOf (put m k q) i = countOf m i + if q.stream = i then 1 else 0 := by
  rw [countOf_perm (put_perm h), countOf_cons]

theorem countOf_erase (h : find m k = some r) (i : StreamId) :
    countOf (erase m k) i + (if r.stream = i then 1 else 0) = countOf m i := by
  rw [countOf_perm (perm_erase h), countOf_cons]

/-- A record rewritten for the same stream counts as before. -/
theorem countOf_put (hm : (m.map Prod.fst).Pairwise (· < ·)) (h : find m k = some r) (hq : q.stream = r.stream)
    (i : StreamId) : countOf (put m k q) i = countOf m i := by
  induction m with
  | nil => cases h
  | cons c rest ih =>
    obtain ⟨j, x⟩ := c
    rw [List.map_cons, List.pairwise_cons] at hm
    obtain ⟨hj, hrest⟩ := hm
    simp only [find] at h
    simp only [put]
    split at h
    · next he =>
      cases h
      simp [he, countOf_cons, hq]
    · next hne =>
      split
      · rw [countOf_cons, countOf_cons, ih hrest h]
      · next hlt =>
        have hin : k ∈ rest.map Prod.fst := by
          by_contra hout
          rw [find_eq_none.2 hout] at h
          cases h
        exact absurd (hj k hin) hlt

end SlotMap

/-! ## A slot that is nowhere -/

/-- R82: every slot but `n` stands in exactly one place, and `n` in none. -/
def Loose (s : State) (n : Nat) : Prop :=
  s.spill.freeList.Nodup ∧ (s.spill.slots.map Prod.fst).Pairwise (· < ·) ∧
  (∀ m, m < 65536 ↔ m = n ∨ m ∈ s.spill.freeList ∨ Held s m) ∧ (∀ m ∈ s.spill.freeList, ¬ Held s m) ∧
  n ∉ s.spill.freeList ∧ ¬ Held s n ∧ ∀ i, (s.stream i).occupancy = slotsOf s i

theorem held_iff {s : State} {n : Nat} : Held s n ↔ n ∈ s.spill.slots.map Prod.fst := by
  unfold Held
  rw [← Option.ne_none_iff_isSome, Ne, SlotMap.find_eq_none, not_not]

theorem slotsOf_eq (s : State) (i : StreamId) : slotsOf s i = SlotMap.countOf s.spill.slots i := rfl

section
variable {s : State} {i : StreamId} {n : Nat}

theorem held_putRecord {r : SlotRecord} {m : Nat} : Held (s.putRecord n r) m ↔ m = n ∨ Held s m := by
  simp only [held_iff, State.putRecord, State.setSpill_spill, SlotMap.mem_keys_put]

/-- R85: a slot that is nowhere is given to a stream. -/
theorem Loose.taken (i : StreamId) (h : Loose s n) :
    SlotsPartitioned ((s.putRecord n (s.newRecord i)).occupancyUp i) := by
  obtain ⟨hnodup, hsorted, hall, hapart, hfree, hheld, hocc⟩ := h
  refine ⟨hnodup, SlotMap.put_sorted hsorted, fun m => ?_, fun m hm => ?_, fun j => ?_⟩
  · show m < 65536 ↔ m ∈ s.spill.freeList ∨ Held (s.putRecord n (s.newRecord i)) m
    rw [held_putRecord, hall]
    tauto
  · show ¬ Held (s.putRecord n (s.newRecord i)) m
    rw [held_putRecord]
    rintro (rfl | h)
    · exact hfree hm
    · exact hapart m hm h
  · have hcount : slotsOf ((s.putRecord n (s.newRecord i)).occupancyUp i) j =
        slotsOf s j + if i = j then 1 else 0 :=
      SlotMap.countOf_put_new (by simpa [Held] using hheld) j
    rw [hcount, ← hocc]
    by_cases hj : j = i
    · subst hj; simp [State.occupancyUp]
    · simp [State.occupancyUp_stream_other _ _ hj, Ne.symm hj]

/-- R86: a slot that is nowhere joins the tail of the free list. -/
theorem Loose.freed (h : Loose s n) : SlotsPartitioned (s.setSpill { s.spill with freeList := s.spill.freeList ++ [n] }) := by
  obtain ⟨hnodup, hsorted, hall, hapart, hfree, hheld, hocc⟩ := h
  refine ⟨?_, hsorted, fun m => ?_, fun m hm => ?_, hocc⟩
  · exact List.nodup_append.2 ⟨hnodup, List.nodup_singleton n, fun a ha b hb e =>
      hfree (List.mem_singleton.1 hb ▸ e ▸ ha)⟩
  · simp only [State.setSpill_spill, List.mem_append, List.mem_singleton, hall]
    show _ ↔ _ ∨ Held s m
    tauto
  · rcases List.mem_append.1 hm with hm | hm
    · exact hapart m hm
    · exact List.mem_singleton.1 hm ▸ hheld

/-- R85: the slot at the head of the free list is taken off it. -/
theorem partitioned_popped {rest : List Nat} (hs : SlotsPartitioned s) (hf : s.spill.freeList = n :: rest) :
    Loose (s.setSpill { s.spill with freeList := rest }) n := by
  obtain ⟨hnodup, hsorted, hall, hapart, hocc⟩ := hs
  rw [hf] at hnodup hall hapart
  obtain ⟨hout, hrest⟩ := List.nodup_cons.1 hnodup
  refine ⟨hrest, hsorted, fun m => ?_, fun m hm => hapart m (List.mem_cons_of_mem _ hm), hout,
    hapart n (List.mem_cons_self ..), hocc⟩
  rw [hall, List.mem_cons, or_assoc]
  rfl

theorem partitioned_of_same {t : State} (hs : SlotsPartitioned s) (hfree : t.spill.freeList = s.spill.freeList)
    (hslots : t.spill.slots = s.spill.slots) (hocc : ∀ i, (t.stream i).occupancy = (s.stream i).occupancy) :
    SlotsPartitioned t := by
  obtain ⟨hnodup, hsorted, hall, hapart, hcount⟩ := hs
  refine ⟨by rwa [hfree], by rwa [hslots], fun m => ?_, fun m hm => ?_, fun i => ?_⟩
  · rw [hfree, Held, hslots]; exact hall m
  · rw [Held, hslots]; exact hapart m (hfree ▸ hm)
  · rw [hocc, slotsOf, hslots]; exact hcount i

/-- R86: a held slot's record is cleared, and its stream's occupancy falls. -/
theorem partitioned_erased {r : SlotRecord} (hs : SlotsPartitioned s) (hr : s.slotRecord n = some r) :
    Loose ((s.occupancyDown r.stream).setSpill { s.spill with slots := s.spill.slots.erase n }) n := by
  obtain ⟨hnodup, hsorted, hall, hapart, hocc⟩ := hs
  have hperm := (SlotMap.perm_erase hr).map Prod.fst
  have hkey : ∀ m, Held s m ↔ m = n ∨ m ∈ (s.spill.slots.erase n).map Prod.fst := fun m => by
    rw [held_iff, hperm.mem_iff, List.map_cons, List.mem_cons]
  have hout : n ∉ (s.spill.slots.erase n).map Prod.fst := by
    have hkeys : (s.spill.slots.map Prod.fst).Nodup := hsorted.imp Nat.ne_of_lt
    exact (List.nodup_cons.1 (hperm.nodup_iff.1 hkeys)).1
  have hn : Held s n := (hkey n).2 (.inl rfl)
  refine ⟨hnodup, hsorted.sublist (SlotMap.keys_erase_sublist _ _), fun m => ?_, fun m hm => ?_,
    fun e => hapart n e hn, ?_, fun j => ?_⟩
  · rw [hall, hkey, held_iff]
    show _ ↔ _ ∨ _ ∨ m ∈ (s.spill.slots.erase n).map Prod.fst
    tauto
  · rw [held_iff]
    exact fun e => hapart m hm ((hkey m).2 (.inr e))
  · rw [held_iff]
    exact hout
  · have hcount : slotsOf s j = SlotMap.countOf (s.spill.slots.erase n) j + if r.stream = j then 1 else 0 :=
      (SlotMap.countOf_erase hr j).symm
    have hj := hocc j
    rw [hcount] at hj
    show ((s.occupancyDown r.stream).stream j).occupancy = SlotMap.countOf (s.spill.slots.erase n) j
    by_cases h : j = r.stream
    · subst h
      simp [State.occupancyDown, hj]
    · simpa [State.occupancyDown_stream_other _ _ h, Ne.symm h] using hj

end

end Sys2Proof.Machine
end

section
/-! PROOFS. The operations on slots keep them partitioned, and the free list is as long as the occupancies leave. -/

-- One theorem at a time: the stacks of a thread each would exceed the memory of the check.
set_option Elab.async false

namespace Sys2Proof.Machine

open Sys2Proof.Safety

section
variable {s : State} {i : StreamId} {n : Nat}

/-! ## Writes -/

theorem partitioned_setStream {x : Stream} (hx : x.occupancy = (s.stream i).occupancy) (hs : SlotsPartitioned s) :
    SlotsPartitioned (s.setStream i x) := by
  refine partitioned_of_same hs rfl rfl fun j => ?_
  by_cases hj : j = i
  · subst hj; simp [hx]
  · rw [State.setStream_stream_other _ _ hj]

theorem partitioned_writeLines (slot line : Nat) (bs : List Byte) (hs : SlotsPartitioned s) :
    SlotsPartitioned (s.writeLines slot line bs) := hs

theorem partitioned_raise (e : EventPair) (hs : SlotsPartitioned s) : SlotsPartitioned (s.raise e) :=
  partitioned_of_same hs (by simp) (by simp) fun j => by simp

theorem partitioned_putRecord {r q : SlotRecord} (hr : s.slotRecord n = some r) (hq : q.stream = r.stream)
    (hs : SlotsPartitioned s) : SlotsPartitioned (s.putRecord n q) := by
  obtain ⟨hnodup, hsorted, hall, hapart, hocc⟩ := hs
  have hheld : ∀ m, Held (s.putRecord n q) m ↔ Held s m := fun m => by
    rw [held_putRecord, or_iff_right_iff_imp]
    rintro rfl
    simp only [State.slotRecord] at hr
    simp [Held, hr]
  refine ⟨hnodup, SlotMap.put_sorted hsorted, fun m => ?_, fun m hm => ?_, fun j => ?_⟩
  · rw [hheld]; exact hall m
  · rw [hheld]; exact hapart m hm
  · exact (hocc j).trans (SlotMap.countOf_put hsorted hr hq j).symm

theorem partitioned_changeRecord (n : Nat) {f : SlotRecord → SlotRecord} (hf : ∀ r, (f r).stream = r.stream)
    (hs : SlotsPartitioned s) : SlotsPartitioned (s.changeRecord n f) := by
  unfold State.changeRecord
  split
  · next r hr => exact partitioned_putRecord hr (hf r) hs
  · exact hs

theorem partitioned_markAborted (i : StreamId) (hs : SlotsPartitioned s) : SlotsPartitioned (s.markAborted i) := by
  obtain ⟨hnodup, hsorted, hall, hapart, hocc⟩ := hs
  have hkeys : (s.markAborted i).spill.slots.map Prod.fst = s.spill.slots.map Prod.fst := by
    simp only [State.markAborted, State.setSpill_spill, List.map_map]
    refine List.map_congr_left fun x _ => ?_
    simp only [Function.comp]
    split <;> rfl
  have hcount : ∀ j, slotsOf (s.markAborted i) j = slotsOf s j := fun j => by
    simp only [slotsOf, State.markAborted, State.setSpill_spill, List.filter_map, List.length_map]
    congr 1
    refine List.filter_congr fun x _ => ?_
    simp only [Function.comp]
    split <;> rfl
  refine ⟨hnodup, by rwa [hkeys], fun m => ?_, fun m hm => ?_, fun j => (hocc j).trans (hcount j).symm⟩
  · rw [held_iff, hkeys, ← held_iff]; exact hall m
  · rw [held_iff, hkeys, ← held_iff]; exact hapart m hm

/-! ## Blocks and slots -/

theorem partitioned_allocate {t : State} {ordinary : Bool} (ha : s.allocate i ordinary = some (n, t))
    (hs : SlotsPartitioned s) : SlotsPartitioned t := by
  unfold State.allocate at ha
  split at ha
  · cases ha
  · next hf =>
    split at ha
    · cases ha
    · cases ha
      exact (partitioned_popped hs hf).taken i

theorem partitioned_openIn (slot : Nat) (gap : Option GapSection) (k : Nat) (timed : Bool) (hs : SlotsPartitioned s) :
    SlotsPartitioned (s.openIn i slot gap k timed) := by
  have hopen : SlotsPartitioned (s.setStream i (State.openedStream (s.stream i)
      (State.newBlock (s.stream i) i slot gap k) timed)) := partitioned_setStream rfl hs
  have hrecord := partitioned_changeRecord slot (f := fun r => { r with sequence := some (s.stream i).nextSeq })
    (fun _ => rfl) hopen
  unfold State.openIn
  dsimp only
  split
  · exact partitioned_raise _ (partitioned_writeLines _ _ _ hrecord)
  · exact partitioned_writeLines _ _ _ hrecord

theorem partitioned_closeOpen (flags : BitVec 16) (tail : Option GapSection) (hs : SlotsPartitioned s) :
    SlotsPartitioned (s.closeOpen i flags tail) := by
  unfold State.closeOpen
  dsimp only
  split
  · exact hs
  · next b hb =>
    have hrecord := partitioned_changeRecord b.slot (f := fun r => { r with
        place := .queued
        length := some (State.blockLength (State.closedBlock b flags tail))
        headLength := some (headerLength (State.closedBlock b flags tail).gap) }) (fun _ => rfl)
      (partitioned_writeLines b.slot 0 (blockImage (State.closedBlock b flags tail).header
        (State.closedBlock b flags tail).gap (State.closedBlock b flags tail).payload) hs)
    exact partitioned_setStream (by simp) hrecord

theorem partitioned_openCarrying (slot k : Nat) (timed : Bool) (hs : SlotsPartitioned s) :
    SlotsPartitioned (s.openCarrying i slot k timed) := by
  unfold State.openCarrying
  dsimp only
  refine partitioned_openIn _ _ _ _ (partitioned_setStream (by rfl) ?_)
  split
  · exact partitioned_raise _ (partitioned_setStream (by rfl) hs)
  · exact hs

theorem partitioned_closeShort (hs : SlotsPartitioned s) : SlotsPartitioned (s.closeShort i) := by
  have hclosed := partitioned_closeOpen (i := i) Flag.short none hs
  unfold State.closeShort
  dsimp only
  split
  · exact hclosed
  · split
    · next ha => exact partitioned_openCarrying _ _ _ (partitioned_allocate ha hclosed)
    · exact partitioned_raise _ (partitioned_setStream (by rfl) (partitioned_setStream (by rfl) hclosed))

theorem partitioned_placeFreed (hs : Loose s n) : SlotsPartitioned (s.placeFreed n) := by
  unfold State.placeFreed
  split
  · exact hs.freed
  · next j rest _ =>
    have hwait : Loose (s.setSpill { s.spill with endWaits := rest }) n := hs
    exact partitioned_closeOpen _ _ (partitioned_openCarrying _ _ _ (hwait.taken j))

theorem partitioned_freeSlot (n : Nat) (hs : SlotsPartitioned s) : SlotsPartitioned (s.freeSlot n) := by
  unfold State.freeSlot
  split
  · exact hs
  · next r hr =>
    have hgone : SlotsPartitioned (s.verifiesGone n) := partitioned_of_same hs (by simp) (by simp) fun j => by simp
    exact partitioned_placeFreed (partitioned_erased hgone (by rwa [State.verifiesGone_slotRecord]))

theorem partitioned_requeue (n : Nat) (hs : SlotsPartitioned s) : SlotsPartitioned (s.requeue n) := by
  unfold State.requeue
  split
  · exact hs
  · next r hr =>
    split
    · exact hs
    · exact partitioned_putRecord (r := r) (by simpa [State.slotRecord] using hr) rfl (partitioned_setStream (by rfl) hs)

theorem partitioned_grantTo (cl : Fin 4) (q : Pointer) (hs : SlotsPartitioned s) :
    SlotsPartitioned (s.grantTo cl i q) := by
  unfold State.grantTo
  dsimp only
  split
  · exact hs
  · next slot rest _ =>
    have htaken : SlotsPartitioned (s.setStream i { s.stream i with sendQueue := rest }) :=
      partitioned_setStream (by rfl) hs
    exact partitioned_changeRecord slot (f := fun r => { r with place := .staged }) (fun _ => rfl) htaken

end

theorem allFree_partitioned {s : State} {m : Memory} {l : List (Nat × BitVec 512)} (hspill : s.spill = .allFree m l)
    (hocc : ∀ i, (s.stream i).occupancy = 0) : SlotsPartitioned s := by
  obtain ⟨hnodup, -, hall, -, -⟩ := reset_slotsPartitioned
  rw [SlotsPartitioned, hspill]
  refine ⟨hnodup, List.Pairwise.nil, fun n => ?_, fun n _ h => ?_, fun i => ?_⟩
  · rw [Held, hspill]; exact hall n
  · rw [Held, hspill] at h; cases h
  · rw [hocc, slotsOf, hspill]; rfl

theorem partitioned_kept (c : Instr) : Kept c False fun _ => SlotsPartitioned where
  report _ hs := hs
  ops _ hs := hs
  group _ _ hs := hs
  counters _ hs := hs
  restore _ ht := ht
  own _ hs := hs
  receiver _ hs := hs
  alt _ hs := hs
  badLines _ hs := hs
  writeLines _ _ _ hs := hs
  stream hx := partitioned_setStream hx.occupancy
  record hr _ hq := partitioned_putRecord hr hq
  consistent _ h := h.elim
  flight := .inl fun _ _ _ hs => hs
  perm _ hs := hs
  markAborted := partitioned_markAborted
  allocate := partitioned_allocate
  openIn _ _ _ _ _ _ _ := partitioned_openIn _ _ _ _
  closeOpen _ _ _ := partitioned_closeOpen _ _
  closeShort _ := partitioned_closeShort
  wait _ hs := hs
  unwait _ hs := hs
  freeSlot := partitioned_freeSlot _
  requeue _ _ := partitioned_requeue _
  liftStaged _ hs := hs
  liftSending _ hs := hs
  liftHead _ hs := hs
  liftStream _ := partitioned_setStream rfl
  grantTo _ _ _ _ := partitioned_grantTo _ _
  move _ _ _ := partitioned_changeRecord _ fun _ => rfl
  sent _ _ := partitioned_changeRecord _ fun _ => rfl
  engine _ _ _ _ _ hs := hs
  timeout _ _ hs := hs
  layout _ _ hs := hs
  configure _ _ _ _ _ _ := partitioned_setStream rfl
  configureGroup _ _ _ hs := hs
  resetBlocks _ _ := allFree_partitioned (State.resetBlocks_spill _) fun i => by rw [State.resetBlocks_stream]; rfl

/-! ## The length of the free list -/

/-- R5, R84: each record names one of the streams. -/
theorem sum_countOf (m : SlotMap) : (streamIds.map fun i => SlotMap.countOf m i).sum = m.length := by
  induction m with
  | nil => rfl
  | cons c rest ih =>
    obtain ⟨k, r⟩ := c
    have hone : ∀ j : StreamId, (streamIds.map fun i => if j = i then 1 else 0).sum = 1 := by decide
    simp only [SlotMap.countOf_cons, List.length_cons, ← ih, List.sum_map_add, hone]

theorem partitioned_length {s : State} (hs : SlotsPartitioned s) :
    s.spill.freeList.length + (streamIds.map fun i => (s.stream i).occupancy).sum = 65536 := by
  obtain ⟨hnodup, hsorted, hall, hapart, hocc⟩ := hs
  have hkeys : (s.spill.slots.map Prod.fst).Nodup := hsorted.imp Nat.ne_of_lt
  have hperm : (s.spill.freeList ++ s.spill.slots.map Prod.fst).Perm (List.range 65536) := by
    refine (List.perm_ext_iff_of_nodup ?_ List.nodup_range).2 fun n => ?_
    · exact List.nodup_append.2 ⟨hnodup, hkeys, fun a ha b hb e => hapart a ha (held_iff.2 (e ▸ hb))⟩
    · rw [List.mem_range, hall, List.mem_append, held_iff]
  have hsum : (streamIds.map fun i => (s.stream i).occupancy).sum = s.spill.slots.length := by
    rw [← sum_countOf]
    exact congrArg List.sum (List.map_congr_left fun i _ => hocc i)
  have hlength := hperm.length_eq
  rw [List.length_append, List.length_map, List.length_range] at hlength
  rw [hsum, hlength]

end Sys2Proof.Machine
end

section
/-! PROOFS. A held slot stands where its record says: the places of the slots, a change of one slot's place, and the operations
that move slots. -/

-- One theorem at a time: the stacks of a thread each would exceed the memory of the check.
set_option Elab.async false

namespace Sys2Proof.Machine

open Sys2Proof.Safety

/-! ## Where a slot stands -/

/-- R82, R87: a slot stands at a place; the stream tells of which queue or open block. -/
def Stands (s : State) (n : Nat) : SlotPlace → StreamId → Prop
  | .openBlock, i => (s.stream i).openBlock.map OpenBlock.slot = some n
  | .queued, i => n ∈ (s.stream i).sendQueue
  | .staged, _ => s.alt.staged.map StagedBlock.slot = some n
  | .sending, _ => s.alt.sending.map SendingBlock.slot = some n
  | .outstanding, _ => n ∈ s.alt.outstanding.map SentBlock.slot

/-- R83: a record gives a place, and for a queue or an open block the stream. -/
def Names (r : Option SlotRecord) (p : SlotPlace) (i : StreamId) : Prop :=
  ∃ x, r = some x ∧ x.place = p ∧ (p = .openBlock ∨ p = .queued → x.stream = i)

/-- R82, R87: every held slot stands where its record says and nowhere else, but for the slots `L`, which are held and
stand nowhere. -/
structure Placed (L : List Nat) (s : State) : Prop where
  agree : ∀ n, n ∉ L → ∀ p i, Stands s n p i ↔ Names (s.slotRecord n) p i
  aloft : ∀ n ∈ L, Held s n ∧ ∀ p i, ¬ Stands s n p i
  once : L.Nodup
  queues : ∀ i, (s.stream i).sendQueue.Nodup
  sent : (s.alt.outstanding.map SentBlock.slot).Nodup

theorem map_eq_some_slot {α : Type} {o : Option α} {f : α → Nat} {n : Nat} : o.map f = some n ↔ ∃ b, o = some b ∧ f b = n := by
  cases o <;> simp

theorem names_some {r : SlotRecord} {p : SlotPlace} {i : StreamId} :
    Names (some r) p i ↔ r.place = p ∧ (p = .openBlock ∨ p = .queued → r.stream = i) := by
  simp [Names]

theorem not_names_none {p : SlotPlace} {i : StreamId} : ¬ Names none p i := by
  simp [Names]

theorem standsAt_iff {s : State} {n : Nat} {r : SlotRecord} : StandsAt s n r ↔ Stands s n r.place r.stream := by
  unfold StandsAt
  cases r.place <;> simp only [Stands, map_eq_some_slot]

/-- A place other than a queue or an open block is of no stream. -/
theorem stands_of_names {s : State} {n : Nat} {p : SlotPlace} {i : StreamId} {r : SlotRecord} (hp : r.place = p)
    (hi : p = .openBlock ∨ p = .queued → r.stream = i) : Stands s n r.place r.stream ↔ Stands s n p i := by
  subst hp
  cases h : r.place with
  | openBlock => rw [hi (.inl h)]
  | queued => rw [hi (.inr h)]
  | staged => rfl
  | sending => rfl
  | outstanding => rfl

theorem placesAgree_iff (s : State) : PlacesAgree s ↔ Placed [] s := by
  constructor
  · rintro ⟨hstand, hqueue, hopen, hstaged, hsending, hsent, hq, ho⟩
    refine ⟨fun n _ p i => ⟨fun h => ?_, fun ⟨r, hr, hp, hi⟩ => ?_⟩, fun n hn => (List.not_mem_nil hn).elim, List.nodup_nil,
      hq, ho⟩
    · cases p with
      | openBlock =>
        obtain ⟨b, hb, rfl⟩ := map_eq_some_slot.1 h
        obtain ⟨r, hr, hp, hi⟩ := hopen i b hb
        exact ⟨r, hr, hp, fun _ => hi⟩
      | queued =>
        obtain ⟨r, hr, hp, hi⟩ := hqueue i n h
        exact ⟨r, hr, hp, fun _ => hi⟩
      | staged =>
        obtain ⟨b, hb, rfl⟩ := map_eq_some_slot.1 h
        obtain ⟨r, hr, hp⟩ := hstaged b hb
        exact ⟨r, hr, hp, by simp⟩
      | sending =>
        obtain ⟨b, hb, rfl⟩ := map_eq_some_slot.1 h
        obtain ⟨r, hr, hp⟩ := hsending b hb
        exact ⟨r, hr, hp, by simp⟩
      | outstanding =>
        obtain ⟨b, hb, rfl⟩ := List.mem_map.1 h
        obtain ⟨r, hr, hp⟩ := hsent b hb
        exact ⟨r, hr, hp, by simp⟩
    · exact (stands_of_names hp hi).1 (standsAt_iff.1 (hstand n r hr))
  · rintro ⟨hagree, -, -, hq, ho⟩
    have hagree := fun n => hagree n List.not_mem_nil
    refine ⟨fun n r hr => ?_, fun i n hn => ?_, fun i b hb => ?_, fun b hb => ?_, fun b hb => ?_, fun b hb => ?_, hq, ho⟩
    · exact standsAt_iff.2 ((hagree n _ _).2 ⟨r, hr, rfl, fun _ => rfl⟩)
    · obtain ⟨r, hr, hp, hi⟩ := (hagree n .queued i).1 hn
      exact ⟨r, hr, hp, hi (.inr rfl)⟩
    · obtain ⟨r, hr, hp, hi⟩ := (hagree b.slot .openBlock i).1 (map_eq_some_slot.2 ⟨b, hb, rfl⟩)
      exact ⟨r, hr, hp, hi (.inl rfl)⟩
    · obtain ⟨r, hr, hp, -⟩ := (hagree b.slot .staged 0).1 (map_eq_some_slot.2 ⟨b, hb, rfl⟩)
      exact ⟨r, hr, hp⟩
    · obtain ⟨r, hr, hp, -⟩ := (hagree b.slot .sending 0).1 (map_eq_some_slot.2 ⟨b, hb, rfl⟩)
      exact ⟨r, hr, hp⟩
    · obtain ⟨r, hr, hp, -⟩ := (hagree b.slot .outstanding 0).1 (List.mem_map.2 ⟨b, hb, rfl⟩)
      exact ⟨r, hr, hp⟩

/-! ## Changes -/

section
variable {s t : State} {L L' : List Nat} {n : Nat} {i : StreamId}

theorem held_of_record {r : SlotRecord} (h : s.slotRecord n = some r) : Held s n := by
  simp only [State.slotRecord] at h
  simp [Held, h]

theorem record_of_held (h : Held s n) : ∃ r, s.slotRecord n = some r := Option.isSome_iff_exists.1 h

/-- A slot that stands somewhere is held, not in flight, and has a record of the place. -/
theorem Placed.names {p : SlotPlace} (h : Placed L s) (hs : Stands s n p i) : n ∉ L ∧ Names (s.slotRecord n) p i := by
  have hn : n ∉ L := fun hn => (h.aloft n hn).2 p i hs
  exact ⟨hn, (h.agree n hn p i).1 hs⟩

/-- A slot stands in one place. -/
theorem Placed.unique {p q : SlotPlace} {j : StreamId} (h : Placed L s) (hs : Stands s n p i) (hq : Stands s n q j) :
    p = q ∧ (p = .openBlock ∨ p = .queued → i = j) := by
  obtain ⟨-, r, hr, hp, hi⟩ := h.names hs
  obtain ⟨-, x, hx, hpx, hj⟩ := h.names hq
  cases hr.symm.trans hx
  have hpq : p = q := hp.symm.trans hpx
  exact ⟨hpq, fun e => (hi e).symm.trans (hj (hpq ▸ e))⟩

/-- The places after one slot's place has changed. -/
theorem Placed.change (h : Placed L s) (hstands : ∀ m, m ≠ n → ∀ p j, Stands t m p j ↔ Stands s m p j)
    (hrecord : ∀ m, m ≠ n → t.slotRecord m = s.slotRecord m) (hL : ∀ m, m ≠ n → (m ∈ L' ↔ m ∈ L)) (honce : L'.Nodup)
    (haloft : n ∈ L' → Held t n ∧ ∀ p j, ¬ Stands t n p j)
    (hagree : n ∉ L' → ∀ p j, Stands t n p j ↔ Names (t.slotRecord n) p j)
    (hqueues : ∀ j, (t.stream j).sendQueue.Nodup) (hsent : (t.alt.outstanding.map SentBlock.slot).Nodup) :
    Placed L' t where
  agree m hm p j := by
    by_cases e : m = n
    · exact e ▸ hagree (e ▸ hm) p j
    · rw [hstands m e, hrecord m e]
      exact h.agree m (fun hl => hm ((hL m e).2 hl)) p j
  aloft m hm := by
    by_cases e : m = n
    · exact e ▸ haloft (e ▸ hm)
    · obtain ⟨hheld, hnot⟩ := h.aloft m ((hL m e).1 hm)
      obtain ⟨r, hr⟩ := record_of_held hheld
      exact ⟨held_of_record ((hrecord m e).trans hr), fun p j hs => hnot p j ((hstands m e p j).1 hs)⟩
  once := honce
  queues := hqueues
  sent := hsent

/-- A slot that stood at a place stands nowhere. -/
theorem Placed.lift {p₀ : SlotPlace} (h : Placed L s) (hn : Stands s n p₀ i)
    (hstands : ∀ m p j, (m ≠ n ∨ p ≠ p₀) → (Stands t m p j ↔ Stands s m p j)) (hgone : ∀ j, ¬ Stands t n p₀ j)
    (hrecord : ∀ m, t.slotRecord m = s.slotRecord m) (hqueues : ∀ j, (t.stream j).sendQueue.Nodup)
    (hsent : (t.alt.outstanding.map SentBlock.slot).Nodup) : Placed (n :: L) t := by
  obtain ⟨hout, r, hr, -⟩ := h.names hn
  refine h.change (n := n) (fun m hm p j => hstands m p j (.inl hm)) (fun m _ => hrecord m) (fun m hm => by simp [hm])
    (List.nodup_cons.2 ⟨hout, h.once⟩) (fun _ => ⟨held_of_record ((hrecord n).trans hr), fun p j hs => ?_⟩)
    (fun e => absurd (List.mem_cons_self ..) e) hqueues hsent
  by_cases hp : p = p₀
  · exact hgone j (hp ▸ hs)
  · exact hp (h.unique hn ((hstands n p j (.inr hp)).1 hs)).1.symm

/-- A slot in flight comes to stand at the place that its record gives. -/
theorem Placed.land {p₀ : SlotPlace} {r : SlotRecord} (h : Placed (n :: L) s)
    (hstands : ∀ m p j, Stands t m p j ↔
      Stands s m p j ∨ (m = n ∧ p = p₀ ∧ (p₀ = .openBlock ∨ p₀ = .queued → j = i)))
    (hr : t.slotRecord n = some r) (hplace : r.place = p₀) (hstream : p₀ = .openBlock ∨ p₀ = .queued → r.stream = i)
    (hrecord : ∀ m, m ≠ n → t.slotRecord m = s.slotRecord m) (hqueues : ∀ j, (t.stream j).sendQueue.Nodup)
    (hsent : (t.alt.outstanding.map SentBlock.slot).Nodup) : Placed L t := by
  obtain ⟨hout, honce⟩ := List.nodup_cons.1 h.once
  obtain ⟨-, hnot⟩ := h.aloft n (List.mem_cons_self ..)
  refine h.change (n := n) (fun m hm p j => ?_) hrecord (fun m hm => by simp [hm]) honce (fun e => absurd e hout)
    (fun _ p j => ?_) hqueues hsent
  · rw [hstands]
    simp [hm]
  · rw [hstands, hr, names_some, hplace, or_iff_right (hnot p j)]
    constructor
    · rintro ⟨-, rfl, hj⟩
      exact ⟨rfl, fun e => (hstream e).trans (hj e).symm⟩
    · rintro ⟨rfl, hj⟩
      exact ⟨rfl, rfl, fun e => (hj e).symm.trans (hstream e)⟩

/-- Nothing has moved: queues, open blocks, the transmitter's blocks and the places in the records are as before. -/
theorem Placed.same (h : Placed L s) (hqueue : ∀ j, (t.stream j).sendQueue = (s.stream j).sendQueue)
    (hopen : ∀ j, (t.stream j).openBlock.map OpenBlock.slot = (s.stream j).openBlock.map OpenBlock.slot)
    (hstaged : t.alt.staged.map StagedBlock.slot = s.alt.staged.map StagedBlock.slot)
    (hsending : t.alt.sending.map SendingBlock.slot = s.alt.sending.map SendingBlock.slot)
    (hout : t.alt.outstanding.map SentBlock.slot = s.alt.outstanding.map SentBlock.slot)
    (hrecord : ∀ m, (t.slotRecord m).map (fun r => (r.place, r.stream)) =
      (s.slotRecord m).map fun r => (r.place, r.stream)) : Placed L t := by
  have hstands : ∀ m p j, Stands t m p j ↔ Stands s m p j := fun m p j => by
    cases p <;> simp only [Stands, hqueue, hopen, hstaged, hsending, hout]
  have hnames : ∀ m p j, Names (t.slotRecord m) p j ↔ Names (s.slotRecord m) p j := fun m p j => by
    have hm := hrecord m
    cases ht : t.slotRecord m <;> cases hs : s.slotRecord m <;> simp_all [Names]
  have hheld : ∀ m, Held t m ↔ Held s m := fun m => by
    have hm := congrArg Option.isSome (hrecord m)
    simp only [Option.isSome_map] at hm
    exact iff_of_eq (congrArg (· = true) hm)
  exact
    { agree := fun m hm p j => by rw [hstands, hnames]; exact h.agree m hm p j
      aloft := fun m hm => by
        obtain ⟨hl, hnot⟩ := h.aloft m hm
        exact ⟨(hheld m).2 hl, fun p j => by rw [hstands]; exact hnot p j⟩
      once := h.once
      queues := fun j => by rw [hqueue]; exact h.queues j
      sent := by rw [hout]; exact h.sent }

end

end Sys2Proof.Machine
end

section
/-! PROOFS. The operations that move slots keep every held slot where its record says. -/

-- One theorem at a time: the stacks of a thread each would exceed the memory of the check.
set_option Elab.async false

namespace Sys2Proof.Machine

open Sys2Proof.Safety

section
variable {s t : State} {L : List Nat} {n : Nat} {i : StreamId}

/-! ## Writes -/

theorem placed_setStream {x : Stream} (hqueue : x.sendQueue = (s.stream i).sendQueue)
    (hopen : x.openBlock.map OpenBlock.slot = (s.stream i).openBlock.map OpenBlock.slot) (h : Placed L s) :
    Placed L (s.setStream i x) := by
  refine h.same (fun j => ?_) (fun j => ?_) rfl rfl rfl fun _ => rfl
  · by_cases hj : j = i
    · subst hj; simp [hqueue]
    · rw [State.setStream_stream_other _ _ hj]
  · by_cases hj : j = i
    · subst hj; simp [hopen]
    · rw [State.setStream_stream_other _ _ hj]

theorem placed_quiet {x : Transmitter} (hx : s.alt.Quiet x) (h : Placed L s) : Placed L (s.setAlt x) :=
  h.same (fun _ => rfl) (fun _ => rfl) hx.staged (congrArg _ hx.sending) (congrArg _ hx.outstanding) fun _ => rfl

theorem placed_setSpill {x : Spill} (hx : x.slots = s.spill.slots) (h : Placed L s) : Placed L (s.setSpill x) :=
  h.same (fun _ => rfl) (fun _ => rfl) rfl rfl rfl fun m => by simp [State.slotRecord, hx]

theorem placed_putRecord {r q : SlotRecord} (hr : s.slotRecord n = some r) (hplace : q.place = r.place)
    (hstream : q.stream = r.stream) (h : Placed L s) : Placed L (s.putRecord n q) := by
  refine h.same (fun _ => rfl) (fun _ => rfl) rfl rfl rfl fun m => ?_
  rw [State.putRecord_slotRecord]
  split
  · next e => subst e; simp [hr, hplace, hstream]
  · rfl

theorem placed_changeRecord (n : Nat) {f : SlotRecord → SlotRecord} (hplace : ∀ r, (f r).place = r.place)
    (hstream : ∀ r, (f r).stream = r.stream) (h : Placed L s) : Placed L (s.changeRecord n f) := by
  unfold State.changeRecord
  split
  · next r hr => exact placed_putRecord hr (hplace r) (hstream r) h
  · exact h

theorem placed_writeLines (slot line : Nat) (bs : List Byte) (h : Placed L s) : Placed L (s.writeLines slot line bs) :=
  h.same (fun _ => rfl) (fun _ => rfl) rfl rfl rfl fun _ => rfl

theorem placed_raise (e : EventPair) (h : Placed L s) : Placed L (s.raise e) :=
  h.same (fun j => by simp) (fun j => by simp) (by simp) (by simp) (by simp) fun m => by simp

theorem placed_verifiesGone (n : Nat) (h : Placed L s) : Placed L (s.verifiesGone n) :=
  h.same (fun j => by simp) (fun j => by simp) (by simp) (by simp) (by simp) fun m => by simp

theorem placed_judgeFor (i : StreamId) (h : Placed L s) : Placed L (s.judgeFor i) :=
  h.same (fun _ => rfl) (fun _ => rfl) rfl rfl rfl fun _ => rfl

theorem placed_occupancyUp (i : StreamId) (h : Placed L s) : Placed L (s.occupancyUp i) :=
  placed_judgeFor i (placed_setStream rfl rfl h)

theorem placed_occupancyDown (i : StreamId) (h : Placed L s) : Placed L (s.occupancyDown i) :=
  placed_judgeFor i (placed_setStream rfl rfl h)

theorem State.markAborted_slotRecord (s : State) (i : StreamId) (m : Nat) :
    (s.markAborted i).slotRecord m = (s.slotRecord m).map fun r =>
      if r.stream == i && (r.place == .sending || r.place == .outstanding) then { r with aborted := true } else r := by
  simp only [State.slotRecord, State.markAborted, State.setSpill_spill]
  induction s.spill.slots with
  | nil => rfl
  | cons c rest ih =>
    obtain ⟨k, r⟩ := c
    simp only [List.map_cons]
    split <;> simp only [SlotMap.find] <;> split <;> simp_all

theorem placed_markAborted (i : StreamId) (h : Placed L s) : Placed L (s.markAborted i) := by
  refine h.same (fun _ => rfl) (fun _ => rfl) rfl rfl rfl fun m => ?_
  rw [State.markAborted_slotRecord]
  cases s.slotRecord m with
  | none => rfl
  | some r =>
    simp only [Option.map_some]
    split <;> rfl

/-- R85: a slot that was not held takes a record as an open block's, and stands nowhere yet. -/
theorem placed_take {r : SlotRecord} (hn : ¬ Held s n) (h : Placed L s) : Placed (n :: L) (s.putRecord n r) := by
  have hout : n ∉ L := fun e => hn (h.aloft n e).1
  have hnone : s.slotRecord n = none := by simpa [Held, State.slotRecord] using hn
  refine h.change (n := n) (fun m _ p j => Iff.rfl) (fun m hm => ?_) (fun m hm => ?_) ?_ (fun _ => ⟨?_, fun p j hs => ?_⟩)
    (fun e => absurd (List.mem_cons_self ..) e) h.queues h.sent
  · rw [State.putRecord_slotRecord, if_neg hm]
  · simp [hm]
  · exact List.nodup_cons.2 ⟨hout, h.once⟩
  · exact held_of_record (r := r) (by rw [State.putRecord_slotRecord, if_pos rfl])
  · have hnames := (h.names (s := s) (n := n) (p := p) (i := j) (by cases p <;> exact hs)).2
    rw [hnone] at hnames
    exact not_names_none hnames

theorem placed_allocate {ordinary : Bool} (ha : s.allocate i ordinary = some (n, t)) (hs : SlotsPartitioned s)
    (h : Placed L s) : Placed (n :: L) t := by
  obtain ⟨hnodup, hsorted, hall, hapart, hocc⟩ := hs
  unfold State.allocate at ha
  split at ha
  · cases ha
  · next hf =>
    split at ha
    · cases ha
    · cases ha
      have hn : ¬ Held s n := hapart n (hf ▸ List.mem_cons_self ..)
      exact placed_occupancyUp i (placed_take hn (placed_setSpill rfl h))

/-- R68: a slot in flight becomes a stream's open block. -/
theorem placed_open {b : OpenBlock} {x : Stream} {r : SlotRecord} (hr : s.slotRecord n = some r)
    (hplace : r.place = .openBlock) (hstream : r.stream = i) (hnone : (s.stream i).openBlock = none)
    (hx : x.openBlock = some b) (hb : b.slot = n) (hqueue : x.sendQueue = (s.stream i).sendQueue)
    (h : Placed (n :: L) s) : Placed L (s.setStream i x) := by
  refine h.land (i := i) (p₀ := .openBlock) (fun m p j => ?_) hr hplace (fun _ => hstream) (fun _ _ => rfl) (fun j => ?_)
    h.sent
  · by_cases hj : j = i
    · subst hj
      cases p <;> simp [Stands, hnone, hx, hb, hqueue, eq_comm]
    · cases p <;> simp [Stands, State.setStream_stream_other _ _ hj, hj]
  · by_cases hj : j = i
    · subst hj; simpa [hqueue] using h.queues j
    · rw [State.setStream_stream_other _ _ hj]; exact h.queues j

theorem placed_openIn {r : SlotRecord} {gap : Option GapSection} {k : Nat} {timed : Bool} (hr : s.slotRecord n = some r)
    (hplace : r.place = .openBlock) (hstream : r.stream = i) (hnone : (s.stream i).openBlock = none)
    (h : Placed (n :: L) s) : Placed L (s.openIn i n gap k timed) := by
  have hopen := placed_open (x := State.openedStream (s.stream i) (State.newBlock (s.stream i) i n gap k) timed)
    hr hplace hstream hnone rfl rfl rfl h
  have hrecord := placed_writeLines n 0 ((State.newBlock (s.stream i) i n gap k).header.bytes ++ gapBytes gap)
    (placed_changeRecord n (f := fun r => { r with sequence := some (s.stream i).nextSeq })
    (fun _ => rfl) (fun _ => rfl) hopen)
  unfold State.openIn
  dsimp only
  split
  · exact placed_raise _ hrecord
  · exact hrecord

theorem placed_openCarrying {r : SlotRecord} {k : Nat} {timed : Bool} (hr : s.slotRecord n = some r)
    (hplace : r.place = .openBlock) (hstream : r.stream = i) (hnone : (s.stream i).openBlock = none)
    (h : Placed (n :: L) s) : Placed L (s.openCarrying i n k timed) := by
  unfold State.openCarrying
  dsimp only
  split
  · refine placed_openIn (r := r) (by simpa using hr) hplace hstream (by simp [State.leaveLossy, hnone])
      (placed_setStream rfl rfl (placed_raise _ (placed_setStream rfl rfl h)))
  · exact placed_openIn (r := r) (by simpa using hr) hplace hstream (by simp [hnone]) (placed_setStream rfl rfl h)

/-- R71: the open block's slot joins the tail of the send queue. -/
theorem placed_closeOpen (flags : BitVec 16) (tail : Option GapSection) (h : Placed L s) :
    Placed L (s.closeOpen i flags tail) := by
  cases hb : (s.stream i).openBlock with
  | none => rwa [State.closeOpen_of_none hb]
  | some b =>
    have hopen : Stands s b.slot .openBlock i := map_eq_some_slot.2 ⟨b, hb, rfl⟩
    obtain ⟨hout, r, hr, hplace, hstream⟩ := h.names hopen
    have hnew : b.slot ∉ (s.stream i).sendQueue := fun e => by
      have := (h.unique hopen (q := .queued) (j := i) e).1
      cases this
    have hself := State.closeOpen_stream_self hb flags tail
    have hslots : ∀ m, m ≠ b.slot → (s.closeOpen i flags tail).slotRecord m = s.slotRecord m := fun m hm =>
      State.closeOpen_slotRecord _ _ (by simp [hb, Ne.symm hm])
    have hrecord : ∃ q, (s.closeOpen i flags tail).slotRecord b.slot = some q ∧ q.place = .queued ∧ q.stream = i := by
      refine ⟨{ r with
        place := .queued
        length := some (State.blockLength (State.closedBlock b flags tail))
        headLength := some (headerLength (State.closedBlock b flags tail).gap) }, ?_, rfl, hstream (.inl rfl)⟩
      unfold State.closeOpen
      dsimp only
      rw [hb]
      simp only [State.beginVerifies_slotRecord, State.setStream_slotRecord, State.changeRecord_slotRecord, if_true,
        State.writeLines_slotRecord, hr, Option.map_some]
    obtain ⟨q, hq, hqplace, hqstream⟩ := hrecord
    have hother : ∀ j, j ≠ i → (s.closeOpen i flags tail).stream j = s.stream j := fun j hj =>
      State.closeOpen_stream_other _ _ _ _ hj
    have hstands : ∀ m p j, Stands (s.closeOpen i flags tail) m p j ↔
        (Stands s m p j ∧ m ≠ b.slot) ∨ (m = b.slot ∧ p = .queued ∧ j = i) := by
      intro m p j
      have hm : ∀ {p j}, Stands s b.slot p j → p = .openBlock ∧ j = i := fun hs => by
        obtain ⟨e, hi⟩ := h.unique hopen hs
        exact ⟨e.symm, (hi (.inl rfl)).symm⟩
      by_cases hmb : m = b.slot
      · subst hmb
        by_cases hj : j = i
        · subst hj
          cases p with
          | openBlock => simp [Stands, hself]
          | queued => simp [Stands, hself]
          | staged =>
            exact iff_of_false (fun e => nomatch (hm (p := .staged) (j := j) (by simpa [Stands] using e)).1) (by simp)
          | sending =>
            exact iff_of_false (fun e => nomatch (hm (p := .sending) (j := j) (by simpa [Stands] using e)).1) (by simp)
          | outstanding =>
            exact iff_of_false (fun e => nomatch (hm (p := .outstanding) (j := j) (by simpa [Stands] using e)).1) (by simp)
        · have hnot : ¬ Stands s b.slot p j := fun e => hj (hm e).2
          have hsame : Stands (s.closeOpen i flags tail) b.slot p j ↔ Stands s b.slot p j := by
            cases p <;> simp [Stands, hother j hj]
          simp [hsame, hnot, hj]
      · by_cases hj : j = i
        · subst hj
          cases p <;> simp [Stands, hself, hmb, hb, Ne.symm hmb]
        · cases p <;> simp [Stands, hother j hj, hmb]
    refine h.change (n := b.slot) (fun m hm p j => by rw [hstands]; simp [hm]) hslots (fun _ _ => Iff.rfl) h.once
      (fun e => absurd e hout) (fun _ p j => ?_) (fun j => ?_) (by simpa using h.sent)
    · rw [hstands, hq, names_some, hqplace, hqstream]
      cases p <;> simp [eq_comm]
    · by_cases hj : j = i
      · subst hj
        rw [hself]
        exact List.nodup_append.2 ⟨h.queues j, List.nodup_singleton _, fun a ha c hc e =>
          hnew (List.mem_singleton.1 hc ▸ e ▸ ha)⟩
      · rw [hother j hj]; exact h.queues j

end

end Sys2Proof.Machine
end

section
/-! PROOFS. Slots that are freed, lifted and returned keep their places true, and so does every step. -/

-- One theorem at a time: the stacks of a thread each would exceed the memory of the check.
set_option Elab.async false

namespace Sys2Proof.Machine

open Sys2Proof.Safety

section
variable {s t : State} {L : List Nat} {n : Nat} {i : StreamId}

/-! ## Freeing -/

theorem placed_erase (hkeys : (s.spill.slots.map Prod.fst).Nodup) (h : Placed (n :: L) s) :
    Placed L (s.setSpill { s.spill with slots := s.spill.slots.erase n }) := by
  obtain ⟨hout, honce⟩ := List.nodup_cons.1 h.once
  obtain ⟨-, hnot⟩ := h.aloft n (List.mem_cons_self ..)
  refine h.change (n := n) (fun _ _ p j => by cases p <;> exact Iff.rfl) (fun m hm => SlotMap.find_erase_other _ hm)
    (fun m hm => by simp [hm]) honce (fun e => absurd e hout) (fun _ p j => ?_) h.queues h.sent
  have hnone : (s.setSpill { s.spill with slots := s.spill.slots.erase n }).slotRecord n = none :=
    SlotMap.find_erase_self hkeys n
  rw [hnone]
  exact iff_of_false (fun e => hnot p j (by cases p <;> exact e)) not_names_none

theorem placed_openEndBlock {r : SlotRecord} (hr : s.slotRecord n = some r) (hplace : r.place = .openBlock)
    (hstream : r.stream = i) (hnone : (s.stream i).openBlock = none) (h : Placed (n :: L) s) :
    Placed L (s.openEndBlock i n) :=
  placed_closeOpen _ _ (placed_openCarrying hr hplace hstream hnone h)

theorem placed_placeFreed (hw : ∀ j ∈ s.spill.endWaits, (s.stream j).openBlock = none) (hn : ¬ Held s n)
    (h : Placed L s) : Placed L (s.placeFreed n) := by
  unfold State.placeFreed
  split
  · exact placed_setSpill rfl h
  · next j rest hj =>
    have hopen := hw j (by simp [hj])
    have hwait : Placed L (s.setSpill { s.spill with endWaits := rest }) := placed_setSpill rfl h
    refine placed_openEndBlock (r := s.newRecord j) ?_ rfl rfl ?_ (placed_occupancyUp j (placed_take hn hwait))
    · rw [State.occupancyUp_slotRecord, State.putRecord_slotRecord, if_pos rfl]
    · simpa [State.occupancyUp] using hopen

theorem placed_freeSlot (hs : SlotsPartitioned s) (hc : AssemblersConsistent s) (h : Placed (n :: L) s) :
    Placed L (s.freeSlot n) := by
  obtain ⟨r, hr⟩ := record_of_held (h.aloft n (List.mem_cons_self ..)).1
  obtain ⟨-, hsorted, -⟩ := hs
  obtain ⟨-, -, -, hclosing⟩ := hc
  have hkeys : (s.spill.slots.map Prod.fst).Nodup := hsorted.imp Nat.ne_of_lt
  unfold State.freeSlot
  rw [hr]
  dsimp only
  refine placed_placeFreed (fun j hj => ?_) ?_ (placed_erase (by simpa using hkeys)
    (placed_occupancyDown r.stream (placed_verifiesGone n h)))
  · have hopen := (hclosing j (by simpa using hj)).2
    by_cases he : j = r.stream
    · subst he
      simpa [State.occupancyDown] using hopen
    · simpa [State.occupancyDown_stream_other _ _ he] using hopen
  · have hnone := SlotMap.find_erase_self hkeys n
    simp [Held, hnone]

/-! ## SHORT closes -/

theorem placed_closeShort (hs : SlotsPartitioned s) (h : Placed L s) : Placed L (s.closeShort i) := by
  have hclosed := placed_closeOpen (i := i) Flag.short none h
  have hparts := partitioned_closeOpen (i := i) Flag.short none hs
  have hnone : ((s.closeOpen i Flag.short none).stream i).openBlock = none := by
    cases hb : (s.stream i).openBlock with
    | none => rwa [State.closeOpen_of_none hb]
    | some b => rw [State.closeOpen_stream_self hb]
  unfold State.closeShort
  dsimp only
  split
  · exact hclosed
  · split
    · next slot t ha =>
      obtain ⟨-, -, hself, -⟩ := State.allocate_some ha
      exact placed_openCarrying (State.allocate_record ha) rfl rfl (by rw [hself]; exact hnone)
        (placed_allocate ha hparts hclosed)
    · exact placed_raise _ (placed_setStream rfl rfl (placed_setStream rfl rfl hclosed))

/-! ## The way over the link -/

theorem placed_requeue {r : SlotRecord} (hr : s.slotRecord n = some r) (ha : r.aborted = false) (h : Placed (n :: L) s) :
    Placed L (s.requeue n) := by
  obtain ⟨-, hnot⟩ := h.aloft n (List.mem_cons_self ..)
  have hre : s.requeue n = (s.setStream r.stream { s.stream r.stream with
      sendQueue := n :: (s.stream r.stream).sendQueue }).putRecord n { r with place := .queued } := by
    simp [State.requeue, hr, ha]
  rw [hre]
  refine h.land (i := r.stream) (p₀ := .queued) (r := { r with place := .queued }) (fun m p j => ?_) ?_ rfl (fun _ => rfl)
    (fun m hm => ?_) (fun j => ?_) h.sent
  · by_cases hj : j = r.stream
    · subst hj
      cases p <;> simp [Stands, or_comm]
    · cases p <;> simp [Stands, State.setStream_stream_other _ _ hj, hj]
  · rw [State.putRecord_slotRecord, if_pos rfl]
  · rw [State.putRecord_slotRecord, if_neg hm]
    rfl
  · by_cases hj : j = r.stream
    · subst hj
      simpa using ⟨hnot .queued r.stream, h.queues r.stream⟩
    · simpa [State.setStream_stream_other _ _ hj] using h.queues j

theorem placed_liftStaged {b : StagedBlock} (hb : s.alt.staged = some b) (h : Placed L s) :
    Placed (b.slot :: L) (s.setAlt { s.alt with staged := none }) := by
  refine h.lift (i := 0) (p₀ := .staged) (map_eq_some_slot.2 ⟨b, hb, rfl⟩) (fun m p j hmp => ?_) (fun j e => nomatch e)
    (fun _ => rfl) h.queues h.sent
  cases p with
  | staged => simpa [Stands, hb] using fun e => (hmp.resolve_right fun hne => hne rfl) e.symm
  | _ => exact Iff.rfl

theorem placed_liftSending {b : SendingBlock} (hb : s.alt.sending = some b) (h : Placed L s) :
    Placed (b.slot :: L) (s.setAlt { s.alt with sending := none }) := by
  refine h.lift (i := 0) (p₀ := .sending) (map_eq_some_slot.2 ⟨b, hb, rfl⟩) (fun m p j hmp => ?_) (fun j e => nomatch e)
    (fun _ => rfl) h.queues h.sent
  cases p with
  | sending => simpa [Stands, hb] using fun e => (hmp.resolve_right fun hne => hne rfl) e.symm
  | _ => exact Iff.rfl

theorem placed_liftHead {b : SentBlock} {rest : List SentBlock} (hb : s.alt.outstanding = b :: rest) (h : Placed L s) :
    Placed (b.slot :: L) (s.setAlt { s.alt with outstanding := rest }) := by
  have hsent := h.sent
  rw [hb, List.map_cons, List.nodup_cons] at hsent
  refine h.lift (i := 0) (p₀ := .outstanding) (by simp [Stands, hb]) (fun m p j hmp => ?_) (fun j e => hsent.1 e)
    (fun _ => rfl) h.queues hsent.2
  cases p with
  | outstanding =>
    have hm : m ≠ b.slot := hmp.resolve_right fun hne => hne rfl
    simp [Stands, hb, hm]
  | _ => exact Iff.rfl

/-- R12: what a stream drops: its send queue and its open block. -/
theorem placed_liftStream {x : Stream} (hopen : x.openBlock = none) (hqueue : x.sendQueue = []) (h : Placed L s) :
    Placed (((s.stream i).sendQueue ++ ((s.stream i).openBlock.map OpenBlock.slot).toList) ++ L) (s.setStream i x) := by
  have hstay : ∀ m p j, Stands (s.setStream i x) m p j ↔ Stands s m p j ∧ ¬ (j = i ∧ (p = .openBlock ∨ p = .queued)) := by
    intro m p j
    by_cases hj : j = i
    · subst hj
      cases p <;> simp [Stands, hopen, hqueue]
    · cases p <;> simp [Stands, State.setStream_stream_other _ _ hj, hj]
  have hq : ∀ m, m ∈ (s.stream i).sendQueue → Stands s m .queued i := fun _ hm => hm
  have ho : ∀ m, m ∈ ((s.stream i).openBlock.map OpenBlock.slot).toList → Stands s m .openBlock i := fun _ hm =>
    Option.mem_toList.1 hm
  refine { agree := fun m hm p j => ?_, aloft := fun m hm => ?_, once := ?_, queues := fun j => ?_, sent := h.sent }
  · simp only [List.mem_append, not_or] at hm
    obtain ⟨⟨hmq, hmo⟩, hml⟩ := hm
    rw [hstay, State.setStream_slotRecord, ← h.agree m hml]
    refine and_iff_left_of_imp fun hs => ?_
    rintro ⟨rfl, rfl | rfl⟩
    · exact hmo (Option.mem_toList.2 hs)
    · exact hmq hs
  · simp only [List.mem_append] at hm
    rcases hm with (hm | hm) | hm
    · obtain ⟨-, r, hr, -⟩ := h.names (hq m hm)
      refine ⟨held_of_record hr, fun p j hs => ?_⟩
      obtain ⟨hs, hout⟩ := (hstay m p j).1 hs
      obtain ⟨he, hi⟩ := h.unique (hq m hm) hs
      exact hout ⟨(hi (.inr rfl)).symm, .inr he.symm⟩
    · obtain ⟨-, r, hr, -⟩ := h.names (ho m hm)
      refine ⟨held_of_record hr, fun p j hs => ?_⟩
      obtain ⟨hs, hout⟩ := (hstay m p j).1 hs
      obtain ⟨he, hi⟩ := h.unique (ho m hm) hs
      exact hout ⟨(hi (.inl rfl)).symm, .inl he.symm⟩
    · obtain ⟨hheld, hnot⟩ := h.aloft m hm
      exact ⟨hheld, fun p j hs => hnot p j ((hstay m p j).1 hs).1⟩
  · refine List.nodup_append.2 ⟨List.nodup_append.2 ⟨h.queues i, ?_, fun a ha b hb e => ?_⟩, h.once, fun a ha b hb e => ?_⟩
    · cases (s.stream i).openBlock <;> simp
    · subst e
      cases (h.unique (hq a ha) (ho a hb)).1
    · subst e
      rcases List.mem_append.1 ha with ha | ha
      · exact (h.names (hq a ha)).1 hb
      · exact (h.names (ho a ha)).1 hb
  · by_cases hj : j = i
    · subst hj; simp [hqueue]
    · rw [State.setStream_stream_other _ _ hj]; exact h.queues j

theorem placed_grantTo (cl : Fin 4) (q : Pointer) (hnone : s.alt.staged = none) (h : Placed L s) :
    Placed L (s.grantTo cl i q) := by
  unfold State.grantTo
  dsimp only
  split
  · exact h
  · next slot rest hf =>
    have hqueue := h.queues i
    rw [hf, List.nodup_cons] at hqueue
    obtain ⟨hout, hrest⟩ := hqueue
    have hstands : Stands s slot .queued i := by simp [Stands, hf]
    obtain ⟨-, r, hr, -⟩ := h.names hstands
    have hqueues : ∀ j, ((s.setStream i { s.stream i with sendQueue := rest }).stream j).sendQueue.Nodup := fun j => by
      by_cases hj : j = i
      · subst hj; simpa using hrest
      · rw [State.setStream_stream_other _ _ hj]; exact h.queues j
    have hlift : Placed (slot :: L) (s.setStream i { s.stream i with sendQueue := rest }) := by
      refine h.lift hstands (fun m p j hmp => ?_) (fun j e => ?_) (fun _ => rfl) hqueues h.sent
      · by_cases hj : j = i
        · subst hj
          cases p with
          | queued =>
            have hm : m ≠ slot := hmp.resolve_right fun hne => hne rfl
            simp [Stands, hf, hm]
          | _ => simp [Stands]
        · cases p <;> simp [Stands, State.setStream_stream_other _ _ hj]
      · by_cases hj : j = i
        · subst hj
          exact hout (by simpa [Stands] using e)
        · rw [Stands, State.setStream_stream_other _ _ hj] at e
          exact hj ((h.unique hstands (q := .queued) (j := j) e).2 (.inr rfl)).symm
    refine hlift.land (i := i) (p₀ := .staged) (r := { r with place := .staged }) (fun m p j => ?_) ?_ rfl (by simp)
      (fun m hm => ?_) (fun j => by simpa using hqueues j) (by simpa using h.sent)
    · cases p <;> simp [Stands, hnone, eq_comm]
    · simp [State.changeRecord_slotRecord, hr]
    · simp [State.changeRecord_slotRecord, hm]

theorem placed_move {b : StagedBlock} {link : BitVec 32} (hb : s.alt.staged = some b) (hnone : s.alt.sending = none)
    (h : Placed L s) :
    Placed L ((s.changeRecord b.slot fun r => { r with place := .sending }).setAlt
      { s.alt with staged := none, sending := some ⟨b.slot, link, b.bytes⟩ }) := by
  have hlift := placed_liftStaged hb h
  obtain ⟨r, hr⟩ := record_of_held (hlift.aloft b.slot (List.mem_cons_self ..)).1
  have hr' : s.slotRecord b.slot = some r := hr
  refine hlift.land (i := 0) (p₀ := .sending) (r := { r with place := .sending }) (fun m p j => ?_) ?_ rfl (by simp)
    (fun m hm => ?_) (fun j => by simpa using h.queues j) (by simpa using h.sent)
  · cases p <;> simp [Stands, hnone, eq_comm]
  · simp [State.changeRecord_slotRecord, hr']
  · simp [State.changeRecord_slotRecord, hm]

theorem placed_sent {b : SendingBlock} (loopback : Bool) (hb : s.alt.sending = some b) (h : Placed L s) :
    Placed L ((s.changeRecord b.slot fun r => { r with place := .outstanding }).setAlt
      (State.sentAlt s.alt b loopback)) := by
  have hlift := placed_liftSending hb h
  obtain ⟨hheld, hnot⟩ := hlift.aloft b.slot (List.mem_cons_self ..)
  obtain ⟨r, hr⟩ := record_of_held hheld
  have hr' : s.slotRecord b.slot = some r := hr
  have hout : b.slot ∉ s.alt.outstanding.map SentBlock.slot := hnot .outstanding 0
  refine hlift.land (i := 0) (p₀ := .outstanding) (r := { r with place := .outstanding }) (fun m p j => ?_) ?_ rfl (by simp)
    (fun m hm => ?_) (fun j => by simpa using h.queues j) ?_
  · cases p <;> simp [Stands, State.sentAlt]
  · simp [State.changeRecord_slotRecord, hr']
  · simp [State.changeRecord_slotRecord, hm]
  · simp only [State.setAlt_alt, State.sentAlt, List.map_append, List.map_cons, List.map_nil]
    exact List.nodup_append.2 ⟨h.sent, List.nodup_singleton _, fun a ha c hc e =>
      hout (List.mem_singleton.1 hc ▸ e ▸ ha)⟩

end

end Sys2Proof.Machine
end

section
/-! PROOFS. Slots partitioned, assemblers consistent and every held slot in its place: the conjunction that every step
keeps. -/

-- One theorem at a time: the stacks of a thread each would exceed the memory of the check.
set_option Elab.async false

namespace Sys2Proof.Machine

open Sys2Proof.Safety

/-- The slots are partitioned, the assemblers consistent, and every held slot but those in flight stands where its record
says. -/
structure InPlace (L : List Nat) (s : State) : Prop where
  parts : SlotsPartitioned s
  assemblers : AssemblersConsistent s
  placed : Placed L s

/-- A write that keeps slot records, queues, open blocks and the transmitter's blocks. -/
theorem InPlace.same {L : List Nat} {s t : State} (h : InPlace L s) (hspill : t.spill = s.spill)
    (hstream : ∀ i, t.stream i = s.stream i) (hstaged : t.alt.staged = s.alt.staged)
    (hsending : t.alt.sending = s.alt.sending) (hout : t.alt.outstanding = s.alt.outstanding) : InPlace L t where
  parts := partitioned_of_same h.parts (by rw [hspill]) (by rw [hspill]) fun i => by rw [hstream]
  assemblers := assemblersConsistent_of_stream (i := 0) h.assemblers (fun j _ => hstream j)
    (by rw [hstream]; exact streamOk_of_consistent h.assemblers 0) (by rw [hspill])
    fun hi => by rw [hstream]; exact ((assemblersConsistent_iff s).1 h.assemblers).2.2 0 hi
  placed := h.placed.same (fun j => by rw [hstream]) (fun j => by rw [hstream]) (by rw [hstaged]) (by rw [hsending])
    (by rw [hout]) fun m => by simp only [State.slotRecord, hspill]

theorem resetBlocks_placed (s : State) : Placed [] s.resetBlocks := by
  have halt := s.resetBlocks_alt
  refine { agree := fun n _ p i => ?_, aloft := fun n hn => (List.not_mem_nil hn).elim, once := List.nodup_nil
           queues := fun i => ?_, sent := ?_ }
  · have hnone : s.resetBlocks.slotRecord n = none := by rw [State.slotRecord, State.resetBlocks_spill]; rfl
    rw [hnone]
    refine iff_of_false (fun hs => ?_) not_names_none
    cases p <;> simp [Stands, State.resetBlocks_stream, Stream.cleared, halt, Transmitter.resetEngine,
      Transmitter.powerOn] at hs
  · rw [State.resetBlocks_stream]; exact List.nodup_nil
  · rw [halt]; exact List.nodup_nil

theorem Transmitter.withLoopback_staged (t : Transmitter) (old new : Bool) :
    (t.withLoopback old new).staged = t.staged := by
  unfold withLoopback
  split
  · rfl
  · split <;> rfl

theorem inPlace_kept (c : Instr) : Kept c True InPlace where
  report _ h := h.same rfl (fun _ => rfl) rfl rfl rfl
  ops _ h := h.same rfl (fun _ => rfl) rfl rfl rfl
  group _ _ h := h.same rfl (fun _ => rfl) rfl rfl rfl
  counters _ h := h.same rfl (fun _ => rfl) rfl rfl rfl
  restore _ h := h.same rfl (fun _ => rfl) rfl rfl rfl
  own _ h := h.same rfl (fun _ => rfl) rfl rfl rfl
  receiver _ h := h.same rfl (fun _ => rfl) rfl rfl rfl
  alt hx h := ⟨h.parts, h.assemblers, placed_quiet hx h.placed⟩
  badLines _ h := ⟨h.parts, h.assemblers, placed_setSpill rfl h.placed⟩
  writeLines _ _ _ h := ⟨h.parts, h.assemblers, placed_writeLines _ _ _ h.placed⟩
  stream hx h := ⟨partitioned_setStream hx.occupancy h.parts, consistent_tweak hx h.assemblers,
    placed_setStream hx.sendQueue hx.slot h.placed⟩
  record hr hplace hstream h := ⟨partitioned_putRecord hr hstream h.parts, h.assemblers,
    placed_putRecord hr hplace hstream h.placed⟩
  consistent h _ := h.assemblers
  flight := .inr fun _ _ h => ⟨h.placed.once, fun n hn => (h.placed.aloft n hn).1⟩
  perm hL h := ⟨h.parts, h.assemblers, { h.placed with
    agree := fun n hn => h.placed.agree n fun e => hn (hL.mem_iff.1 e)
    aloft := fun n hn => h.placed.aloft n (hL.mem_iff.2 hn)
    once := hL.nodup_iff.1 h.placed.once }⟩
  markAborted i h := ⟨partitioned_markAborted i h.parts, h.assemblers, placed_markAborted i h.placed⟩
  allocate ha h := ⟨partitioned_allocate ha h.parts, consistent_allocate ha h.assemblers,
    placed_allocate ha h.parts h.placed⟩
  openIn _ _ _ hr hplace hstream hi h := by
    obtain ⟨hnone, hloss, hwait⟩ := hi trivial
    exact ⟨partitioned_openIn _ _ _ _ h.parts, consistent_openIn hloss hwait h.assemblers,
      placed_openIn hr hplace hstream hnone h.placed⟩
  closeOpen _ _ hw h := ⟨partitioned_closeOpen _ _ h.parts, consistent_closeOpen (hw trivial) h.assemblers,
    placed_closeOpen _ _ h.placed⟩
  closeShort ho h := ⟨partitioned_closeShort h.parts, consistent_closeShort ho h.assemblers,
    placed_closeShort h.parts h.placed⟩
  wait hi h := ⟨h.parts, consistent_wait (hi trivial) h.assemblers, placed_setSpill rfl h.placed⟩
  unwait _ h := ⟨h.parts, consistent_setSpill List.filter_sublist h.assemblers, placed_setSpill rfl h.placed⟩
  freeSlot h := ⟨partitioned_freeSlot _ h.parts, consistent_freeSlot _ h.assemblers,
    placed_freeSlot h.parts h.assemblers h.placed⟩
  requeue hr ha h := ⟨partitioned_requeue _ h.parts, consistent_requeue _ h.assemblers, placed_requeue hr ha h.placed⟩
  liftStaged hb h := ⟨h.parts, h.assemblers, placed_liftStaged hb h.placed⟩
  liftSending hb h := ⟨h.parts, h.assemblers, placed_liftSending hb h.placed⟩
  liftHead hb h := ⟨h.parts, h.assemblers, placed_liftHead hb h.placed⟩
  liftStream hi h := ⟨partitioned_setStream rfl h.parts, consistent_drop hi h.assemblers,
    placed_liftStream rfl rfl h.placed⟩
  grantTo _ _ _ hnone h := ⟨partitioned_grantTo _ _ h.parts, consistent_grantTo _ _ _ h.assemblers,
    placed_grantTo _ _ hnone h.placed⟩
  move hb hnone _ h := ⟨partitioned_changeRecord _ (fun _ => rfl) h.parts, consistent_changeRecord _ _ h.assemblers,
    placed_move hb hnone h.placed⟩
  sent loopback hb h := ⟨partitioned_changeRecord _ (fun _ => rfl) h.parts, consistent_changeRecord _ _ h.assemblers,
    placed_sent loopback hb h.placed⟩
  engine _ _ _ _ _ h := h.same rfl (fun _ => rfl) (Transmitter.withLoopback_staged _ _ _)
    (Transmitter.withLoopback_sending _ _ _) (Transmitter.withLoopback_outstanding _ _ _)
  timeout _ _ h := h.same rfl (fun _ => rfl) rfl rfl rfl
  layout _ _ h := h.same rfl (fun _ => rfl) rfl rfl rfl
  configure {L s} i _ cfg e _ _ h := by
    have hput : InPlace L (s.setStream i ((s.stream i).configured cfg e)) :=
      ⟨partitioned_setStream rfl h.parts, consistent_setSame h.assemblers, placed_setStream rfl rfl h.placed⟩
    exact hput.same rfl (fun _ => rfl) rfl rfl rfl
  configureGroup _ _ _ h := h.same rfl (fun _ => rfl) rfl rfl rfl
  resetBlocks _ _ :=
    ⟨allFree_partitioned (State.resetBlocks_spill _) fun i => by rw [State.resetBlocks_stream]; rfl,
      consistent_resetBlocks _, resetBlocks_placed _⟩

theorem tick_partitioned {s : State} (h : SlotsPartitioned s) : SlotsPartitioned s.tick :=
  partitioned_of_same h rfl rfl fun i => by rw [State.tick_stream]

theorem tick_inPlace {s : State} (h : InPlace [] s) : InPlace [] s.tick :=
  ⟨tick_partitioned h.parts, tick_consistent h.assemblers, h.placed.same (fun j => by rw [State.tick_stream])
    (fun j => by rw [State.tick_stream]) rfl rfl rfl fun _ => rfl⟩

theorem reset_inPlace : InPlace [] State.reset :=
  ⟨reset_slotsPartitioned, reset_assemblersConsistent, (placesAgree_iff _).1 reset_placesAgree⟩

end Sys2Proof.Machine

namespace Sys2Proof

open Machine Safety

/-- Settles O57: a slot that an operation moves is for the moment in flight, held and standing nowhere, and comes to stand
where its record then says; the free list and the slots of the streams make up the 65,536. -/
theorem stepsKeepSlotsPartitioned : Obligations.StepsKeepSlotsPartitioned := by
  refine ⟨fun s t hs h => ?_, fun s t hs hc hp h => ?_, fun s => partitioned_length⟩
  · exact Kept.step partitioned_kept (fun _ hs => hs) tick_partitioned (fun _ => reset_slotsPartitioned) hs h
  · have hstep : InPlace [] t := Kept.step inPlace_kept (fun l h => h.same rfl (fun _ => rfl) rfl rfl rfl) tick_inPlace
      (fun _ => reset_inPlace.same rfl (fun _ => rfl) rfl rfl rfl) ⟨hs, hc, (placesAgree_iff s).1 hp⟩ h
    exact (placesAgree_iff t).2 hstep.placed

end Sys2Proof
end

section
/-! PROOFS. Steps, resets and the configuration directives. -/

-- One theorem at a time: the stacks of a thread each would exceed the memory of the check.
set_option Elab.async false

namespace Sys2Proof

open Machine Safety

/-- Settles O1, by the definition of a step. -/
theorem stepRunsTheFrontCommand : Obligations.StepRunsTheFrontCommand := fun _ _ _ => rfl

/-- Settles O2: on an empty queue a step is a tick of the timers. -/
theorem emptyQueueStepLowersRunningTimers : Obligations.EmptyQueueStepLowersRunningTimers := by
  intro s hs
  have hstep : step s = .next s.tick := by
    unfold step
    rw [hs]
  exact ⟨s.tick, hstep, s.tick_stream, s.tick_group, rfl, fun _ => rfl, rfl, rfl, fun _ => rfl, rfl, rfl, rfl⟩

/-- Settles O4: power-on answers the reset state, whose fields are read off. -/
theorem powerOnGivesTheResetState : Obligations.PowerOnGivesTheResetState := by
  refine ⟨fun _ => rfl, fun i => State.reset_stream i, fun i => ?_, fun g => State.reset_group g, fun n => ?_, rfl, rfl, rfl,
    rfl, rfl, rfl, rfl, rfl, rfl, rfl, rfl, rfl, rfl, rfl⟩
  · rw [State.reset_stream]
    exact ⟨rfl, rfl, rfl, rfl, rfl, rfl⟩
  · unfold State.layoutOp
    split
    · simp [State.reset, LayoutEntry.powerOn]
    · rfl

/-- Settles O5: the blocks' parts of RESET ENGINE, and its own DONE in the emptied FIFO. -/
theorem resetEngineClearsActivityAndKeepsConfiguration : Obligations.ResetEngineClearsActivityAndKeepsConfiguration := by
  rintro s d ⟨hsync, hlength, hparams⟩
  have hok : lengthOk d 0 = true := by simp [lengthOk, hlength, hparams]
  obtain ⟨x, hx⟩ := s.resetBlocks_eq
  have hexec : exec (.resetEngine d) s = .next (s.resetBlocks.offer (.response d.tag 0x31 .done false [])) := by
    show Host.Outcome.next _ = _
    simp [hsync, hok]
  refine ⟨_, hexec, ?_⟩
  rw [State.offer_eq]
  refine ⟨fun i => s.resetBlocks_stream i, fun g => s.resetBlocks_group g, ?_⟩
  rw [hx]
  refine ⟨rfl, rfl, rfl, rfl, rfl, rfl, rfl, ?_, rfl⟩
  simp only [Transmitter.resetEngine, Transmitter.powerOn, Bool.or_eq_true, Config.creditLimit]

/-- Settles O6: the three settings are written, the transmitter enters or leaves loopback, and the mask purges the pending
set. -/
theorem setEngineWritesTheThreeSettings : Obligations.SetEngineWritesTheThreeSettings := by
  intro s d strict loopback mask hd hstrict hloopback hmask hidle
  have hbusy : (loopback != s.settings.loopback && !(s.allIdle && s.alt.outstanding.isEmpty)) = false := by
    rcases hidle with h | ⟨hphase, hout⟩
    · simp [h]
    · simp [State.allIdle, hphase, hout]
  have heffect : setEngineEffect d.params s =
      (((s.setAlt (s.alt.withLoopback s.settings.loopback loopback)).setSettings
        ⟨strict, loopback, mask⟩).dropDisabled EventPair.isLink, plain .done) := by
    simp only [setEngineEffect, switchOf_ofNat strict hstrict, switchOf_ofNat loopback hloopback, hbusy, hmask]
    rfl
  have hexec : exec (.setEngine d) s = .next (s.directive 0x01 d (lengthOk d 3) (setEngineEffect d.params s)) := rfl
  rw [hexec, State.directive_taken hd, heffect]
  have halt : s.alt.withLoopback s.settings.loopback loopback =
      if loopback = s.settings.loopback then s.alt
      else if loopback = true then
        { s.alt with credits := 64, linkState := .up, commitTimer := .stopped, checkRecords := Vector.replicate 8 none }
      else
        { s.alt with
          credits := 0
          linkState := if s.alt.archiveSync = true then .up else .down
          commitTimer := .stopped } := by
    simp only [Transmitter.withLoopback, eq_comm (a := s.settings.loopback)]
    rfl
  have hevents : (s.report.events.filter fun p => !p.isLink ||
      ((s.setAlt (s.alt.withLoopback s.settings.loopback loopback)).setSettings ⟨strict, loopback, mask⟩).enabled p) =
      s.report.events.filter fun p => match p with
        | .link e => mask.getLsbD e.code
        | .stream _ _ => true := by
    refine List.filter_congr fun p _ => ?_
    cases p <;> rfl
  simp only [State.dropDisabled, State.setReport, State.setSettings, State.setAlt, plain, Verdict.isAnswered,
    Verdict.answerKind, answeredDone] at hevents ⊢
  rw [hevents, halt] <;> rfl

/-- Settles O7: the clamped fields are written, and the answer is given. -/
theorem setLinkAndConfigureGroupWriteClampedSettings : Obligations.SetLinkAndConfigureGroupWriteClampedSettings := by
  constructor
  · intro s d hd
    have hexec : exec (.setLink d) s = .next (s.directive 0x02 d (lengthOk d 4) (setLinkEffect d.params s)) := rfl
    rw [hexec, State.directive_taken hd]
    rfl
  · intro s d g hd hg hidle
    have hmembers : ((s.members g).all fun i => (s.stream i).phase == .idle) = true := by
      simp only [List.all_eq_true, beq_iff_eq]
      intro i hi
      exact hidle i (of_decide_eq_true (List.mem_filter.1 hi).2)
    have heffect : configureGroupEffect d.params s =
        (s.setGroup g ((s.group g).configured d.params), plain .done) := by
      simp only [configureGroupEffect, groupOf_ofNat g hg, hmembers, if_true]
    have hexec : exec (.configureGroup d) s = .next (s.directive 0x05 d (lengthOk d 14) (configureGroupEffect d.params s)) :=
      rfl
    rw [hexec, State.directive_taken hd, heffect]
    rfl

end Sys2Proof
end

section
/-! PROOFS. The answers of the directives, what decodes and what does not, the layout entries, and the counters. -/

-- One theorem at a time: the stacks of a thread each would exceed the memory of the check.
set_option Elab.async false

namespace Sys2Proof.Machine

open Sys2Proof.Safety

/-! ## The two ways of answering (R153) -/

section
variable {s t : State} {d : Directive} {n : Nat} {code : Byte} {v : Verdict} {payload : List Byte}

/-- An outcome that is done or accepted. -/
theorem directive_done (hd : Carries s d n) (hv : v.answerKind = .atOnce ∨ v.answerKind = .accepted) :
    s.directive code d (lengthOk d n) (t, ⟨v, payload⟩) =
      { t with report := answeredDone t.report code d v payload } := by
  rw [State.directive_taken hd]
  rcases hv with hv | hv <;> simp [answeredDone, Verdict.isAnswered, hv]

/-- A refusal. -/
theorem directive_refused (hd : Carries s d n) (hv : v.answerKind = .refused) :
    s.directive code d (lengthOk d n) (s, ⟨v, payload⟩) =
      { s with report := answeredRefused s code d v payload } := by
  rw [State.directive_taken hd]
  simp [answeredRefused, Verdict.isAnswered, hv]

/-- R152: UNKNOWN and MALFORMED are answered as a refusal is. -/
theorem respond_undecoded (hv : v.answerKind = .undecoded) :
    s.respond s.settings.strict code d (plain v) = { s with report := answeredRefused s code d v [] } := by
  rw [State.respond_eq]
  simp [answeredRefused, Verdict.isAnswered, hv, plain]

/-- R152: a directive of the wrong length. -/
theorem directive_malformed {ok : Bool} (hsync : s.receiver.inSync = true) (hok : ok = false) (effect : State × Reply) :
    s.directive code d ok effect = { s with report := answeredRefused s code d .malformed [] } := by
  unfold State.directive
  simp only [hsync, hok, Bool.not_true, Bool.false_eq_true, if_false, Bool.not_false, if_true]
  exact respond_undecoded rfl

theorem lengthOk_eq_false (h : d.length.toNat ≠ d.params.length ∨ d.params.length ≠ n) : lengthOk d n = false := by
  unfold lengthOk
  rcases h with h | h <;> simp [h]

end

/-- R26: a FIELD's width is clamped first, and then its offset moves down where the field would leave the word. -/
theorem clampField_spec (offset width : Nat) :
    (clampField offset width).2 = max 1 (min 16 width) ∧
    (offset + (clampField offset width).2 ≤ 64 → (clampField offset width).1 = offset) ∧
    (64 < offset + (clampField offset width).2 → (clampField offset width).1 = 64 - (clampField offset width).2) := by
  unfold clampField clampTo
  dsimp only
  refine ⟨rfl, fun h => ?_, fun h => ?_⟩ <;> split <;> omega

end Sys2Proof.Machine

namespace Sys2Proof

open Machine Safety

/-- Settles O21: the counters are written, and the answer is given. -/
theorem clearCountsZeroesTheEngineCounters : Obligations.ClearCountsZeroesTheEngineCounters := by
  intro s d hd
  show Host.Outcome.next (s.directive 0x30 d (lengthOk d 0) _) = _
  rw [plain, directive_done hd (.inl rfl)]
  rfl

/-- Settles O22: an unknown directive is answered alone, and the length check answers for every code. -/
theorem undecodedDirectivesHaveNoEffect : Obligations.UndecodedDirectivesHaveNoEffect := by
  intro s d checks hsync
  refine ⟨fun code _ => ?_, fun p hp hlength => ?_, fun hlength => ?_⟩
  · show Host.Outcome.next (if !s.receiver.inSync then s else s.respond s.settings.strict code d (plain .unknown)) = _
    rw [hsync, respond_undecoded rfl]
    rfl
  · have hok := lengthOk_eq_false hlength
    have hreset : exec (.resetEngine d) s = .next (if !s.receiver.inSync then s
        else if !lengthOk d 0 then s.respond s.settings.strict 0x31 d (plain .malformed)
        else s.resetBlocks.offer (.response d.tag 0x31 .done false [])) := rfl
    simp only [List.mem_cons, List.not_mem_nil, or_false] at hp
    rcases hp with rfl | rfl | rfl | rfl | rfl | rfl | rfl | rfl | rfl | rfl | rfl | rfl | rfl | rfl | rfl | rfl | rfl
    case inr.inr.inr.inr.inr.inr.inr.inr.inr.inr.inr.inr.inr.inr.inr.inr =>
      rw [hreset, hsync, hok, respond_undecoded rfl]
      rfl
    all_goals exact congrArg Host.Outcome.next (directive_malformed hsync hok _)
  · have hok : layoutLengthOk d = false := by
      have hzero : byteAt d.params 2 = 0 ↔ (byteAt d.params 2).toNat = 0 := by
        rw [← BitVec.toNat_inj]; rfl
      simp only [layoutLengthOk, lengthOk, Bool.and_eq_false_iff, decide_eq_false_iff_not]
      rw [hzero] at hlength
      omega
    exact congrArg Host.Outcome.next (directive_malformed hsync hok _)

/-- Settles O9: the entry's kind picks its reading, and a FIELD's width and offset are clamped in this order. -/
theorem layoutEntriesAreReadAndClamped : Obligations.LayoutEntriesAreReadAndClamped := by
  intro b
  refine ⟨fun h => ?_, fun h => ?_, fun h => ?_, fun h => ?_, fun h => ?_⟩
  · unfold layoutEntryOf
    rw [h]
    rfl
  · have hread : layoutEntryOf b = some ⟨.field (clampField (byteAt b 1).toNat (byteAt b 2).toNat).1
        (clampField (byteAt b 1).toNat (byteAt b 2).toNat).2 ((byteAt b 3).getLsbD 0), b⟩ := by
      unfold layoutEntryOf
      rw [h]
      rfl
    refine ⟨_, _, hread, ?_⟩
    obtain ⟨hwidth, hfit, hmove⟩ := clampField_spec (byteAt b 1).toNat (byteAt b 2).toNat
    omega
  · unfold layoutEntryOf
    rw [h]
    rfl
  · unfold layoutEntryOf
    rw [h]
    rfl
  · unfold layoutEntryOf
    split
    · next e => rw [e] at h; cases h
    · next e => rw [e] at h; simp at h
    · next e => rw [e] at h; simp at h
    · next e => rw [e] at h; simp at h
    · rfl

/-- Settles O12: an IDLE stream with a span is started, and any other is refused. -/
theorem startStreamArmsAnIdleStream : Obligations.StartStreamArmsAnIdleStream := by
  intro s d i hd hi
  have hexec : exec (.startStream d) s = .next (s.directive 0x10 d (lengthOk d 1) (startStreamEffect i s)) := by
    rw [← withStream_some hi fun i => startStreamEffect i s]
    rfl
  rw [hexec]
  constructor
  · intro hphase hspan
    have hstart : (s.stream i).startable = true := by
      simp [Stream.startable, hphase, Option.isSome_iff_ne_none, hspan]
    rw [startStreamEffect, if_pos hstart]
    dsimp only
    have hrun : ((s.startRun i .alone).stream i).runNumber = (s.stream i).runNumber + 1 := by
      simp [State.startRun, Stream.started]
    rw [hrun, directive_done hd (.inl rfl)]
    rfl
  · intro h
    have hstart : ¬ (s.stream i).startable = true := by
      rcases h with h | h <;> simp [Stream.startable, h]
    rw [startStreamEffect, if_neg hstart, plain, directive_refused hd rfl]

end Sys2Proof
end

section
/-! PROOFS. WRITE LAYOUT, CONFIGURE STREAM and START GROUP: streams written one after another, and what a configuration is read
from. -/

-- One theorem at a time: the stacks of a thread each would exceed the memory of the check.
set_option Elab.async false

namespace Sys2Proof.Machine

open Sys2Proof.Safety

/-! ## Streams written one after another -/

theorem nodup_streamIds : streamIds.Nodup := by decide

theorem foldl_setStream (f : Stream → Stream) {l : List StreamId} (hl : l.Nodup) (s : State) :
    (∀ i, (l.foldl (fun s i => s.setStream i (f (s.stream i))) s).stream i =
      if i ∈ l then f (s.stream i) else s.stream i) ∧
    l.foldl (fun s i => s.setStream i (f (s.stream i))) s =
      { s with streams := (l.foldl (fun s i => s.setStream i (f (s.stream i))) s).streams } := by
  induction l generalizing s with
  | nil => exact ⟨fun i => by simp, rfl⟩
  | cons j l ih =>
    obtain ⟨hj, hl⟩ := List.nodup_cons.1 hl
    obtain ⟨hstream, hrest⟩ := ih hl (s.setStream j (f (s.stream j)))
    simp only [List.foldl_cons]
    refine ⟨fun i => ?_, hrest⟩
    rw [hstream]
    by_cases hi : i = j
    · subst hi; simp [hj]
    · simp [hi, State.setStream_stream_other _ _ hi]

/-- R105: a group's condition is of its RUNNING members' marks and occupancies. -/
theorem condition_congr {s t : State} (hcfg : ∀ i, (t.stream i).cfg = (s.stream i).cfg)
    (hocc : ∀ i, (t.stream i).occupancy = (s.stream i).occupancy)
    (hrun : ∀ i, (t.stream i).phase.isRunning = (s.stream i).phase.isRunning) (g : GroupId) :
    t.condition g = s.condition g := by
  have hmembers : t.runningMembers g = s.runningMembers g := by
    simp only [State.runningMembers, State.members, hcfg, hrun]
  unfold State.condition
  simp only [hmembers, List.any_map, List.all_map, List.isEmpty_map, Function.comp_def, hcfg, hocc]

/-! ## WRITE LAYOUT -/

/-- R27: the stream after a write of the layout that touches its span or not. -/
def withdrawn (first n : Nat) (x : Stream) : Stream :=
  if x.phase == .idle && spanTouched x.span first n then { x with span := none } else x

theorem withdrawSpan_eq (first n : Nat) (s : State) (i : StreamId) :
    State.withdrawSpan first n s i = s.setStream i (withdrawn first n (s.stream i)) := by
  unfold State.withdrawSpan withdrawn
  split
  · rfl
  · rw [State.setStream_same]

theorem spanTouched_some {low high first n : Nat} :
    spanTouched (some (low, high)) first n = true ↔ first ≤ high ∧ low < first + n := by
  simp [spanTouched]

theorem layoutListOf_eq {p : List Byte} {n : Nat} {list : List (Option LayoutEntry)} (hn : list.length = n)
    (hlist : ∀ k (h : k < list.length), list[k] = layoutEntryOf ((p.drop (3 + 8 * k)).take 8)) :
    layoutListOf p n = list := by
  refine List.ext_getElem (by simp [layoutListOf, hn]) fun k _ hk => ?_
  simp [layoutListOf, hlist k hk]

theorem lastOutOfTable_iff {e : LayoutEntry} :
    e.lastOutOfTable = true ↔ ∃ count forever last, e.op = .group count forever last ∧ 512 ≤ last := by
  unfold LayoutEntry.lastOutOfTable
  split
  · next h => simp [h]
  · next h => exact iff_of_false (by simp) fun ⟨a, b, c, e, _⟩ => h a b c e

/-- R26, R152: a WRITE LAYOUT of the stated length. -/
theorem layoutLengthOk_of {s : State} {d : Directive} {n : Nat} (hd : Carries s d (3 + 8 * n))
    (hcount : (byteAt d.params 2).toNat = n) (h1 : 1 ≤ n) (h32 : n ≤ 32) :
    layoutLengthOk d = lengthOk d (3 + 8 * n) := by
  obtain ⟨-, -, hparams⟩ := hd
  simp [layoutLengthOk, hcount, h1, h32, hparams]

/-- R26: the meaning of a WRITE LAYOUT that the length check passes. -/
theorem exec_writeLayout {s : State} {d : Directive} {n : Nat} (hd : Carries s d (3 + 8 * n))
    (hcount : (byteAt d.params 2).toNat = n) (h1 : 1 ≤ n) (h32 : n ≤ 32) :
    exec (.writeLayout d) s = .next (s.directive 0x03 d (lengthOk d (3 + 8 * n)) (writeLayoutEffect d.params s)) := by
  rw [← layoutLengthOk_of hd hcount h1 h32]
  rfl

end Sys2Proof.Machine

namespace Sys2Proof

open Machine Safety

/-- Settles O8: every check passes, the table is written, and the spans it touches are withdrawn one after another. -/
theorem writeLayoutWritesItsEntries : Obligations.WriteLayoutWritesItsEntries := by
  intro s d first entries hd hfirst hcount h1 h32 hfit hentries hgroups hspans
  have hlist : layoutListOf d.params entries.length = entries.map some :=
    layoutListOf_eq (by simp) fun k hk => by
      have hk' : k < entries.length := by simpa using hk
      rw [List.getElem_map, hentries k hk']
  have hnone : (entries.map some).findIdx? Option.isNone = none := by
    rw [List.findIdx?_eq_none_iff]
    simp
  have hlast : entries.any LayoutEntry.lastOutOfTable = false := by
    rw [List.any_eq_false]
    intro e he hout
    obtain ⟨count, forever, last, hop, hge⟩ := lastOutOfTable_iff.1 hout
    have := hgroups e he count forever last hop
    omega
  have husers : s.spanUsers first entries.length = [] := by
    refine List.filter_eq_nil_iff.2 fun i _ h => ?_
    rw [Bool.and_eq_true, bne_iff_ne] at h
    obtain ⟨hphase, htouched⟩ := h
    cases hspan : (s.stream i).span with
    | none => simp [hspan, spanTouched] at htouched
    | some p =>
      obtain ⟨low, high⟩ := p
      rw [hspan, spanTouched_some] at htouched
      have := hspans i low high hspan hphase
      omega
  obtain ⟨hstream, hrest⟩ := foldl_setStream (withdrawn first entries.length) nodup_streamIds
    (s.setLayout (State.writeEntries first entries s.layout))
  have heffect : writeLayoutEffect d.params s =
      (streamIds.foldl (fun s i => s.setStream i (withdrawn first entries.length (s.stream i)))
        (s.setLayout (State.writeEntries first entries s.layout)), plain .done) := by
    unfold writeLayoutEffect
    simp only [hfirst, hcount, hlist, hnone, List.filterMap_map, Function.comp_def, id, List.filterMap_some,
      if_neg (show ¬ 512 ≤ first by omega), hlast, husers, if_neg (show ¬ 512 < first + entries.length by omega),
      Bool.or_false, decide_eq_true_eq]
    exact congrArg (fun f => (streamIds.foldl f (s.setLayout (State.writeEntries first entries s.layout)), plain .done))
      (funext fun s => funext fun i => withdrawSpan_eq _ _ s i)
  rw [exec_writeLayout hd hcount h1 h32, heffect, plain, directive_done hd (.inl rfl)]
  clear heffect
  generalize htable : State.writeEntries first entries s.layout = table at hstream hrest ⊢
  generalize List.foldl _ _ _ = u at hstream hrest ⊢
  have hlayout : u.layout = table := by rw [hrest]; rfl
  refine ⟨_, rfl, fun k hlow hhigh => ?_, fun k hout => ?_, fun i low high hidle hspan hle hlt => ?_, fun i hkeep => ?_, ?_⟩
  · show some (u.layout.get k) = _
    have hk : k.val - first < entries.length := by omega
    rw [hlayout, ← htable]
    simp [State.writeEntries, hlow, hk]
  · show u.layout.get k = _
    rw [hlayout, ← htable]
    rcases hout with hout | hout
    · simp [State.writeEntries, Nat.not_le.2 hout]
    · have hk : entries.length ≤ k.val - first := by omega
      simp [State.writeEntries, hk]
  · show u.stream i = _
    rw [hstream, if_pos (State.mem_streamIds i), withdrawn, if_pos]
    · rfl
    · simp only [State.setLayout_stream, hidle, hspan, beq_self_eq_true, Bool.true_and, spanTouched_some]
      exact ⟨hle, hlt⟩
  · show u.stream i = _
    rw [hstream, if_pos (State.mem_streamIds i), withdrawn, if_neg]
    · rfl
    · simp only [State.setLayout_stream, Bool.and_eq_true, beq_iff_eq, not_and]
      intro hidle htouched
      rcases hkeep with h | h | ⟨low, high, h, hout⟩
      · exact h hidle
      · rw [h] at htouched; cases htouched
      · rw [h, spanTouched_some] at htouched
        omega
  · dsimp only
    rw [hlayout]
    conv_lhs => rw [hrest]
    rfl

end Sys2Proof
end

section
/-! PROOFS. CONFIGURE STREAM and START GROUP. -/

-- One theorem at a time: the stacks of a thread each would exceed the memory of the check.
set_option Elab.async false

namespace Sys2Proof.Machine

open Sys2Proof.Safety

/-! ## The codes of a configuration (R154, R170) -/

theorem sourceOf_ofNat (n : Fin 32) {b : Byte} (h : b = BitVec.ofNat 8 n.val) : sourceOf b = some n := by
  subst h; revert n; decide

theorem layoutIndexOf_val (n : Fin 512) {k : Nat} (h : k = n.val) : layoutIndexOf k = some n := by
  subst h
  simp [layoutIndexOf]

theorem signednessOf_code (x : Signedness) {b : Byte} (h : b = match x with | .signed => 0#8 | .unsigned => 1#8) :
    signednessOf b = some x := by
  subst h
  cases x <;> rfl

theorem modeOf_code (x : Mode) {b : Byte}
    (h : b = match x with | .pass => 0#8 | .decimate => 1#8 | .envelope => 2#8 | .mean => 3#8) : modeOf b = some x := by
  subst h
  cases x <;> rfl

theorem blockSizeOf_eq {w : Nat} {size : BlockSize}
    (h : (w < 16384 ∧ size = .kib (if w = 0 then 0 else max 4 (min 64 (w / 4 * 4)))) ∨
      (16384 ≤ w ∧ w < 32768 ∧ size = .segment)) : blockSizeOf w = some size := by
  unfold blockSizeOf
  rcases h with ⟨hw, rfl⟩ | ⟨hlow, hhigh, rfl⟩
  · rw [if_pos (by omega)]
    rfl
  · rw [if_neg (by omega), if_pos (by omega)]

/-- R2: the meaning of CONFIGURE STREAM of a stream that is named. -/
theorem exec_configureStream {s : State} {d : Directive} {i : StreamId} {cfg : StreamConfig}
    (hi : byteAt d.params 0 = BitVec.ofNat 8 i.val) (hcfg : streamConfigOf d.params = some cfg) :
    exec (.configureStream d) s = .next (s.directive 0x04 d (lengthOk d 30) (configureChecked i cfg s)) := by
  have heffect : configureStreamEffect d.params s = configureChecked i cfg s := by
    simp only [configureStreamEffect, streamOf_ofNat i hi, hcfg]
  rw [← heffect]
  rfl

/-! ## START GROUP -/

/-- R15: the stream after START GROUP of a group that it may belong to. -/
def armedBy (g : GroupId) (x : Stream) : Stream :=
  if x.cfg.group = g ∧ x.phase = .idle ∧ x.span ≠ none then x.started .group else x

theorem startable_iff (x : Stream) : x.startable = true ↔ x.phase = .idle ∧ x.span ≠ none := by
  simp [Stream.startable, Option.isSome_iff_ne_none]

/-- R15: the eligible members are started one after another. -/
theorem foldl_startRun_eq (s : State) (g : GroupId) :
    ∃ t, ((s.members g).filter fun i => (s.stream i).startable).foldl (fun s i => s.startRun i .group) s = t ∧
      (∀ i, t.stream i = armedBy g (s.stream i)) ∧ t = { s with streams := t.streams } := by
  have hnodup : ((s.members g).filter fun i => (s.stream i).startable).Nodup :=
    (nodup_streamIds.filter _).filter _
  obtain ⟨hstream, hrest⟩ := foldl_setStream (fun x => x.started .group) hnodup s
  refine ⟨_, rfl, fun i => (hstream i).trans ?_, hrest⟩
  have hmem : i ∈ ((s.members g).filter fun i => (s.stream i).startable) ↔
      (s.stream i).cfg.group = g ∧ (s.stream i).phase = .idle ∧ (s.stream i).span ≠ none := by
    rw [List.mem_filter, startable_iff]
    simp [State.members, State.mem_streamIds]
  unfold armedBy
  simp only [hmem]

/-- R15, R106: a group that starts over, its condition judged. -/
theorem started_judged (x : Group) (k : Condition) : x.started.judged k = { x with
    ordered := 0, startSegment := none, settleTimer := .stopped
    overTimer := if x.holdOff = 0 ∧ k = .over ∧ 0 < x.maxLevel then .running x.degradeWait else .stopped
    holdOffTimer := if x.holdOff = 0 then .stopped else .running x.holdOff } := by
  unfold Group.judged Group.judgedOver Group.judgedSettle Group.started
  by_cases h : x.holdOff = 0 <;> by_cases hk : k = .over <;> simp [h, hk, Timer.isRunning]

theorem disposition_eq (x : Stream) : disposition x = match x.phase with
    | .idle => if x.span = none then 1 else 0
    | .armed _ => 2
    | .running _ => 3
    | .closing _ => 4 := by
  unfold disposition Stream.startable
  cases x.phase <;> cases x.span <;> rfl

theorem leBytes_one (n : Nat) : leBytes 1 n = [BitVec.ofNat 8 n] := by
  simp [leBytes]

end Sys2Proof.Machine

namespace Sys2Proof

open Machine Safety

/-- Settles O10: the 30 bytes are read field by field, and the configuration of an IDLE stream is replaced. -/
theorem configureStreamReplacesTheConfiguration : Obligations.ConfigureStreamReplacesTheConfiguration := by
  constructor
  · intro p source base group sign mode size quota high h1 h2 h4 h5 h6 h7 hquota hhigh
    simp only [streamConfigOf, sourceOf_ofNat source h1, layoutIndexOf_val base h2, groupOf_ofNat group h4,
      signednessOf_code sign h5, modeOf_code mode h6, blockSizeOf_eq h7, Option.bind_eq_bind, Option.bind_some,
      Option.pure_def]
    subst hquota hhigh
    refine congrArg some ?_
    have hlow : ∀ n, clampTo 0 n (field p 23 4) = min n (field p 23 4) := fun n => Nat.zero_max _
    rw [hlow]
    rfl
  · intro s d i cfg last hd hi hcfg hidle hquota hvalid
    have heffect : configureChecked i cfg s =
        ((s.setStream i ((s.stream i).configured cfg last)).dropDisabled (EventPair.isOf i),
          ⟨.done, leBytes 2 cfg.layoutBase.val ++ leBytes 2 last⟩) := by
      unfold configureChecked
      simp only [hidle, bne_self_eq_false, Bool.false_eq_true, if_false, if_neg (Nat.not_lt.2 hquota), hvalid]
    have hevents : (s.report.events.filter fun p => !EventPair.isOf i p ||
        (s.setStream i ((s.stream i).configured cfg last)).enabled p) =
        s.report.events.filter fun p => match p with
          | .stream j e => if j = i then cfg.eventMask.getLsbD e.code else true
          | .link _ => true := by
      refine List.filter_congr fun p _ => ?_
      cases p with
      | link e => rfl
      | stream j e =>
        by_cases hj : j = i
        · subst hj
          simp [EventPair.isOf, State.enabled, Stream.configured]
        · simp [EventPair.isOf, hj]
    rw [exec_configureStream hi hcfg, heffect, directive_done hd (.inl rfl)]
    simp only [State.dropDisabled, State.setStream_report, hevents]
    rfl

/-- Settles O13: the eligible members are armed one after another, which leaves the group's condition as it was; the group
starts over and is judged. -/
theorem startGroupArmsEveryEligibleMember : Obligations.StartGroupArmsEveryEligibleMember := by
  constructor
  · intro s d g i hd hg hgroup hphase hspan
    obtain ⟨u, hu, hstream, hrest⟩ := foldl_startRun_eq s g
    have hsome : ((s.members g).filter fun i => (s.stream i).startable).isEmpty = false := by
      refine List.isEmpty_eq_false_iff_exists_mem.2 ⟨i, List.mem_filter.2 ⟨?_, (startable_iff _).2 ⟨hphase, hspan⟩⟩⟩
      simp [State.members, State.mem_streamIds, hgroup]
    have hgroups : ∀ k, u.group k = s.group k := fun k => by rw [hrest]; rfl
    have hcondition : (u.setGroup g (u.group g).started).condition g = s.condition g := by
      refine condition_congr (fun j => ?_) (fun j => ?_) (fun j => ?_) g <;>
        rw [State.setGroup_stream, hstream, armedBy] <;> split
      · rfl
      · rfl
      · rfl
      · rfl
      · next h => rw [h.2.1]; rfl
      · rfl
    have hjudged : (u.setGroup g (u.group g).started).judge g =
        u.setGroup g ((s.group g).started.judged (s.condition g)) := by
      rw [State.judge, hcondition, State.setGroup_group_self, hgroups, State.setGroup_setGroup]
    have heffect : startGroupEffect g s = (u.setGroup g ((s.group g).started.judged (s.condition g)),
        ⟨.done, memberList s (u.setGroup g ((s.group g).started.judged (s.condition g))) g⟩) := by
      unfold startGroupEffect
      simp only [hsome, Bool.false_eq_true, if_false, hu, hjudged]
    have hexec : exec (.startGroup d) s = .next (s.directive 0x11 d (lengthOk d 1) (startGroupEffect g s)) := by
      rw [← withGroup_some hg fun g => startGroupEffect g s]
      rfl
    rw [hexec, heffect, directive_done hd (.inl rfl)]
    refine ⟨_, rfl, fun j => (hstream j).trans rfl, ?_⟩
    rw [started_judged]
    conv_lhs => rw [hrest]
    rfl
  · intro s t g members found hmembers hfound
    have hlist : s.members g = members := hmembers.symm
    have hentry : ∀ j : StreamId, leBytes 1 j.val ++ leBytes 1 (disposition (s.stream j)) ++
        leBytes 1 (t.stream j).runNumber.toNat = [BitVec.ofNat 8 j.val, found j, (t.stream j).runNumber] := fun j => by
      have hdisposition : BitVec.ofNat 8 (disposition (s.stream j)) = found j := by
        rw [disposition_eq, hfound]
        cases (s.stream j).phase with
        | idle => dsimp only; split <;> rfl
        | armed how => rfl
        | running sub => rfl
        | closing aborting => rfl
      simp [leBytes_one, hdisposition]
    simp only [memberList, hlist, hentry, List.flatMap]
    rw [leBytes_one]
    rfl

end Sys2Proof
end

section
/-! PROOFS. What refuses a directive, with nothing else changed. -/

-- One theorem at a time: the stacks of a thread each would exceed the memory of the check.
set_option Elab.async false

namespace Sys2Proof.Machine

open Sys2Proof.Safety

section
variable {s : State} {d : Directive} {i : StreamId} {n : Nat} {code : Byte} {v : Verdict} {payload : List Byte}

/-- R153: a directive that its effect refuses changes nothing but the answer. -/
theorem refused_of_effect {c : Instr} {effect : State × Reply} (hd : Carries s d n)
    (hexec : exec c s = .next (s.directive code d (lengthOk d n) effect)) (heffect : effect = (s, ⟨v, payload⟩))
    (hv : v.answerKind = .refused) : exec c s = .next { s with report := answeredRefused s code d v payload } := by
  rw [hexec, heffect, directive_refused hd hv]

theorem withStream_none {p : List Byte} (h : 8 ≤ (byteAt p 0).toNat) (f : StreamId → State × Reply) :
    withStream p s f = (s, plain .badValue) := by
  simp [withStream, streamOf_none h]

theorem withGroup_none {p : List Byte} (h : 8 ≤ (byteAt p 0).toNat) (f : GroupId → State × Reply) :
    withGroup p s f = (s, plain .badValue) := by
  simp [withGroup, groupOf_none h]

theorem opsFull_iff : s.opsFull = true ↔ 4 ≤ s.ops.length := decide_eq_true_iff

/-- R28: validation refuses for one of its five reasons. -/
theorem validate_reason {table : Nat → LayoutOp} {base index : Nat} {reason : Verdict}
    (h : validate table base = .refused reason index) :
    reason ∈ [Verdict.outOfTable, .nesting, .depth, .noField, .noAdvance] := by
  unfold validate at h
  split at h
  · cases h; decide
  · dsimp only at h
    split at h
    · cases h; decide
    · split at h
      · cases h; decide
      · split at h
        · cases h; decide
        · split at h
          · cases h; decide
          · split at h
            · cases h; decide
            · cases h

/-- R154: a number or a code of CONFIGURE STREAM that names nothing. -/
theorem streamConfigOf_none {p : List Byte} (h : 32 ≤ (byteAt p 1).toNat ∨ 512 ≤ field p 2 2 ∨
    8 ≤ (byteAt p 4).toNat ∨ 2 ≤ (byteAt p 5).toNat ∨ 4 ≤ (byteAt p 6).toNat ∨ 32768 ≤ field p 7 2) :
    streamConfigOf p = none := by
  cases hc : streamConfigOf p with
  | none => rfl
  | some cfg =>
    simp only [streamConfigOf, Option.bind_eq_bind, Option.bind_eq_some_iff, Option.pure_def] at hc
    obtain ⟨source, h1, base, h2, group, h4, sign, h5, mode, h6, size, h7, -⟩ := hc
    have h1' : (byteAt p 1).toNat < 32 := by
      unfold sourceOf at h1
      split at h1
      · assumption
      · cases h1
    have h2' : field p 2 2 < 512 := by
      unfold layoutIndexOf at h2
      split at h2
      · assumption
      · cases h2
    have h4' : (byteAt p 4).toNat < 8 := by
      by_contra hge
      rw [groupOf_none (Nat.not_lt.1 hge)] at h4
      cases h4
    have h5' : (byteAt p 5).toNat < 2 := by
      unfold signednessOf at h5
      split at h5
      · next e => rw [e]; decide
      · split at h5
        · next e => rw [e]; decide
        · cases h5
    have h6' : (byteAt p 6).toNat < 4 := by
      unfold modeOf at h6
      split at h6
      · next e => rw [e]; decide
      · split at h6
        · next e => rw [e]; decide
        · split at h6
          · next e => rw [e]; decide
          · split at h6
            · next e => rw [e]; decide
            · cases h6
    have h7' : field p 7 2 < 32768 := by
      unfold blockSizeOf at h7
      split at h7
      · omega
      · split at h7
        · omega
        · cases h7
    omega

theorem switchOf_none {b : Byte} (h : 2 ≤ b.toNat) : switchOf b = none := by
  unfold switchOf
  split
  · next e => rw [e] at h; simp at h
  · split
    · next e => rw [e] at h; simp at h
    · rfl

theorem noteOf_none {b : Byte} (h : 4 ≤ b.toNat) : noteOf b = none := by
  simp [noteOf, Nat.not_lt.2 h]

/-! ## Directives with a stream or a group number -/

theorem exec_startGroup (hi : byteAt d.params 0 = BitVec.ofNat 8 i.val) :
    exec (.startGroup d) s = .next (s.directive 0x11 d (lengthOk d 1) (startGroupEffect i s)) := by
  rw [← withGroup_some hi fun g => startGroupEffect g s]
  rfl

theorem exec_closeStream (hi : byteAt d.params 0 = BitVec.ofNat 8 i.val) :
    exec (.closeStream d) s = .next (s.directive 0x12 d (lengthOk d 1) (closeStreamEffect i d s)) := by
  rw [← withStream_some hi fun i => closeStreamEffect i d s]
  rfl

theorem exec_closeGroup (hi : byteAt d.params 0 = BitVec.ofNat 8 i.val) :
    exec (.closeGroup d) s = .next (s.directive 0x13 d (lengthOk d 1) (closeGroupEffect i d s)) := by
  rw [← withGroup_some hi fun g => closeGroupEffect g d s]
  rfl

theorem exec_abortStream (hi : byteAt d.params 0 = BitVec.ofNat 8 i.val) :
    exec (.abortStream d) s = .next (s.directive 0x14 d (lengthOk d 1) (abortStreamEffect i s)) := by
  rw [← withStream_some hi fun i => abortStreamEffect i s]
  rfl

theorem exec_flushStream (hi : byteAt d.params 0 = BitVec.ofNat 8 i.val) :
    exec (.flushStream d) s = .next (s.directive 0x15 d (lengthOk d 1) (flushStreamEffect i s)) := by
  rw [← withStream_some hi fun i => flushStreamEffect i s]
  rfl

theorem exec_amend (hi : byteAt d.params 0 = BitVec.ofNat 8 i.val) {word : Fin 4}
    (hword : byteAt d.params 1 = BitVec.ofNat 8 word.val) (checks : List LineCheck) :
    exec (.amend d checks) s = .next (s.directive 0x16 d (lengthOk d 10)
      (amendEffect i (BitVec.ofNat 32 (field d.params 2 4)) word (BitVec.ofNat 32 (field d.params 6 4)) checks s)) := by
  show Host.Outcome.next (s.directive 0x16 d (lengthOk d 10) (withStream d.params s _)) = _
  rw [withStream_some hi, noteOf_ofNat word hword]

theorem exec_verify (hi : byteAt d.params 0 = BitVec.ofNat 8 i.val) :
    exec (.verify d) s = .next (s.directive 0x17 d (lengthOk d 5)
      (verifyEffect i (BitVec.ofNat 32 (field d.params 1 4)) d s)) := by
  rw [← withStream_some hi fun i => verifyEffect i (BitVec.ofNat 32 (field d.params 1 4)) d s]
  rfl

/-! ## The refusals of the operation directives -/

theorem startGroup_refused (hi : byteAt d.params 0 = BitVec.ofNat 8 i.val) (hd : Carries s d 1)
    (h : ∀ j, (s.stream j).cfg.group = i → (s.stream j).phase ≠ .idle ∨ (s.stream j).span = none) :
    exec (.startGroup d) s = .next { s with report := answeredRefused s 0x11 d .badState (memberList s s i) } := by
  refine refused_of_effect hd (exec_startGroup hi) ?_ rfl
  have hnone : ((s.members i).filter fun i => (s.stream i).startable).isEmpty = true := by
    refine List.isEmpty_iff.2 (List.filter_eq_nil_iff.2 fun j hj hstart => ?_)
    obtain ⟨hidle, hspan⟩ := (startable_iff _).1 hstart
    have hgroup : (s.stream j).cfg.group = i := of_decide_eq_true (List.mem_filter.1 hj).2
    exact (h j hgroup).elim (fun e => e hidle) hspan
  unfold startGroupEffect
  simp only [hnone, if_true]

theorem closeGroup_busy (hi : byteAt d.params 0 = BitVec.ofNat 8 i.val) (hd : Carries s d 1)
    (h : ∃ j, (s.stream j).cfg.group = i ∧
      ((∃ sub, (s.stream j).phase = .running sub) ∨ ∃ a, (s.stream j).phase = .closing a)) (hfull : 4 ≤ s.ops.length) :
    exec (.closeGroup d) s = .next { s with report := answeredRefused s 0x13 d .busy [] } := by
  refine refused_of_effect hd (exec_closeGroup hi) ?_ rfl
  obtain ⟨j, hgroup, hphase⟩ := h
  have hsome : (s.closingMembers i).isEmpty = false := by
    refine List.isEmpty_eq_false_iff_exists_mem.2 ⟨j, List.mem_filter.2 ⟨?_, ?_⟩⟩
    · simp [State.members, State.mem_streamIds, hgroup]
    · rcases hphase with ⟨sub, e⟩ | ⟨a, e⟩ <;> simp [e]
  unfold closeGroupEffect
  simp only [hsome, opsFull_iff.2 hfull, Bool.false_eq_true, if_false, if_true]
  rfl

theorem closeStream_badState (hi : byteAt d.params 0 = BitVec.ofNat 8 i.val) (hd : Carries s d 1)
    (h : (s.stream i).phase = .idle ∨ ∃ a, (s.stream i).phase = .closing a) :
    exec (.closeStream d) s = .next { s with report := answeredRefused s 0x12 d .badState [] } := by
  refine refused_of_effect hd (exec_closeStream hi) ?_ rfl
  unfold closeStreamEffect
  rcases h with e | ⟨a, e⟩ <;> rw [e] <;> rfl

theorem closeStream_busy (hi : byteAt d.params 0 = BitVec.ofNat 8 i.val) (hd : Carries s d 1)
    (h : ∃ sub, (s.stream i).phase = .running sub) (hfull : 4 ≤ s.ops.length) :
    exec (.closeStream d) s = .next { s with report := answeredRefused s 0x12 d .busy [] } := by
  refine refused_of_effect hd (exec_closeStream hi) ?_ rfl
  obtain ⟨sub, e⟩ := h
  unfold closeStreamEffect
  rw [e]
  simp only [opsFull_iff.2 hfull, if_true]
  rfl

theorem flushStream_badState (hi : byteAt d.params 0 = BitVec.ofNat 8 i.val) (hd : Carries s d 1)
    (h : ∀ sub, (s.stream i).phase ≠ .running sub) :
    exec (.flushStream d) s = .next { s with report := answeredRefused s 0x15 d .badState [] } := by
  refine refused_of_effect hd (exec_flushStream hi) ?_ rfl
  have hrun : ¬ (s.stream i).phase.isRunning = true := by
    cases hp : (s.stream i).phase with
    | running sub => exact absurd hp (h sub)
    | _ => simp [Phase.isRunning]
  unfold flushStreamEffect
  rw [if_neg hrun]
  rfl

theorem verify_busy (hi : byteAt d.params 0 = BitVec.ofNat 8 i.val) (hd : Carries s d 5)
    (h : s.findBlock i (BitVec.ofNat 32 (field d.params 1 4)) ≠ none) (hfull : 4 ≤ s.ops.length) :
    exec (.verify d) s = .next { s with report := answeredRefused s 0x17 d .busy [] } := by
  refine refused_of_effect hd (exec_verify hi) ?_ rfl
  obtain ⟨⟨slot, r⟩, hfound⟩ := Option.ne_none_iff_exists'.1 h
  unfold verifyEffect
  simp only [hfound, opsFull_iff.2 hfull, if_true]
  rfl

theorem configureGroup_badState (hi : byteAt d.params 0 = BitVec.ofNat 8 i.val) (hd : Carries s d 14)
    (h : ∃ j, (s.stream j).cfg.group = i ∧ (s.stream j).phase ≠ .idle) :
    exec (.configureGroup d) s = .next { s with report := answeredRefused s 0x05 d .badState [] } := by
  refine refused_of_effect (effect := configureGroupEffect d.params s) hd rfl ?_ rfl
  obtain ⟨j, hgroup, hphase⟩ := h
  have hall : ¬ ((s.members i).all fun k => (s.stream k).phase == .idle) = true := by
    intro hall
    rw [List.all_eq_true] at hall
    refine hphase (eq_of_beq (hall j ?_))
    simp [State.members, State.mem_streamIds, hgroup]
  unfold configureGroupEffect
  simp only [groupOf_ofNat i hi, if_neg hall]
  rfl

/-- R154: a stream or group number of 8 or above. -/
theorem numbered_badValue (h : 8 ≤ (byteAt d.params 0).toNat) {c : Instr} {f : StreamId → State × Reply}
    (hd : Carries s d n) (hexec : exec c s = .next (s.directive code d (lengthOk d n) (withStream d.params s f))) :
    exec c s = .next { s with report := answeredRefused s code d .badValue [] } :=
  refused_of_effect hd hexec (withStream_none h f) rfl

theorem grouped_badValue (h : 8 ≤ (byteAt d.params 0).toNat) {c : Instr} {f : GroupId → State × Reply}
    (hd : Carries s d n) (hexec : exec c s = .next (s.directive code d (lengthOk d n) (withGroup d.params s f))) :
    exec c s = .next { s with report := answeredRefused s code d .badValue [] } :=
  refused_of_effect hd hexec (withGroup_none h f) rfl

/-! ## The refusals of the configuration directives -/

theorem configureStream_badValue (hd : Carries s d 30)
    (h : streamOf (byteAt d.params 0) = none ∨ streamConfigOf d.params = none) :
    exec (.configureStream d) s = .next { s with report := answeredRefused s 0x04 d .badValue [] } := by
  refine refused_of_effect (effect := configureStreamEffect d.params s) hd rfl ?_ rfl
  unfold configureStreamEffect
  rcases h with h | h
  · rw [h]; rfl
  · rw [h]
    cases streamOf (byteAt d.params 0) <;> rfl

theorem configureChecked_busy {cfg : StreamConfig} (h : (s.stream i).phase ≠ .idle) :
    configureChecked i cfg s = (s, plain .badState) := by
  unfold configureChecked
  rw [if_pos (bne_iff_ne.2 h)]

theorem configureChecked_quota {cfg : StreamConfig} (hidle : (s.stream i).phase = .idle)
    (h : cfg.quota < (s.stream i).occupancy) : configureChecked i cfg s = (s, plain .badState) := by
  unfold configureChecked
  simp only [hidle, bne_self_eq_false, Bool.false_eq_true, if_false, if_pos h]

theorem configureChecked_invalid {cfg : StreamConfig} {reason : Verdict} {index : Nat}
    (hidle : (s.stream i).phase = .idle) (hquota : (s.stream i).occupancy ≤ cfg.quota)
    (h : validate s.layoutOp cfg.layoutBase = .refused reason index) :
    configureChecked i cfg s = (s, ⟨reason, leBytes 2 index⟩) := by
  unfold configureChecked
  simp only [hidle, bne_self_eq_false, Bool.false_eq_true, if_false, if_neg (Nat.not_lt.2 hquota), h]

theorem setEngine_badValue (hd : Carries s d 3) (h : 2 ≤ (byteAt d.params 0).toNat ∨ 2 ≤ (byteAt d.params 1).toNat) :
    exec (.setEngine d) s = .next { s with report := answeredRefused s 0x01 d .badValue [] } := by
  refine refused_of_effect (effect := setEngineEffect d.params s) hd rfl ?_ rfl
  unfold setEngineEffect
  rcases h with h | h
  · rw [switchOf_none h]; rfl
  · rw [switchOf_none h]
    cases switchOf (byteAt d.params 0) <;> rfl

theorem setEngine_busy {strict loopback : Bool} (hd : Carries s d 3)
    (hstrict : byteAt d.params 0 = BitVec.ofNat 8 strict.toNat)
    (hloopback : byteAt d.params 1 = BitVec.ofNat 8 loopback.toNat) (hne : loopback ≠ s.settings.loopback)
    (h : (∃ i, (s.stream i).phase ≠ .idle) ∨ s.alt.outstanding ≠ []) :
    exec (.setEngine d) s = .next { s with report := answeredRefused s 0x01 d .busy [] } := by
  refine refused_of_effect (effect := setEngineEffect d.params s) hd rfl ?_ rfl
  have hbusy : (loopback != s.settings.loopback && !(s.allIdle && s.alt.outstanding.isEmpty)) = true := by
    rw [Bool.and_eq_true, bne_iff_ne, Bool.not_eq_true', Bool.and_eq_false_iff]
    refine ⟨hne, ?_⟩
    rcases h with ⟨j, hj⟩ | hout
    · exact .inl (List.all_eq_false.2 ⟨j, State.mem_streamIds j, by simpa using hj⟩)
    · exact .inr (by simpa using hout)
  unfold setEngineEffect
  simp only [switchOf_ofNat strict hstrict, switchOf_ofNat loopback hloopback, hbusy, if_true]
  rfl

/-! ## The refusals of WRITE LAYOUT -/

section
variable {first : Nat} {list : List (Option LayoutEntry)}

theorem writeLayout_outside (hlow : 512 ≤ first) (hfirst : field d.params 0 2 = first) :
    writeLayoutEffect d.params s = (s, plain .badValue) := by
  unfold writeLayoutEffect
  simp only [hfirst, if_pos hlow]

theorem writeLayout_noKind {before after : List (Option LayoutEntry)} (hfirst : field d.params 0 2 = first)
    (hlow : first < 512) (hlist : layoutListOf d.params (byteAt d.params 2).toNat = before ++ none :: after)
    (hbefore : none ∉ before) :
    writeLayoutEffect d.params s = (s, ⟨.badValue, leBytes 2 (first + before.length)⟩) := by
  have hindex : (before ++ none :: after).findIdx? Option.isNone = some before.length := by
    have hnone : before.findIdx? Option.isNone = none := by
      rw [List.findIdx?_eq_none_iff]
      intro x hx
      cases x with
      | none => exact absurd hx hbefore
      | some e => rfl
    rw [List.findIdx?_append, hnone]
    simp [List.findIdx?_cons]
  unfold writeLayoutEffect
  simp only [hfirst, if_neg (Nat.not_le.2 hlow), hlist, hindex]

/-- R26: the entries of a list that all name a kind. -/
theorem writeLayout_kinds {entries : List LayoutEntry} (hfirst : field d.params 0 2 = first) (hlow : first < 512)
    (hlist : layoutListOf d.params (byteAt d.params 2).toNat = entries.map some) :
    writeLayoutEffect d.params s =
      if 512 < first + (byteAt d.params 2).toNat || entries.any LayoutEntry.lastOutOfTable then (s, plain .badValue)
      else match s.spanUsers first (byteAt d.params 2).toNat with
        | i :: _ => (s, ⟨.inUse, leBytes 1 i⟩)
        | [] => (streamIds.foldl (State.withdrawSpan first (byteAt d.params 2).toNat)
            (s.setLayout (State.writeEntries first entries s.layout)), plain .done) := by
  have hnone : (entries.map some).findIdx? Option.isNone = none := by
    rw [List.findIdx?_eq_none_iff]
    simp
  have hentries : (entries.map some).filterMap id = entries := by
    simp [List.filterMap_map]
  unfold writeLayoutEffect
  simp only [hfirst, if_neg (Nat.not_le.2 hlow), hlist, hnone, hentries] <;> rfl

end

/-- A list without an absent entry. -/
theorem exists_map_some {α : Type} {list : List (Option α)} (h : none ∉ list) :
    ∃ entries : List α, list = entries.map some := by
  induction list with
  | nil => exact ⟨[], rfl⟩
  | cons x rest ih =>
    obtain ⟨entries, rfl⟩ := ih fun e => h (List.mem_cons_of_mem _ e)
    cases x with
    | none => exact absurd (List.mem_cons_self ..) h
    | some e => exact ⟨e :: entries, rfl⟩

/-- The stream numbers ascend. -/
theorem streamIds_split (i : StreamId) : ∃ before after, streamIds = before ++ i :: after ∧ ∀ j ∈ before, j < i :=
  ⟨streamIds.take i.val, streamIds.drop (i.val + 1), by revert i; decide, by revert i; decide⟩

/-- R27: the lowest stream that the write would touch. -/
theorem spanUsers_head {first n low high : Nat} (hspan : (s.stream i).span = some (low, high))
    (hphase : (s.stream i).phase ≠ .idle) (hfirst : first ≤ high) (hlow : low < first + n)
    (hbelow : ∀ j low high, j < i → (s.stream j).span = some (low, high) → (s.stream j).phase ≠ .idle →
      high < first ∨ first + n ≤ low) : ∃ rest, s.spanUsers first n = i :: rest := by
  have huser : ∀ j, ((s.stream j).phase != .idle && spanTouched (s.stream j).span first n) = true ↔
      (s.stream j).phase ≠ .idle ∧ spanTouched (s.stream j).span first n = true := fun j => by
    rw [Bool.and_eq_true, bne_iff_ne]
  obtain ⟨before, after, hids, hlt⟩ := streamIds_split i
  refine ⟨after.filter fun j => (s.stream j).phase != .idle && spanTouched (s.stream j).span first n, ?_⟩
  unfold State.spanUsers
  rw [hids, List.filter_append, List.filter_cons, if_pos ((huser i).2 ⟨hphase, ?_⟩), List.filter_eq_nil_iff.2 ?_]
  · rfl
  · intro j hj hu
    obtain ⟨hp, ht⟩ := (huser j).1 hu
    cases hs : (s.stream j).span with
    | none => rw [hs] at ht; cases ht
    | some p =>
      obtain ⟨l, h⟩ := p
      rw [hs, spanTouched_some] at ht
      have := hbelow j l h (hlt j hj) hs hp
      omega
  · rw [hspan, spanTouched_some]
    exact ⟨hfirst, hlow⟩

end

end Sys2Proof.Machine

namespace Sys2Proof

open Machine Safety

/-- Settles O23: each refusal is what the directive's effect answers, with the state as it was. -/
theorem refusedDirectivesChangeNothing : Obligations.RefusedDirectivesChangeNothing := by
  intro s d
  refine ⟨fun i hi => ⟨?_, ?_, ?_, startGroup_refused hi, closeGroup_busy hi, verify_busy hi, ?_, closeStream_badState hi,
    closeStream_busy hi, flushStream_badState hi, configureGroup_badState hi⟩, ?_, ?_, ?_, setEngine_badValue,
    fun strict loopback => setEngine_busy⟩
  · intro hd hphase hcfg
    obtain ⟨cfg, hcfg⟩ := Option.ne_none_iff_exists'.1 hcfg
    exact refused_of_effect hd (exec_configureStream hi hcfg) (configureChecked_busy hphase) rfl
  · intro cfg hd hidle hcfg
    refine ⟨fun hquota => ?_, fun reason index hquota hval => ⟨validate_reason hval, ?_⟩⟩
    · exact refused_of_effect hd (exec_configureStream hi hcfg) (configureChecked_quota hidle hquota) rfl
    · refine refused_of_effect hd (exec_configureStream hi hcfg) (configureChecked_invalid hidle hquota hval) ?_
      have hreason := validate_reason hval
      simp only [List.mem_cons, List.not_mem_nil, or_false] at hreason
      rcases hreason with rfl | rfl | rfl | rfl | rfl <;> rfl
  · exact fun hd h => configureStream_badValue hd (.inr (streamConfigOf_none h))
  · intro checks hd hword
    refine refused_of_effect (effect := (s, plain .badValue)) (n := 10) hd ?_ rfl rfl
    show Host.Outcome.next (s.directive 0x16 d (lengthOk d 10) (withStream d.params s _)) = _
    rw [withStream_some hi, noteOf_none hword]
  · intro hnumber hd
    exact ⟨numbered_badValue hnumber hd rfl, grouped_badValue hnumber hd rfl, numbered_badValue hnumber hd rfl,
      grouped_badValue hnumber hd rfl, numbered_badValue hnumber hd rfl, numbered_badValue hnumber hd rfl,
      numbered_badValue hnumber hd rfl, grouped_badValue hnumber hd rfl⟩
  · intro hnumber
    refine ⟨fun hd => configureStream_badValue hd (.inl (streamOf_none hnumber)), fun hd => ?_,
      fun checks hd => numbered_badValue hnumber hd rfl, fun hd => numbered_badValue hnumber hd rfl⟩
    refine refused_of_effect (effect := configureGroupEffect d.params s) hd rfl ?_ rfl
    unfold configureGroupEffect
    rw [groupOf_none hnumber]
    rfl
  · intro first n list hfirst hcount h1 h32 hd hlen hlist
    have hexec : exec (.writeLayout d) s = _ := exec_writeLayout hd hcount h1 h32
    have hof : layoutListOf d.params (byteAt d.params 2).toNat = list := by
      rw [hcount]
      exact layoutListOf_eq hlen hlist
    refine ⟨fun hout => refused_of_effect hd hexec (writeLayout_outside hout hfirst) rfl, ?_, ?_, ?_⟩
    · intro hlow before after hsplit hbefore
      exact refused_of_effect hd hexec (writeLayout_noKind hfirst hlow (hof.trans hsplit) hbefore) rfl
    · intro hlow hkinds hbad
      obtain ⟨entries, rfl⟩ := exists_map_some hkinds
      refine refused_of_effect hd hexec ((writeLayout_kinds hfirst hlow hof).trans ?_) rfl
      rw [if_pos]
      · rfl
      · rw [Bool.or_eq_true, decide_eq_true_eq, List.any_eq_true, hcount]
        refine hbad.imp id fun ⟨e, count, forever, last, hmem, hop, hge⟩ => ⟨e, ?_, ?_⟩
        · simpa using hmem
        · exact lastOutOfTable_iff.2 ⟨count, forever, last, hop, hge⟩
    · intro hfit hkinds hlast i ⟨low, high, hspan, hphase, hhigh, hlow⟩ hbelow
      obtain ⟨entries, rfl⟩ := exists_map_some hkinds
      refine refused_of_effect hd hexec ((writeLayout_kinds hfirst (by omega) hof).trans ?_) rfl
      obtain ⟨rest, husers⟩ := spanUsers_head hspan hphase hhigh hlow hbelow
      rw [if_neg, hcount, husers]
      rw [Bool.or_eq_true, decide_eq_true_eq, List.any_eq_true, hcount]
      rintro (hgt | ⟨e, hmem, hout⟩)
      · omega
      · obtain ⟨count, forever, last, hop, hge⟩ := lastOutOfTable_iff.1 hout
        have := hlast e count forever last (by simpa using hmem) hop
        omega

end Sys2Proof
end

section
/-! PROOFS. AMEND and VERIFY of a block that is looked for, the receiver's sync, the link's frames, the transmitter's moves and
the return lane. -/

-- One theorem at a time: the stacks of a thread each would exceed the memory of the check.
set_option Elab.async false

namespace Sys2Proof.Machine

open Sys2Proof.Safety

section
variable {s : State} {i : StreamId} {seq : BitVec 32}

/-! ## The block that AMEND and VERIFY look for (R95) -/

theorem mem_carriers {slot : Nat} {r : SlotRecord} : (slot, r) ∈ s.carriers i seq ↔ Carrier s i seq slot r := by
  unfold State.carriers Carrier
  rw [List.mem_filter]
  simp only [Bool.and_eq_true, beq_iff_eq, and_assoc]

/-- The block without the aborted mark comes first. -/
theorem findBlock_unmarked {x : Nat × SlotRecord} (h : (s.carriers i seq).find? (fun x => !x.2.aborted) = some x) :
    s.findBlock i seq = some x := by
  unfold State.findBlock
  simp only [h]

/-- Where every block bears the mark, the one whose send began last is found. -/
theorem findBlock_marked (h : (s.carriers i seq).find? (fun x => !x.2.aborted) = none) :
    s.findBlock i seq = (s.sendOrder.filterMap fun slot => (s.carriers i seq).find? fun x => x.1 == slot).head? := by
  unfold State.findBlock
  simp only [h]

theorem findBlock_carrier {slot : Nat} {r : SlotRecord} (h : s.findBlock i seq = some (slot, r)) :
    Carrier s i seq slot r ∧ (r.aborted = true → ∀ n q, Carrier s i seq n q → q.aborted = true) := by
  cases hf : (s.carriers i seq).find? (fun x => !x.2.aborted) with
  | some x =>
    obtain rfl : x = (slot, r) := Option.some.inj ((findBlock_unmarked hf).symm.trans h)
    refine ⟨mem_carriers.1 (List.mem_of_find?_eq_some hf), fun ha => ?_⟩
    have hclear := List.find?_some hf
    simp [ha] at hclear
  | none =>
    rw [findBlock_marked hf, List.head?_eq_some_iff] at h
    obtain ⟨ys, h⟩ := h
    obtain ⟨n, -, hn⟩ := List.mem_filterMap.1 (h ▸ List.mem_cons_self)
    refine ⟨mem_carriers.1 (List.mem_of_find?_eq_some hn), fun _ n q hq => ?_⟩
    have := List.find?_eq_none.1 hf _ (mem_carriers.2 hq)
    simpa using this

/-- Of blocks that all bear the mark, the first in the order of sends is found. -/
theorem findBlock_first {n : Nat} {r : SlotRecord} {before after : List Nat}
    (hmarked : ∀ n q, Carrier s i seq n q → q.aborted = true) (horder : s.sendOrder = before ++ n :: after)
    (hr : Carrier s i seq n r) (hbefore : ∀ c ∈ before, ∀ q, ¬ Carrier s i seq c q) :
    ∃ q, s.findBlock i seq = some (n, q) := by
  have hnone : (s.carriers i seq).find? (fun x => !x.2.aborted) = none := by
    refine List.find?_eq_none.2 fun x hx => ?_
    simp [hmarked x.1 x.2 (mem_carriers.1 hx)]
  obtain ⟨⟨k, q⟩, hq⟩ := Option.isSome_iff_exists.1 (List.find?_isSome.2
    ⟨(n, r), mem_carriers.2 hr, beq_self_eq_true n⟩ :
      ((s.carriers i seq).find? fun x => x.1 == n).isSome = true)
  obtain rfl : k = n := by simpa using List.find?_some hq
  have hskip : before.filterMap (fun slot => (s.carriers i seq).find? fun x => x.1 == slot) = [] := by
    refine List.filterMap_eq_nil_iff.2 fun c hc => List.find?_eq_none.2 fun x hx hxc => ?_
    obtain rfl : x.1 = c := eq_of_beq hxc
    exact hbefore _ hc x.2 (mem_carriers.1 hx)
  refine ⟨q, ?_⟩
  rw [findBlock_marked hnone, horder, List.filterMap_append, hskip, List.nil_append, List.filterMap_cons, hq]
  rfl

theorem given_iff {x : Machine.Stream} : x.given seq = true ↔
    x.gaveSeq = true ∧ 1 ≤ (x.nextSeq - seq).toNat ∧ (x.nextSeq - seq).toNat ≤ 2 ^ 31 := by
  unfold Stream.given
  simp only [Bool.and_eq_true, decide_eq_true_eq, and_assoc]

/-! ## The transmitter -/

/-- R125, R126: while the link has sync, outside loopback, inbound frames are taken. -/
theorem takesInbound_iff : s.takesInbound = true ↔ s.alt.archiveSync = true ∧ s.settings.loopback = false := by
  simp [State.takesInbound]

theorem linkUsable_iff : s.linkUsable = true ↔ s.settings.loopback = true ∨ s.alt.linkState ≠ .down := by
  simp [State.linkUsable]

theorem changeRecord_of_some {n : Nat} {r : SlotRecord} (h : s.slotRecord n = some r) (f : SlotRecord → SlotRecord) :
    s.changeRecord n f = s.putRecord n (f r) := by
  simp only [State.changeRecord, h]

/-- R135, R13: a send that is done, and the stream's entry into IDLE. -/
theorem exec_sendDone {b : SendingBlock} {r : SlotRecord} (hb : s.alt.sending = some b)
    (hr : s.spill.slots.find b.slot = some r) : ∃ own, exec .sendDone s = .next (
      let u := { s with
        spill := { s.spill with slots := s.spill.slots.put b.slot { r with place := .outstanding } }
        alt := State.sentAlt s.alt b s.settings.loopback
        own := own }
      if (s.stream r.stream).phase = .closing true then (u.enterIdle r.stream true).settleOps else u) := by
  have hrecord : s.slotRecord b.slot = some r := hr
  by_cases hloop : s.settings.loopback = true
  · refine ⟨s.own, ?_⟩
    simp only [exec, execSendDone, hb, changeRecord_of_some hrecord, hrecord, hloop, if_true, beq_iff_eq]
    rfl
  · refine ⟨{ s.own with archiveOut := s.own.archiveOut ++ [⟨b.link, b.bytes, .complete⟩] }, ?_⟩
    simp only [exec, execSendDone, hb, changeRecord_of_some hrecord, hrecord, hloop, beq_iff_eq]
    rfl

/-- R158: the settling of operations touches the list and the reports alone. -/
theorem settleOps_eq (s : State) : s.settleOps = { s with ops := s.settleOps.ops, report := s.settleOps.report } := by
  have hfold : ∀ (l : List Answer) (u : State), l.foldl State.offer u = { u with report := (l.foldl State.offer u).report } := by
    intro l
    induction l with
    | nil => exact fun _ => rfl
    | cons e l ih =>
      intro u
      rw [List.foldl_cons, ih (u.offer e), State.offer_eq]
  have hops : s.settleOps.ops = s.ops.filter fun o => o.ended.isNone := by
    unfold State.settleOps
    rw [hfold]
    rfl
  rw [hops]
  unfold State.settleOps
  rw [hfold]
  rfl

/-- R162: a report unit whose lane is free has nothing to end. -/
theorem endReport_idle (h : s.report.lane = none) (e : Ending) : s.endReport e = s := by
  simp [State.endReport, State.laneContent, h]

theorem endReport_event {p : EventPair} {items : List SnapItem} (h : s.report.lane = some (.event p items)) (e : Ending) :
    s.endReport e = s.setOwn { s.own with reportOut := s.own.reportOut ++ [⟨.event p items, e⟩] } := by
  simp [State.endReport, State.laneContent, h]

theorem endReport_head {x : Answer} {rest : List Answer} (h : s.report.lane = some .head) (hf : s.report.fifo = x :: rest)
    (e : Ending) : s.endReport e = s.setOwn { s.own with reportOut := s.own.reportOut ++ [⟨.answer x, e⟩] } := by
  simp [State.endReport, State.laneContent, h, hf]

/-- The end of a report frame touches the list of frames gone out alone. -/
theorem endReport_out (s : State) (e : Ending) : ∃ out, s.endReport e = s.setOwn { s.own with reportOut := out } := by
  unfold State.endReport
  split
  · exact ⟨s.own.reportOut, rfl⟩
  · exact ⟨_, rfl⟩

theorem putBack_eq (s : State) (p : EventPair) : s.putBack p =
    if s.enabled p = true ∧ p ∉ s.report.events then p :: s.report.events else s.report.events := by
  simp only [State.putBack, Bool.and_eq_true, Bool.not_eq_true', List.contains_eq_mem, decide_eq_false_iff_not]

end

end Sys2Proof.Machine

namespace Sys2Proof

open Machine Safety

/-- Settles O19: VERIFY enters its operation; what both look for is read off the carriers and the order of sends. -/
theorem verifyEntersTheListAndAbsentBlocksAreRefused : Obligations.VerifyEntersTheListAndAbsentBlocksAreRefused := by
  refine ⟨fun s d i slot r hd hi hfound hroom => ?_, fun s i seq => ⟨fun slot r => findBlock_carrier, ?_, fun hmarked => ⟨?_, ?_⟩⟩, ?_⟩
  · have heffect : verifyEffect i (BitVec.ofNat 32 (field d.params 1 4)) d s =
        (s.enterOp d (.verify i slot (r.place != .openBlock)), plain .accepted) := by
      simp only [verifyEffect, hfound, State.opsFull_eq_false.2 hroom, Bool.false_eq_true, if_false]
    rw [exec_verify hi, heffect, plain, directive_done hd (.inr rfl)]
    have : (r.place != .openBlock) = decide (r.place ≠ .openBlock) := by
      cases r.place <;> rfl
    rw [this]
    rfl
  · intro slot r hr ha
    obtain ⟨x, hx⟩ := Option.isSome_iff_exists.1 (List.find?_isSome.2 ⟨(slot, r), mem_carriers.2 hr, by simp [ha]⟩ :
      ((s.carriers i seq).find? fun x => !x.2.aborted).isSome = true)
    rw [findBlock_unmarked hx]
    exact nofun
  · intro b r hb hr
    exact findBlock_first hmarked (before := []) (by simp [State.sendOrder, hb]; rfl) hr (fun _ h => (nomatch h))
  · intro before b after r hout hr hafter
    have horder : s.sendOrder = ((s.alt.sending.map SendingBlock.slot).toList ++ (after.map SentBlock.slot).reverse) ++
        b.slot :: (before.map SentBlock.slot).reverse := by
      unfold State.sendOrder
      cases s.alt.sending <;> simp [hout]
    refine findBlock_first hmarked horder hr fun c hc q => hafter c q ?_
    simpa [List.mem_append] using hc
  · intro s d i word seq hi
    refine ⟨fun hd hword hseq checks => ?_, fun hd hseq hnone => ?_⟩
    · refine ⟨fun hnone v hv => ?_, fun slot r hfound hplace => ?_⟩
      · have heffect : amendEffect i (BitVec.ofNat 32 (field d.params 2 4)) word (BitVec.ofNat 32 (field d.params 6 4)) checks s =
            (s, ⟨v, []⟩) := by
          simp only [amendEffect, ← hseq, hnone, given_iff, hv]
          rfl
        refine refused_of_effect hd (exec_amend hi hword checks) heffect ?_
        rw [hv]
        split <;> rfl
      · refine refused_of_effect hd (exec_amend hi hword checks) ?_ rfl
        rcases hplace with hp | hp <;> simp only [amendEffect, ← hseq, hfound, hp] <;> rfl
    · have heffect : verifyEffect i (BitVec.ofNat 32 (field d.params 1 4)) d s =
          (s, plain (if (s.stream i).given seq then .gone else .noBlock)) := by
        simp only [verifyEffect, ← hseq, hnone]
      refine ⟨fun hgave hlow hhigh => ?_, fun hnot => ?_⟩
      · rw [if_pos (given_iff.2 ⟨hgave, hlow, hhigh⟩)] at heffect
        rw [exec_verify hi, heffect, plain, directive_done hd (.inl rfl)]
      · rw [if_neg (fun h => ?_)] at heffect
        · exact refused_of_effect hd (exec_verify hi) heffect rfl
        · obtain ⟨hgave, hlow, hhigh⟩ := given_iff.1 h
          rcases hnot with h | h | h
          · rw [h] at hgave; cases hgave
          · omega
          · omega

/-- Settles O24: each of the three events writes the fields named. -/
theorem badFramesAndSyncActOnTheReceiverAlone : Obligations.BadFramesAndSyncActOnTheReceiverAlone := by
  refine ⟨fun s bytes hsync hbad => ?_, fun s => rfl, fun s => ?_⟩
  · have hcount : exec (.badFrame bytes) s = .next s.countBad := by
      show Host.Outcome.next (if s.receiver.inSync && isBadCapture bytes then s.countBad else s) = _
      rw [if_pos]
      simp [hsync, isBadCapture, hbad]
    rw [hcount, State.countBad, satAdd_one]
    rfl
  · obtain ⟨out, hout⟩ := endReport_out s .cutOff
    refine ⟨{ s.own with reportOut := out }, ?_, rfl, rfl⟩
    show Host.Outcome.next (s.cutLane.setReceiver ⟨false, none⟩) = _
    unfold State.cutLane
    rw [hout]
    rcases s.report.lane with _ | _ | ⟨p, items⟩
    case some.event =>
      dsimp only
      rw [putBack_eq]
      rfl
    all_goals rfl

/-- Settles O35: LINK_UP and CREDIT, by the checks they make. -/
theorem linkUpAndCreditOpenTheLink : Obligations.LinkUpAndCreditOpenTheLink := by
  refine ⟨fun s => ⟨fun hloop hdown => ?_, fun h => ?_⟩, fun s k hsync hloop hlow hhigh => ?_⟩
  · show Host.Outcome.next (if s.settings.loopback || s.alt.linkState != .down then _ else _) = _
    rw [if_neg (by simp [hloop, hdown]), State.raise_eq]
    rfl
  · show Host.Outcome.next (if s.settings.loopback || s.alt.linkState != .down then _ else _) = _
    rw [if_pos (by simpa using h)]
    rfl
  · show Host.Outcome.next (if !s.takesInbound then s else if 1 ≤ k.toNat && k.toNat ≤ 64 then _ else _) = _
    rw [if_neg (by simp [takesInbound_iff.2 ⟨hsync, hloop⟩]), if_pos (by simp [hlow, hhigh])]
    rfl

/-- Settles O42: MOVE_TO_SENDING and SEND_DONE, with R13's entry into IDLE. -/
theorem readyCopiesMoveAndSendsAppend : Obligations.ReadyCopiesMoveAndSendsAppend := by
  refine ⟨fun s b r hb hready hsend hcred hlink hr => ?_, fun s b r hb hr => ?_⟩
  · show Host.Outcome.next (if !s.mayMove then s else _) = _
    rw [if_neg, hb]
    · dsimp only
      rw [changeRecord_of_some hr]
      rfl
    · simp [State.mayMove, hb, hready, hsend, hcred, linkUsable_iff.2 hlink]
  · obtain ⟨own, hsent⟩ := exec_sendDone hb hr
    by_cases hphase : (s.stream r.stream).phase = .closing true
    · rw [if_pos hphase] at hsent
      refine ⟨_, hsent, ?_, ?_, fun i => ?_, ?_, fun h => absurd hphase h⟩
      · rw [settleOps_eq]
        simp [State.enterIdle, State.sentAlt]
      · rw [settleOps_eq]
        rfl
      · rw [State.settleOps_stream]
        show State.stream (State.setStream _ _ _) i = _
        rw [State.setStream_stream]
        by_cases hi : i = r.stream
        · subst hi
          rw [if_pos rfl, if_pos ⟨rfl, hphase⟩]
          rfl
        · rw [if_neg hi, if_neg fun h => hi h.1]
          rfl
      · rw [settleOps_eq]
        rfl
    · rw [if_neg hphase] at hsent
      refine ⟨_, hsent, ?_, rfl, fun i => ?_, rfl, fun _ => ⟨rfl, rfl⟩⟩
      · simp [State.sentAlt]
      · rw [if_neg]
        · rfl
        · rintro ⟨rfl, h⟩
          exact hphase h

/-- Settles O47: the lane's two events, and the three acts of the report unit. -/
theorem reportsAreQueuedAndSentAnswersFirst : Obligations.ReportsAreQueuedAndSentAnswersFirst := by
  refine ⟨fun s => ⟨fun hsync hlane => ⟨fun hfifo => ?_, fun p rest hfifo hevents => ?_⟩, fun e rest hlane hfifo => ?_,
    fun p items hlane => ?_⟩, fun s => ⟨fun e hroom => ?_, fun e hfull => ?_, fun p => State.raise_eq s p⟩⟩
  · show Host.Outcome.next (if !s.receiver.inSync || s.report.lane.isSome then s else _) = _
    rw [if_neg (by simp [hsync, hlane]), if_pos (by simpa using hfifo)]
    rfl
  · show Host.Outcome.next (if !s.receiver.inSync || s.report.lane.isSome then s else _) = _
    rw [if_neg (by simp [hsync, hlane]), if_neg (by simp [hfifo]), hevents]
    rfl
  · show Host.Outcome.next (match s.report.lane with | none => s | some .head => _ | some (.event _ _) => _) = _
    rw [hlane, endReport_head hlane hfifo]
    simp only [State.setOwn_report, hfifo]
    rfl
  · show Host.Outcome.next (match s.report.lane with | none => s | some .head => _ | some (.event _ _) => _) = _
    rw [hlane, endReport_event hlane]
    rfl
  · rw [State.offer_eq]
    simp [admitted, hroom]
  · rw [State.offer_eq]
    simp [admitted, Nat.not_lt.2 hfull]

end Sys2Proof
end

section
/-! PROOFS. Arithmetic and formats: fields, windows, start times, target counts and the two CRCs of a block. -/

-- One theorem at a time: the stacks of a thread each would exceed the memory of the check.
set_option Elab.async false

namespace Sys2Proof.Machine

open Sys2Proof.Safety

/-! ## Fields (R23) -/

/-- R23: the bits of a field, as a number. -/
theorem field_bits (word : SampleWord) (offset width : Nat) :
    ((word >>> offset).setWidth width).toNat = word.toNat / 2 ^ offset % 2 ^ width := by
  rw [BitVec.toNat_setWidth, BitVec.toNat_ushiftRight, Nat.shiftRight_eq_div_pow]

theorem extractField_unsigned (word : SampleWord) (offset width : Nat) :
    extractField .unsigned word offset width = ((word >>> offset).setWidth width).toNat := by
  rw [field_bits]
  rfl

theorem extractField_signed (word : SampleWord) (offset : Nat) {width : Nat} (h : 1 ≤ width) :
    extractField .signed word offset width = ((word >>> offset).setWidth width).toInt := by
  have hpow : 2 ^ width = 2 * 2 ^ (width - 1) := by
    rw [← Nat.pow_succ']
    congr 1
    omega
  rw [BitVec.toInt_eq_toNat_cond, field_bits]
  unfold extractField
  dsimp only
  generalize word.toNat / 2 ^ offset % 2 ^ width = bits
  by_cases hge : 2 ^ (width - 1) ≤ bits
  · rw [if_pos hge, if_neg (by omega)]
    simp
  · rw [if_neg hge, if_pos (by omega)]

/-! ## Windows (R51 to R54) -/

/-- R49: a window that a list of inputs has joined. -/
theorem foldl_add (w : Window) (vs : List Int) : ∃ low high, vs.foldl Window.add w =
    { w with count := w.count + vs.length, sum := w.sum + vs.sum, low := low, high := high } ∧
    low ∈ w.low :: vs ∧ high ∈ w.high :: vs ∧ (∀ x ∈ w.low :: vs, low ≤ x) ∧ ∀ x ∈ w.high :: vs, x ≤ high := by
  induction vs generalizing w with
  | nil => exact ⟨w.low, w.high, by simp, by simp⟩
  | cons v vs ih =>
    obtain ⟨low, high, hfold, hlow, hhigh, hmin, hmax⟩ := ih (w.add v)
    simp only [Window.add, List.mem_cons, forall_eq_or_imp] at hlow hhigh hmin hmax
    refine ⟨low, high, ?_, ?_, ?_, ?_, ?_⟩
    · rw [List.foldl_cons, hfold]
      simp [Window.add, Nat.add_assoc, Nat.add_comm 1, Int.add_assoc]
    · simp only [List.mem_cons]
      rcases hlow with h | h
      · rcases min_choice w.low v with e | e
        · exact .inl (h.trans e)
        · exact .inr (.inl (h.trans e))
      · exact .inr (.inr h)
    · simp only [List.mem_cons]
      rcases hhigh with h | h
      · rcases max_choice w.high v with e | e
        · exact .inl (h.trans e)
        · exact .inr (.inl (h.trans e))
      · exact .inr (.inr h)
    · simp only [List.mem_cons, forall_eq_or_imp]
      exact ⟨le_trans hmin.1 (min_le_left _ _), le_trans hmin.1 (min_le_right _ _), hmin.2⟩
    · simp only [List.mem_cons, forall_eq_or_imp]
      exact ⟨le_trans (le_max_left _ _) hmax.1, le_trans (le_max_right _ _) hmax.1, hmax.2⟩

theorem Window.point_first {w : Window} (h : w.mode = .pass ∨ w.mode = .decimate) : w.point = [w.firstValue] := by
  unfold Window.point
  rcases h with h | h <;> rw [h]

theorem Window.point_envelope {w : Window} (h : w.mode = .envelope) : w.point = [w.low, w.high] := by
  unfold Window.point
  rw [h]

theorem Window.point_mean {w : Window} (h : w.mode = .mean) : w.point = [meanPoint w.sum w.count] := by
  unfold Window.point
  rw [h]

/-- The sum of a list lies between its length times a lower bound and its length times an upper bound. -/
theorem sum_bounds {low high : Int} (l : List Int) (hlow : ∀ x ∈ l, low ≤ x) (hhigh : ∀ x ∈ l, x ≤ high) :
    low * l.length ≤ l.sum ∧ l.sum ≤ high * l.length := by
  induction l with
  | nil => simp
  | cons x l ih =>
    obtain ⟨h1, h2⟩ := ih (fun y hy => hlow y (List.mem_cons_of_mem _ hy)) (fun y hy => hhigh y (List.mem_cons_of_mem _ hy))
    have hx := hlow x List.mem_cons_self
    have hy := hhigh x List.mem_cons_self
    simp only [List.sum_cons, List.length_cons, Nat.cast_add, Nat.cast_one, mul_add, mul_one]
    omega

/-- R54: the mean rounds halves upward. -/
theorem meanPoint_rounds (sum : Int) {k : Nat} (hk : 0 < k) :
    2 * (sum - meanPoint sum k * k) < k ∧ -(k : Int) ≤ 2 * (sum - meanPoint sum k * k) := by
  unfold meanPoint
  rw [Int.fdiv_eq_ediv_of_nonneg _ (Int.natCast_nonneg k)]
  have hdiv := Int.mul_ediv_add_emod (sum + (k / 2 : Nat)) k
  have hlow := Int.emod_nonneg (sum + (k / 2 : Nat)) (b := (k : Int)) (by omega)
  have hhigh := Int.emod_lt_of_pos (sum + (k / 2 : Nat)) (b := (k : Int)) (by omega)
  rw [mul_comm] at hdiv
  omega

/-- R54: the mean lies within the bounds of what it averages. -/
theorem meanPoint_between {sum low high : Int} {k : Nat} (hk : 0 < k) (hlow : low * k ≤ sum) (hhigh : sum ≤ high * k) :
    low ≤ meanPoint sum k ∧ meanPoint sum k ≤ high := by
  unfold meanPoint
  rw [Int.fdiv_eq_ediv_of_nonneg _ (Int.natCast_nonneg k)]
  constructor
  · rw [Int.le_ediv_iff_mul_le (by omega)]
    omega
  · refine Int.lt_add_one_iff.1 ((Int.ediv_lt_iff_lt_mul (by omega)).2 ?_)
    rw [add_mul, one_mul]
    omega

/-! ## Start times (R60, R61) -/

theorem saturateTime_eq (t : Int) : saturateTime t = (max 0 (min t (2 ^ 64 - 1))).toNat := by
  unfold saturateTime Config.timeMax
  split <;> omega

theorem exactTime_eq (a : Anchor) (n : Nat) : exactTime a n = a.time + (((n : Int) - a.index) * a.period) / 1000 := by
  unfold exactTime
  rw [Int.fdiv_eq_ediv_of_nonneg _ (by decide)]

theorem timeSaturates_iff (t : Int) : timeSaturates t = true ↔ t < 0 ∨ 2 ^ 64 ≤ t := by
  unfold timeSaturates Config.timeMax
  simp only [Bool.or_eq_true, decide_eq_true_eq]
  omega

theorem startClamps_iff {prev : Option Nat} {t : Nat} : startClamps prev t = true ↔ ∃ p, prev = some p ∧ t < p := by
  cases prev <;> simp [startClamps]

theorem clampStart_eq (prev : Option Nat) (t : Nat) : clampStart prev t = max (prev.getD 0) t := by
  cases prev <;> simp [clampStart]

/-- R67: a flag bit that stands under a condition. -/
theorem getLsbD_flagWhen (c : Bool) (f : BitVec 16) (k : Nat) : (Flag.when c f).getLsbD k = (c && f.getLsbD k) := by
  cases c <;> simp [Flag.when]

/-- R67: the flags of a block that opens, each under its own condition. -/
theorem newBlock_flags (x : Machine.Stream) (i : StreamId) (slot n : Nat) (gap : Option GapSection) :
    (State.newBlock x i slot gap n).header.flags.getLsbD 0 = x.firstMark ∧
    (State.newBlock x i slot gap n).header.flags.getLsbD 1 = x.lateStart ∧
    (State.newBlock x i slot gap n).header.flags.getLsbD 2 = startSaturates x.anchor n ∧
    (State.newBlock x i slot gap n).header.flags.getLsbD 3 = startClamps x.prevStart (inputTime x.anchor n) ∧
    (State.newBlock x i slot gap n).header.flags.getLsbD 4 = gap.isSome := by
  simp only [State.newBlock, BitVec.getLsbD_or, getLsbD_flagWhen]
  simp [Flag.firstOfSegment, Flag.lateStart, Flag.timeSaturated, Flag.timeClamped, Flag.gapSection]

theorem raise_report (s : State) (p : EventPair) : (s.raise p).report = raisedIn s.report (s.enabled p) p := by
  rw [State.raise_eq]

/-- R61: TIME_CLAMPED is raised as a block opens with a start time that was raised. -/
theorem openIn_report (s : State) (i : StreamId) (slot n : Nat) (gap : Option GapSection) (timed : Bool) :
    (s.openIn i slot gap n timed).report =
      if startClamps (s.stream i).prevStart (inputTime (s.stream i).anchor n) = true then
        raisedIn s.report (s.enabled (.stream i .timeClamped)) (.stream i .timeClamped)
      else s.report := by
  have henabled : ∀ (u : State) (k : Nat) (f : SlotRecord → SlotRecord) (bs : List Byte),
      ((u.changeRecord k f).writeLines k 0 bs).enabled = u.enabled := by
    intro u k f bs
    funext p
    unfold State.changeRecord
    split <;> rfl
  unfold State.openIn
  dsimp only
  split
  · rw [raise_report, henabled, enabled_setStream (x := State.openedStream _ _ _) rfl, State.writeLines_report, State.changeRecord_report]
    rfl
  · rw [State.writeLines_report, State.changeRecord_report]
    rfl

/-! ## Blocks as bytes (R71, R81, R171) -/

/-- R171: GAP_SECTION is bit 4 of the flags. -/
theorem gapFlag_iff (f : BitVec 16) : ((f &&& Flag.gapSection) != 0) = f.getLsbD 4 := by
  have htwo : Flag.gapSection = BitVec.twoPow 16 4 := by decide
  rw [htwo, BitVec.and_twoPow]
  cases f.getLsbD 4 <;> decide

/-- The header's bytes before its CRC. -/
theorem BlockHeader.take_bytes (h : BlockHeader) (back : List Byte) :
    (h.bytes ++ back).take 60 = h.fieldBytes ++ leBytes 4 h.payloadCrc.toNat := by
  unfold BlockHeader.bytes
  rw [List.append_assoc _ _ back, List.take_left' (by simp)]

theorem BlockHeader.drop_bytes (h : BlockHeader) (back : List Byte) : (h.bytes ++ back).drop 64 = back :=
  List.drop_left' h.length_bytes

theorem ofNat_leBytes_four (c : BitVec 32) : BitVec.ofNat 32 (c.toNat % 256 ^ 4) = c := by
  rw [Nat.mod_eq_of_lt (b := 256 ^ 4) c.isLt, BitVec.ofNat_toNat, BitVec.setWidth_eq]

/-- R171: the stored payload CRC is the header's field. -/
theorem storedPayloadCrc_bytes (h : BlockHeader) (back : List Byte) : storedPayloadCrc (h.bytes ++ back) = h.payloadCrc := by
  have hfield := field_leBytes h.fieldBytes (leBytes 4 h.headerCrc.toNat ++ back) 4 h.payloadCrc.toNat
  rw [BlockHeader.length_fieldBytes] at hfield
  unfold storedPayloadCrc BlockHeader.bytes Offset.payloadCrc
  rw [List.append_assoc, List.append_assoc, hfield, ofNat_leBytes_four]

/-- R171: the stored header CRC is the header's field. -/
theorem storedHeaderCrc_bytes (h : BlockHeader) (back : List Byte) : storedHeaderCrc (h.bytes ++ back) = h.headerCrc := by
  have hfield := field_leBytes (h.fieldBytes ++ leBytes 4 h.payloadCrc.toNat) back 4 h.headerCrc.toNat
  rw [List.length_append, BlockHeader.length_fieldBytes, length_leBytes] at hfield
  unfold storedHeaderCrc BlockHeader.bytes Offset.headerCrc
  rw [List.append_assoc _ _ back, hfield, ofNat_leBytes_four]

/-- R171: GAP_SECTION in a block's bytes. -/
theorem imageHasGap_bytes (h : BlockHeader) (back : List Byte) : imageHasGap (h.bytes ++ back) = h.flags.getLsbD 4 := by
  unfold imageHasGap
  rw [imageFlags_bytes, gapFlag_iff]

/-- R71, R81: the block that a sealed header heads passes its two CRCs. -/
theorem sealed_checks {h : BlockHeader} {gap : Option GapSection} (payload : List Byte)
    (hgap : h.flags.getLsbD 4 = gap.isSome) :
    imageHeaderCrc (blockImage (h.sealed gap payload) gap payload) =
      storedHeaderCrc (blockImage (h.sealed gap payload) gap payload) ∧
    imagePayloadCrc (blockImage (h.sealed gap payload) gap payload) =
      storedPayloadCrc (blockImage (h.sealed gap payload) gap payload) := by
  have hflags : (h.sealed gap payload).flags = h.flags := rfl
  unfold blockImage
  rw [List.append_assoc, storedHeaderCrc_bytes, storedPayloadCrc_bytes]
  unfold imageHeaderCrc imagePayloadCrc imageHeaderLength Offset.headerCrc
  rw [imageHasGap_bytes, hflags, hgap, BlockHeader.take_bytes, BlockHeader.drop_bytes]
  cases gap with
  | none => exact ⟨rfl, congrArg crc (BlockHeader.drop_bytes _ _)⟩
  | some g =>
    refine ⟨?_, congrArg crc ?_⟩
    · simp only [Option.isSome_some, if_true, gapBytes]
      rw [List.take_left' g.length_bytes]
      rfl
    · simp only [Option.isSome_some, if_true, gapBytes]
      rw [← List.append_assoc]
      exact List.drop_left' (by simp)

/-- R71: GAP_SECTION of a block that closes says whether it carries a gap section. -/
theorem closedBlock_checks (b : OpenBlock) (flags : BitVec 16) (tail : Option GapSection)
    (hgap : b.header.flags.getLsbD 4 = true ↔ b.gap ≠ none) (hflags : flags.getLsbD 4 = false) :
    let c := State.closedBlock b flags tail
    imageHeaderCrc (blockImage c.header c.gap c.payload) = storedHeaderCrc (blockImage c.header c.gap c.payload) ∧
    imagePayloadCrc (blockImage c.header c.gap c.payload) = storedPayloadCrc (blockImage c.header c.gap c.payload) := by
  refine sealed_checks b.payload ?_
  simp only [BitVec.getLsbD_or, getLsbD_flagWhen, hflags, Bool.or_false]
  have hbit : Flag.gapSection.getLsbD 4 = true := by decide
  rw [hbit, Bool.and_true]
  cases tail with
  | some g => simp
  | none =>
    rw [Bool.eq_iff_iff, Option.isSome_none, Bool.or_false, hgap]
    simp [Option.isSome_iff_ne_none]

theorem length_blockImage (h : BlockHeader) (gap : Option GapSection) (payload : List Byte) :
    (blockImage h gap payload).length = headerLength gap + payload.length := by
  unfold blockImage
  rw [List.length_append, length_header]

end Sys2Proof.Machine

namespace Sys2Proof

open Machine Safety

/-- Settles O28: the field's bits as a number, and with the top bit's weight. -/
theorem fieldsAreExtractedAndWidened : Obligations.FieldsAreExtractedAndWidened := by
  intro word offset width h1 h16 hfit
  have hsigned := extractField_signed word offset h1
  have hunsigned := extractField_unsigned word offset width
  refine ⟨hunsigned, hsigned, ?_, ?_, ?_, ?_⟩
  · rw [hunsigned]
    omega
  · rw [hunsigned]
    exact_mod_cast ((word >>> offset).setWidth width).isLt
  · rw [hsigned]
    exact BitVec.le_toInt _
  · rw [hsigned]
    exact BitVec.toInt_lt

/-- Settles O48: the effective mode and factor, and the points of a window by the fold of its inputs. -/
theorem pointsReduceTheirWindows : Obligations.PointsReduceTheirWindows := by
  refine ⟨fun cfg level => ⟨fun h => ?_, fun h => ?_, rfl, ?_, fun hlevel hmode => ?_⟩, fun cfg level index v vs w hw => ?_⟩
  · unfold effectiveFactor
    rw [if_neg h]
  · have hle : 4 ^ level.val ≤ 4 ^ 3 := Nat.pow_le_pow_right (by decide) (by omega)
    unfold effectiveFactor
    rw [if_pos h, one_mul, min_eq_right (by omega)]
  · unfold effectiveMode
    split <;> rfl
  · unfold effectiveMode
    rw [if_neg hlevel]
    cases hm : cfg.mode with
    | mean => exact absurd hm hmode
    | _ => rfl
  · obtain ⟨low, high, hfold, hlow, hhigh, hmin, hmax⟩ := foldl_add (Window.beginWith cfg level index v) vs
    rw [hfold] at hw
    subst hw
    have hpos : 0 < vs.length + 1 := Nat.succ_pos _
    refine ⟨⟨rfl, rfl, rfl, Nat.add_comm _ _⟩, Window.point_first, fun hmode => ⟨low, high, Window.point_envelope hmode, hlow, hhigh, fun x hx => ⟨hmin x hx, hmax x hx⟩⟩,
      fun hmode => ⟨meanPoint (v :: vs).sum (vs.length + 1), ?_, ?_⟩⟩
    · rw [Window.point_mean hmode, List.sum_cons, Nat.add_comm vs.length]
      rfl
    · obtain ⟨hlt, hge⟩ := meanPoint_rounds (v :: vs).sum hpos
      obtain ⟨hsumLow, hsumHigh⟩ := sum_bounds (v :: vs) hmin hmax
      obtain ⟨hfrom, hto⟩ := meanPoint_between hpos hsumLow hsumHigh
      refine ⟨by exact_mod_cast hlt, by exact_mod_cast hge, low, hlow, high, hhigh, hfrom, hto⟩

/-- Settles O49: the header's fields as the block opens, and what its opening writes. -/
theorem startTimesAreExactSaturatedAndMonotonic : Obligations.StartTimesAreExactSaturatedAndMonotonic := by
  refine ⟨fun x i slot n gap a t ha ht => ?_, fun s t i slot n gap timed x b hx hb ht => ?_⟩
  · have htime : inputTime x.anchor n = (max 0 (min t (2 ^ 64 - 1))).toNat := by
      rw [ha, ht, ← exactTime_eq]
      exact saturateTime_eq _
    have hsat : startSaturates x.anchor n = timeSaturates t := by
      rw [ha, ht, ← exactTime_eq]
      rfl
    obtain ⟨hfirst, hlate, hsaturated, hclamped, hgap⟩ := newBlock_flags x i slot n gap
    refine ⟨?_, ?_, ?_, ?_, ?_, ?_, rfl⟩
    · exact (clampStart_eq _ _).trans (by rw [htime])
    · rw [hsaturated, hsat, timeSaturates_iff]
    · rw [hclamped, startClamps_iff, htime]
    · rw [hgap, Option.isSome_iff_ne_none]
    · rw [hfirst]
    · rw [hlate]
  · obtain ⟨-, -, -, hclamped, -⟩ := newBlock_flags x i slot n gap
    subst ht
    refine ⟨?_, fun j hj => State.openIn_stream_other _ _ _ _ _ _ hj, ?_, ?_, ?_⟩
    · rw [State.openIn_stream_self, ← hx, ← hb]
      simp only [State.openedStream, Bool.and_eq_true, bne_iff_ne]
    · rw [openIn_report, hb, hclamped, hx]
    · intro p hp
      rw [hb]
      show p ≤ clampStart x.prevStart _
      rw [clampStart_eq, hp]
      exact le_max_left _ _
    · have hframe := State.eq_of_rest (State.openIn_rest s i slot gap n timed)
      rw [State.openIn_groups, State.openIn_ops] at hframe
      exact hframe

/-- Settles O50: the quotient, by the size's budget, and the room that it leaves. -/
theorem targetPointCountsFitTheSlot : Obligations.TargetPointCountsFitTheSlot := by
  refine ⟨fun k header point hk => ?_, fun header point => ⟨rfl, rfl⟩, fun size header point hheader hsize => ?_, ?_⟩
  · have hbudget : (BlockSize.kib k).budget = k * 1024 := by simp [BlockSize.budget, hk]
    rw [targetCount, hbudget]
  · have hbudget : size.budget ≤ 65536 := by
      cases size with
      | segment => exact le_rfl
      | kib k =>
        have := hsize k rfl
        simp only [BlockSize.budget]
        split <;> omega
    have hfit := Nat.div_mul_le_self (size.budget - header) point
    unfold targetCount
    omega
  · decide

/-- Settles O52: the close seals the header over its own gap section and payload. -/
theorem closedBlocksPassTheirCrcs : Obligations.ClosedBlocksPassTheirCrcs := by
  intro b c flags tail image hgap hflags hc himage
  subst hc himage
  refine ⟨?_, ?_, fun hpayload => ?_, rfl⟩
  · exact (closedBlock_checks b flags tail hgap hflags).1
  · exact (closedBlock_checks b flags tail hgap hflags).2
  · rw [length_blockImage]
    exact congrArg _ hpayload

end Sys2Proof
end

section
/-! PROOFS. The fan-out of an acquisition frame to the streams on its source; RESYNC, and SEGMENT_START at a stream armed by
START GROUP. -/

-- One theorem at a time: the stacks of a thread each would exceed the memory of the check.
set_option Elab.async false

namespace Sys2Proof.Machine

open Sys2Proof.Safety

/-! ## The fan-out (R145, R147) -/

/-- R145: a stream's configured source is the frame's. -/
abbrev OnSource (s : State) (source : Byte) (i : StreamId) : Prop := (s.stream i).cfg.source.val = source.toNat

/-- R145: an offer acts on the stream that it is made to, and on no other. -/
def ActsAlone (offer : State → StreamId → State × Disposal) : Prop :=
  ∀ u i j, j ≠ i → (offer u i).1.stream j = u.stream j

/-- R145: one stream's turn in the fan-out. -/
def offerTo (source : Byte) (offer : State → StreamId → State × Disposal) (acc : State × List Disposal) (i : StreamId) :
    State × List Disposal :=
  if OnSource acc.1 source i then ((offer acc.1 i).1, acc.2 ++ [(offer acc.1 i).2]) else acc

section
variable {source : Byte} {offer : State → StreamId → State × Disposal}

theorem fanOut_eq (s : State) : s.fanOut source offer = streamIds.foldl (offerTo source offer) (s, []) := rfl

theorem offerTo_stream_other (halone : ActsAlone offer) (acc : State × List Disposal) {i j : StreamId} (h : j ≠ i) :
    (offerTo source offer acc i).1.stream j = acc.1.stream j := by
  unfold offerTo
  split
  · exact halone _ _ _ h
  · rfl

/-- R145: every stream on the source is offered the frame while its own context is still as the frame found it. `R` is any
order in which each offer leads upward. -/
theorem foldl_offerTo {R : State → State → Prop} (halone : ActsAlone offer) (hrefl : ∀ u, R u u)
    (htrans : ∀ u v w, R u v → R v w → R u w) (s : State)
    (hstep : ∀ u i, u.stream i = s.stream i → R u (offer u i).1) {l : List StreamId} (hl : l.Nodup)
    (acc : State × List Disposal) (hacc : ∀ i ∈ l, acc.1.stream i = s.stream i) :
    ∃ turn : StreamId → State, (∀ i ∈ l, (turn i).stream i = s.stream i ∧ R acc.1 (turn i)) ∧
      (∀ i, (l.foldl (offerTo source offer) acc).1.stream i =
        if i ∈ l ∧ OnSource s source i then (offer (turn i) i).1.stream i else acc.1.stream i) ∧
      (∀ i ∈ l, OnSource s source i → R (offer (turn i) i).1 (l.foldl (offerTo source offer) acc).1) ∧
      R acc.1 (l.foldl (offerTo source offer) acc).1 ∧
      (l.foldl (offerTo source offer) acc).2 = acc.2 ++
        ((l.filter fun i => OnSource s source i).map fun i => (offer (turn i) i).2) := by
  induction l generalizing acc with
  | nil => exact ⟨fun _ => s, by simp, by simp, by simp, hrefl _, by simp⟩
  | cons i l ih =>
    obtain ⟨hi, hl⟩ := List.nodup_cons.1 hl
    have hturn := hacc i List.mem_cons_self
    have hup : R acc.1 (offerTo source offer acc i).1 := by
      unfold offerTo
      split
      · exact hstep _ _ hturn
      · exact hrefl _
    have hne : ∀ {j}, j ∈ l → j ≠ i := fun hj e => hi (e ▸ hj)
    obtain ⟨turn, hat, hstream, hlast, hall, hds⟩ := ih hl (offerTo source offer acc i) fun j hj => by
      rw [offerTo_stream_other halone _ (hne hj), hacc j (List.mem_cons_of_mem _ hj)]
    have hon : OnSource acc.1 source i ↔ OnSource s source i := by unfold OnSource; rw [hturn]
    have htaken : OnSource s source i → (offerTo source offer acc i).1 = (offer acc.1 i).1 := fun hsrc => by
      unfold offerTo
      rw [if_pos (hon.2 hsrc)]
    refine ⟨Function.update turn i acc.1, fun j hj => ?_, fun j => ?_, fun j hj hsrc => ?_, htrans _ _ _ hup hall, ?_⟩
    · rcases List.mem_cons.1 hj with rfl | hj
      · rw [Function.update_self]
        exact ⟨hturn, hrefl _⟩
      · rw [Function.update_of_ne (hne hj)]
        exact ⟨(hat j hj).1, htrans _ _ _ hup (hat j hj).2⟩
    · rw [List.foldl_cons, hstream j]
      by_cases hj : j = i
      · subst hj
        rw [if_neg fun h => hi h.1, Function.update_self]
        by_cases hsrc : OnSource s source j
        · rw [htaken hsrc, if_pos ⟨List.mem_cons_self, hsrc⟩]
        · rw [if_neg fun h => hsrc h.2]
          unfold offerTo
          rw [if_neg fun h => hsrc (hon.1 h)]
      · rw [offerTo_stream_other halone _ hj, Function.update_of_ne hj]
        simp only [List.mem_cons, hj, false_or]
    · rw [List.foldl_cons]
      rcases List.mem_cons.1 hj with rfl | hj
      · rw [Function.update_self, ← htaken hsrc]
        exact hall
      · rw [Function.update_of_ne (hne hj)]
        exact hlast j hj hsrc
    · have hrest : ((l.filter fun j => OnSource s source j).map fun j => (offer (Function.update turn i acc.1 j) j).2) =
          (l.filter fun j => OnSource s source j).map fun j => (offer (turn j) j).2 :=
        List.map_congr_left fun j hj => by rw [Function.update_of_ne (hne (List.mem_of_mem_filter hj))]
      rw [List.foldl_cons, hds]
      unfold offerTo
      by_cases hsrc : OnSource s source i
      · rw [if_pos (hon.2 hsrc), List.filter_cons_of_pos (by simpa using hsrc), List.map_cons, Function.update_self, hrest]
        simp
      · rw [if_neg fun h => hsrc (hon.1 h), List.filter_cons_of_neg (by simpa using hsrc), hrest]

/-- R145: the fan-out as the offers made, each to a stream as the frame found it. -/
theorem fanOut_spec (R : State → State → Prop) (halone : ActsAlone offer) (hrefl : ∀ u, R u u)
    (htrans : ∀ u v w, R u v → R v w → R u w) (s : State) (hstep : ∀ u i, u.stream i = s.stream i → R u (offer u i).1) :
    ∃ turn : StreamId → State, (∀ i, (turn i).stream i = s.stream i ∧ R s (turn i)) ∧
      (∀ i, OnSource s source i → (s.fanOut source offer).1.stream i = (offer (turn i) i).1.stream i) ∧
      (∀ i, ¬ OnSource s source i → (s.fanOut source offer).1.stream i = s.stream i) ∧
      (∀ i, OnSource s source i → R (offer (turn i) i).1 (s.fanOut source offer).1) ∧
      R s (s.fanOut source offer).1 ∧
      ∀ d, d ∈ (s.fanOut source offer).2 ↔ ∃ i, OnSource s source i ∧ (offer (turn i) i).2 = d := by
  obtain ⟨turn, hat, hstream, hlast, hall, hds⟩ := foldl_offerTo (source := source) halone hrefl htrans s hstep
    nodup_streamIds (s, []) fun _ _ => rfl
  refine ⟨turn, fun i => hat i (State.mem_streamIds i), fun i hi => ?_, fun i hi => ?_,
    fun i hi => hlast i (State.mem_streamIds i) hi, hall, fun d => ?_⟩
  · rw [fanOut_eq, hstream, if_pos ⟨State.mem_streamIds i, hi⟩]
  · rw [fanOut_eq, hstream, if_neg fun h => hi h.2]
  · rw [fanOut_eq, hds]
    simp [State.mem_streamIds]

/-- R145: a frame whose source one stream alone has is offered to that stream alone. -/
theorem fanOut_alone (halone : ActsAlone offer) (s : State) {i : StreamId} (hi : ∀ j, OnSource s source j ↔ j = i) :
    s.fanOut source offer = ((offer s i).1, [(offer s i).2]) := by
  have hskip : ∀ (l : List StreamId) (acc : State × List Disposal), (∀ j ∈ l, ¬ OnSource acc.1 source j) →
      l.foldl (offerTo source offer) acc = acc := by
    intro l
    induction l with
    | nil => exact fun _ _ => rfl
    | cons j l ih =>
      intro acc h
      have hj : offerTo source offer acc j = acc := if_neg (h j List.mem_cons_self)
      rw [List.foldl_cons, hj]
      exact ih acc fun k hk => h k (List.mem_cons_of_mem _ hk)
  obtain ⟨before, after, hids⟩ := List.append_of_mem (State.mem_streamIds i)
  have hnodup := nodup_streamIds
  rw [hids] at hnodup
  have hbefore : i ∉ before := fun h => (List.nodup_append.1 hnodup).2.2 i h i List.mem_cons_self rfl
  have hafter : i ∉ after := (List.nodup_cons.1 (List.nodup_append.1 hnodup).2.1).1
  rw [fanOut_eq, hids, List.foldl_append, hskip before (s, []) fun j hj h => hbefore ((hi j).1 h ▸ hj), List.foldl_cons]
  have hturn : offerTo source offer (s, []) i = ((offer s i).1, [(offer s i).2]) := if_pos ((hi i).2 rfl)
  rw [hturn]
  refine hskip after _ fun j hj h => ?_
  have hne : j ≠ i := fun e => hafter (e ▸ hj)
  unfold OnSource at h
  rw [halone s i j hne] at h
  exact hne ((hi j).1 h)

end

/-! ## The intake (R143, R147) -/

section
variable {s : State} {source : Byte} {offer : State → StreamId → State × Disposal} {samples : Bool}

/-- R143, R145: a frame of good shape, in sync, is fanned out and counted. -/
theorem intake_taken (hsync : s.receiver.inSync = true) (hsource : source.toNat < 32) :
    s.intake source true samples offer = (s.fanOut source offer).1.countIntake ((s.fanOut source offer).2.contains .orphan)
      (samples && !((s.fanOut source offer).2.contains .taken || (s.fanOut source offer).2.contains .overlap))
      ((s.fanOut source offer).2.contains .overlap) := by
  unfold State.intake
  simp [hsync, hsource]

theorem satAdd_bumped (c : BitVec 32) : satAdd c 1 = bumped c := by
  rw [satAdd_one, bumped]
  split
  · next h => rw [h]
  · rfl

theorem bumped_eq (c : BitVec 32) : bumped c = if c = 0xFFFFFFFF#32 then 0xFFFFFFFF#32 else c + 1 := by
  rw [← satAdd_bumped, satAdd_one]

theorem countIntake_none (s : State) : s.countIntake false false false = s := by
  unfold State.countIntake
  simp [satAdd_zero, State.setCounters]

/-- R147: what the orphan counter counts. -/
theorem countIntake_orphan (s : State) (orphan : Bool) : s.countIntake orphan false false =
    s.setCounters { s.counters with orphans := if orphan = true then satAdd s.counters.orphans 1
      else s.counters.orphans } := by
  unfold State.countIntake
  cases orphan <;> simp [satAdd_zero, State.setCounters]

/-- R145, R147: a frame that is no SAMPLES frame, which no stream discards whole, can be an orphan. -/
theorem intake_orphan (hsync : s.receiver.inSync = true) (hsource : source.toNat < 32)
    (hoverlap : Disposal.overlap ∉ (s.fanOut source offer).2) :
    ∃ c, s.intake source true false offer = (s.fanOut source offer).1.setCounters c ∧
      (Disposal.orphan ∈ (s.fanOut source offer).2 → c = { (s.fanOut source offer).1.counters with
        orphans := bumped (s.fanOut source offer).1.counters.orphans }) ∧
      (Disposal.orphan ∉ (s.fanOut source offer).2 → c = (s.fanOut source offer).1.counters) := by
  have hnone : (s.fanOut source offer).2.contains .overlap = false := by simpa using hoverlap
  rw [intake_taken hsync hsource, Bool.false_and, hnone, countIntake_orphan]
  refine ⟨_, rfl, fun h => ?_, fun h => ?_⟩
  · rw [if_pos (by simpa using h), satAdd_bumped]
  · rw [if_neg (by simpa using h)]

/-- R145: at a stream alone on its source, a frame that is taken, or not, and no more. -/
theorem intake_alone (halone : ActsAlone offer) (hsync : s.receiver.inSync = true) (hsource : source.toNat < 32)
    {i : StreamId} (hi : ∀ j, OnSource s source j ↔ j = i)
    (hd : (offer s i).2 = .taken ∨ ((offer s i).2 = .notTaken ∧ samples = false)) :
    s.intake source true samples offer = (offer s i).1 := by
  rw [intake_taken hsync hsource, fanOut_alone halone s hi]
  rcases hd with h | ⟨h, hs⟩
  · rw [h]
    cases samples <;> exact countIntake_none _
  · rw [h, hs]
    exact countIntake_none _

end

/-! ## Frames of a segment (R145) -/

section
variable {s : State} {i : StreamId} {segment : BitVec 32} {take : State × Disposal}

/-- R145: a RUNNING stream that is not in the frame's segment. -/
abbrev Astray (s : State) (segment : BitVec 32) (i : StreamId) : Prop :=
  (s.stream i).phase = .running .betweenSegments ∨
    ((s.stream i).phase = .running .inSegment ∧ (s.stream i).segment ≠ segment)

theorem ofSegment_in (hphase : (s.stream i).phase = .running .inSegment) (hseg : (s.stream i).segment = segment) :
    s.ofSegment i segment take = take := by
  simp only [State.ofSegment, hphase, hseg, if_true]

theorem ofSegment_astray (h : Astray s segment i) : s.ofSegment i segment take = (s, .orphan) := by
  rcases h with h | ⟨hphase, hseg⟩
  · simp only [State.ofSegment, h]
  · simp only [State.ofSegment, hphase, if_neg hseg]

theorem ofSegment_away (h : ∀ sub, (s.stream i).phase ≠ .running sub) : s.ofSegment i segment take = (s, .notTaken) := by
  unfold State.ofSegment
  split
  · next hp => exact absurd hp (h _)
  · next hp => exact absurd hp (h _)
  · rfl

/-- R145: in the frame's segment, astray, or not RUNNING. -/
theorem segment_cases (s : State) (segment : BitVec 32) (i : StreamId) :
    ((s.stream i).phase = .running .inSegment ∧ (s.stream i).segment = segment) ∨ Astray s segment i ∨
      ∀ sub, (s.stream i).phase ≠ .running sub := by
  cases hp : (s.stream i).phase with
  | running sub =>
    cases sub with
    | inSegment =>
      by_cases hs : (s.stream i).segment = segment
      · exact .inl ⟨rfl, hs⟩
      · exact .inr (.inl (.inr ⟨hp, hs⟩))
    | betweenSegments => exact .inr (.inl (.inl hp))
  | _ => exact .inr (.inr fun _ h => (nomatch h))

/-- R145: a stream outside the frame's segment is as before. -/
theorem ofSegment_outside (h : Astray s segment i ∨ ∀ sub, (s.stream i).phase ≠ .running sub) :
    (s.ofSegment i segment take).1 = s := by
  rcases h with h | h
  · rw [ofSegment_astray h]
  · rw [ofSegment_away h]

theorem ofSegment_orphan_iff (h : take.2 ≠ .orphan) : (s.ofSegment i segment take).2 = .orphan ↔ Astray s segment i := by
  rcases segment_cases s segment i with ⟨hp, hs⟩ | ha | ha
  · rw [ofSegment_in hp hs]
    refine iff_of_false h ?_
    rintro (hb | ⟨-, hn⟩)
    · rw [hp] at hb; cases hb
    · exact hn hs
  · rw [ofSegment_astray ha]
    exact iff_of_true rfl ha
  · rw [ofSegment_away ha]
    exact iff_of_false (nofun) fun hb => hb.elim (ha _) fun hb => ha _ hb.1

theorem ofSegment_ne_overlap (h : take.2 ≠ .overlap) : (s.ofSegment i segment take).2 ≠ .overlap := by
  rcases segment_cases s segment i with ⟨hp, hs⟩ | ha | ha
  · rwa [ofSegment_in hp hs]
  · rw [ofSegment_astray ha]
    exact nofun
  · rw [ofSegment_away ha]
    exact nofun

/-- R145: an offer that acts on a stream of the frame's segment alone. -/
theorem ofSegment_actsAlone {take : State → StreamId → State × Disposal}
    (h : ∀ u i j, j ≠ i → (take u i).1.stream j = u.stream j) : ActsAlone fun u i => u.ofSegment i segment (take u i) := by
  intro u i j hj
  rcases segment_cases u segment i with ⟨hp, hs⟩ | ha | ha
  · show (u.ofSegment i segment (take u i)).1.stream j = _
    rw [ofSegment_in hp hs, h u i j hj]
  · show (u.ofSegment i segment (take u i)).1.stream j = _
    rw [ofSegment_astray ha]
  · show (u.ofSegment i segment (take u i)).1.stream j = _
    rw [ofSegment_away ha]

end

end Sys2Proof.Machine

namespace Sys2Proof

open Machine Safety

/-- Settles O32: each stream on the source, by its place in the frame's segment. -/
theorem resyncMovesOrHoldsTheAnchor : Obligations.ResyncMovesOrHoldsTheAnchor := by
  intro s source segment index time hsync hsource
  have halone : ActsAlone (State.offerResync segment index.toNat time.toNat) :=
    ofSegment_actsAlone fun u i j hj => State.setStream_stream_other u _ hj
  obtain ⟨turn, hat, hon, hoff, -, hkeep, hds⟩ := fanOut_spec (source := source)
    (fun u v => v = { u with streams := v.streams }) halone (fun _ => rfl)
    (fun u v w huv hvw => by rw [hvw, huv]) s fun u i _ => by
      rcases segment_cases u segment i with ⟨hp, hs⟩ | ha | ha
      · unfold State.offerResync
        rw [ofSegment_in hp hs]
        rfl
      · unfold State.offerResync
        rw [ofSegment_astray ha]
      · unfold State.offerResync
        rw [ofSegment_away ha]
  have hturn : ∀ i, (turn i).stream i = s.stream i := fun i => (hat i).1
  have hoverlap : Disposal.overlap ∉ (s.fanOut source (State.offerResync segment index.toNat time.toNat)).2 := by
    rw [hds]
    rintro ⟨i, -, h⟩
    exact ofSegment_ne_overlap (show Disposal.taken ≠ .overlap by decide) h
  have horphan : Disposal.orphan ∈ (s.fanOut source (State.offerResync segment index.toNat time.toNat)).2 ↔
      ∃ i, OnSource s source i ∧ Astray s segment i := by
    rw [hds]
    refine exists_congr fun i => and_congr_right fun _ => (ofSegment_orphan_iff (show Disposal.taken ≠ .orphan by decide)).trans ?_
    rw [Astray, hturn]
  obtain ⟨c, hintake, hup, hstay⟩ := intake_orphan hsync hsource hoverlap
  generalize (s.fanOut source (State.offerResync segment index.toNat time.toNat)).1 = u at hintake hup hstay hon hoff hkeep
  refine ⟨_, congrArg Host.Outcome.next hintake, fun i => ?_, fun h => ?_, fun h => ?_, ?_⟩
  · rw [State.setCounters_stream]
    by_cases hsrc : OnSource s source i
    · rw [hon i hsrc]
      unfold State.offerResync
      rcases segment_cases s segment i with ⟨hp, hs⟩ | ha
      · rw [ofSegment_in (by rw [hturn, hp]) (by rw [hturn, hs]), if_pos ⟨hsrc, hp, hs⟩, State.setStream_stream_self, hturn]
        unfold Stream.resynced
        rfl
      · rw [ofSegment_outside (by rw [Astray, hturn]; exact ha), hturn, if_neg]
        rintro ⟨-, hp, hs⟩
        rcases ha with (h | ⟨-, h⟩) | h
        · rw [h] at hp; cases hp
        · exact h hs
        · exact h _ hp
    · rw [hoff i hsrc, if_neg fun h => hsrc h.1]
  · rw [State.setCounters_counters, hup (horphan.2 h), bumped_eq, hkeep]
  · rw [State.setCounters_counters, hstay, hkeep]
    rw [horphan]
    rintro ⟨i, hsrc, ha | ⟨hp, hs⟩⟩
    · exact (h i hsrc).1 ha
    · exact hs ((h i hsrc).2 hp)
  · conv_lhs => rw [hkeep]
    rfl

end Sys2Proof
end

section
/-! PROOFS. What the block assembler writes into the stacked DRAM: the header of a block that closes or opens, and no byte
outside its slot. -/

-- One theorem at a time: the stacks of a thread each would exceed the memory of the check.
set_option Elab.async false

namespace Sys2Proof.Machine

open Sys2Proof.Safety

variable {s : State} {i : StreamId} {slot : Nat}

/-! ## Memories that agree outside a slot -/

theorem sameOutside_refl (slot : Nat) (m : Memory) : SameOutside slot m m := fun _ _ => rfl

theorem sameOutside_trans {m n o : Memory} (h : SameOutside slot m n) (k : SameOutside slot n o) : SameOutside slot m o :=
  fun a ha => (k a ha).trans (h a ha)

theorem sameOutside_of_eq {m n o : Memory} (h : SameOutside slot m n) (k : o = n) : SameOutside slot m o := k ▸ h

/-- R91: lines that lie within a slot leave every byte outside it. -/
theorem writeLines_sameOutside (s : State) (slot line : Nat) {bs : List Byte} (h : line * 64 + bs.length ≤ 65536) :
    SameOutside slot s.spill.dram (s.writeLines slot line bs).spill.dram := by
  intro a ha
  unfold InSlot at ha
  refine State.read_writeLines_outside s slot line bs ?_
  unfold lineCount Config.lineBytes
  omega

/-- R91: what is written at the front of a slot stands there. -/
theorem writeLines_storedBytes (hm : MemoryCanonical s) (slot : Nat) {bs : List Byte} {n : Nat} (h : n ≤ bs.length) :
    (s.writeLines slot 0 bs).storedBytes slot n = bs.take n := by
  have hall := Memory.readAll_writeAll hm (slot * 65536) (padLines bs)
  have hn : n ≤ (padLines bs).length := by
    rw [length_padLines]
    unfold lineCount Config.lineBytes
    omega
  have hdram : (s.writeLines slot 0 bs).spill.dram = s.spill.dram.writeAll (slot * 65536) (padLines bs) := by
    rw [State.writeLines_spill_dram, Nat.zero_mul, Nat.add_zero]
  calc (s.writeLines slot 0 bs).storedBytes slot n
      = (s.spill.dram.writeAll (slot * 65536) (padLines bs)).readAll (slot * 65536) n :=
        congrArg (fun m => Memory.readAll m (slot * 65536) n) hdram
    _ = ((s.spill.dram.writeAll (slot * 65536) (padLines bs)).readAll (slot * 65536) (padLines bs).length).take n :=
        (Memory.take_readAll _ _ hn).symm
    _ = (padLines bs).take n := congrArg (List.take n) hall
    _ = bs.take n := List.take_append_of_le_length h

/-- R171: a header that stands at the front of a slot gives its flags. -/
theorem imageFlags_take (h : BlockHeader) (back : List Byte) : imageFlags ((h.bytes ++ back).take 64) = h.flags := by
  rw [List.take_left' h.length_bytes]
  simpa using imageFlags_bytes h []

/-! ## Blocks that close (R71) -/

/-- R71: what closing a block writes into its slot. -/
def closedImage (b : OpenBlock) (flags : BitVec 16) (tail : Option GapSection) : List Byte :=
  blockImage (State.closedBlock b flags tail).header (State.closedBlock b flags tail).gap b.payload

theorem length_closedImage (b : OpenBlock) (flags : BitVec 16) (tail : Option GapSection) :
    (closedImage b flags tail).length = headerLength (if tail.isSome then tail else b.gap) + b.payload.length :=
  length_blockImage _ _ _

theorem headerLength_bounds (gap : Option GapSection) : 64 ≤ headerLength gap ∧ headerLength gap ≤ 96 := by
  unfold headerLength
  split <;> omega

section
variable {b : OpenBlock} (h : (s.stream i).openBlock = some b) (flags : BitVec 16) (tail : Option GapSection)
include h

theorem closeOpen_dram : (s.closeOpen i flags tail).spill.dram =
    (s.writeLines b.slot 0 (closedImage b flags tail)).spill.dram := by
  simp only [State.closeOpen, h, State.beginVerifies_dram, State.setStream_spill, State.changeRecord_dram]
  rfl

/-- R71: the stored header of a block that has closed carries its close flags. -/
theorem closeOpen_flags (hm : MemoryCanonical s) : imageFlags ((s.closeOpen i flags tail).storedBytes b.slot 64) =
    (b.header.flags ||| flags ||| Flag.when tail.isSome Flag.gapSection) := by
  have hlen : 64 ≤ (closedImage b flags tail).length := by
    have := headerLength_bounds (if tail.isSome then tail else b.gap)
    rw [length_closedImage]
    omega
  have hstored : (s.closeOpen i flags tail).storedBytes b.slot 64 = (closedImage b flags tail).take 64 := by
    rw [← writeLines_storedBytes hm b.slot hlen]
    exact congrArg (fun m => Memory.readAll m (slotAddress b.slot) 64) (closeOpen_dram h flags tail)
  rw [hstored]
  unfold closedImage blockImage
  rw [List.append_assoc, imageFlags_take]
  rfl

/-- R71: a block that lies within its slot closes there. -/
theorem closeOpen_sameOutside (hfit : headerLength (if tail.isSome then tail else b.gap) + b.payload.length ≤ 65536) :
    SameOutside b.slot s.spill.dram (s.closeOpen i flags tail).spill.dram :=
  sameOutside_of_eq (writeLines_sameOutside s b.slot 0 (bs := closedImage b flags tail)
    (by rw [length_closedImage]; omega)) (closeOpen_dram h flags tail)

end

theorem closeOpen_canonical (hm : MemoryCanonical s) (flags : BitVec 16) (tail : Option GapSection) :
    MemoryCanonical (s.closeOpen i flags tail) := by
  cases h : (s.stream i).openBlock with
  | none => rwa [State.closeOpen_of_none h]
  | some b =>
    show Memory.wf (s.closeOpen i flags tail).spill.dram
    rw [closeOpen_dram h]
    exact State.wf_writeLines hm _ _ _

/-! ## Blocks that open (R68) -/

theorem openIn_dram (s : State) (i : StreamId) (slot n : Nat) (gap : Option GapSection) (timed : Bool) :
    (s.openIn i slot gap n timed).spill.dram = (s.writeLines slot 0
      ((State.newBlock (s.stream i) i slot gap n).header.bytes ++ gapBytes gap)).spill.dram := by
  have hdram : ∀ (u : State) (f : SlotRecord → SlotRecord) (bs : List Byte), u.spill.dram = s.spill.dram →
      ((u.changeRecord slot f).writeLines slot 0 bs).spill.dram = (s.writeLines slot 0 bs).spill.dram := by
    intro u f bs hu
    rw [State.writeLines_spill_dram, State.writeLines_spill_dram, State.changeRecord_dram, hu]
  unfold State.openIn
  dsimp only
  split
  · rw [State.raise_dram, hdram _ _ _ (by simp)]
  · rw [hdram _ _ _ (by simp)]

/-- R68: a block opens within its slot. -/
theorem openIn_sameOutside (s : State) (i : StreamId) (slot n : Nat) (gap : Option GapSection) (timed : Bool) :
    SameOutside slot s.spill.dram (s.openIn i slot gap n timed).spill.dram := by
  refine sameOutside_of_eq (writeLines_sameOutside s slot 0 ?_) (openIn_dram s i slot n gap timed)
  have := headerLength_bounds gap
  rw [length_header]
  omega

theorem openIn_canonical (hm : MemoryCanonical s) (slot n : Nat) (gap : Option GapSection) (timed : Bool) :
    MemoryCanonical (s.openIn i slot gap n timed) := by
  show Memory.wf (s.openIn i slot gap n timed).spill.dram
  rw [openIn_dram]
  exact State.wf_writeLines hm _ _ _

/-- R78, R116: what a block that opens carries. -/
def carried (s : State) (i : StreamId) : State :=
  let u := if (s.stream i).lossy then s.leaveLossy i else s
  u.setStream i { u.stream i with awaiting := none }

theorem openCarrying_eq (s : State) (i : StreamId) (slot n : Nat) (timed : Bool) :
    s.openCarrying i slot n timed = (carried s i).openIn i slot (State.gapAtOpen (s.stream i)) n timed := rfl

theorem carried_spill (s : State) (i : StreamId) : (carried s i).spill = s.spill := by
  unfold carried State.leaveLossy
  dsimp only
  split
  · rw [State.raise_eq]
    rfl
  · rfl

theorem carried_stream (s : State) (i : StreamId) :
    (carried s i).stream i = { s.stream i with loss := none, awaiting := none } := by
  unfold carried
  dsimp only
  split
  · simp [State.leaveLossy]
  · next h =>
    have hloss : (s.stream i).loss = none := by simpa [Stream.lossy] using h
    rw [State.setStream_stream_self, ← hloss]

/-- R78, R116: a block that carries what awaits opens within its slot. -/
theorem openCarrying_sameOutside (s : State) (i : StreamId) (slot n : Nat) (timed : Bool) :
    SameOutside slot s.spill.dram (s.openCarrying i slot n timed).spill.dram := by
  have h := openIn_sameOutside (carried s i) i slot n (State.gapAtOpen (s.stream i)) timed
  rwa [carried_spill] at h

theorem openCarrying_canonical (hm : MemoryCanonical s) (slot n : Nat) (timed : Bool) :
    MemoryCanonical (s.openCarrying i slot n timed) := by
  rw [openCarrying_eq]
  refine openIn_canonical ?_ _ _ _ _
  unfold MemoryCanonical
  rwa [carried_spill]

theorem openCarrying_openBlock (s : State) (i : StreamId) (slot n : Nat) (timed : Bool) :
    ((s.openCarrying i slot n timed).stream i).openBlock =
      some (State.newBlock { s.stream i with loss := none, awaiting := none } i slot (State.gapAtOpen (s.stream i)) n) := by
  rw [State.openCarrying_stream_self]
  rfl

/-- R76: the END block opens and closes within its slot. -/
theorem openEndBlock_sameOutside (s : State) (i : StreamId) (slot : Nat) :
    SameOutside slot s.spill.dram (s.openEndBlock i slot).spill.dram := by
  refine sameOutside_trans (openCarrying_sameOutside s i slot (s.stream i).endIndex false) ?_
  refine closeOpen_sameOutside (openCarrying_openBlock _ _ _ _ _) Flag.endOfStream none ?_
  have := headerLength_bounds (State.gapAtOpen (s.stream i))
  show headerLength (State.gapAtOpen (s.stream i)) + 0 ≤ 65536
  omega

/-! ## Points (R70, R91) -/

/-- R66: a point takes two bytes, or four as an ENVELOPE point. -/
theorem length_pointBytes (w : Window) : (pointBytes w.point).length = w.mode.pointSize := by
  unfold pointBytes Window.point Mode.pointSize
  cases w.mode <;> simp

theorem pointSize_le (m : Mode) : m.pointSize ≤ 4 := by
  cases m <;> decide

/-- R91: the line that a point fills, and no more, is written. -/
theorem writeFilledLine_read {b c : OpenBlock} {a : Nat}
    (h : a < c.slot * 65536 + 64 * ((headerLength b.gap + b.payload.length) / 64) ∨
      c.slot * 65536 + 64 * ((headerLength b.gap + b.payload.length) / 64) + 64 ≤ a) :
    (s.writeFilledLine b c).spill.dram.read a = s.spill.dram.read a := by
  unfold State.writeFilledLine
  dsimp only
  split
  · refine State.read_writeLines_outside _ _ _ _ ?_
    have hlen : ∀ (l : List Byte) (k : Nat), lineCount ((l.drop k).take Config.lineBytes).length ≤ 1 := by
      intro l k
      rw [List.length_take]
      unfold lineCount Config.lineBytes
      omega
    have hline := hlen (c.header.bytes ++ gapBytes c.gap ++ c.payload)
      ((headerLength b.gap + b.payload.length) / Config.lineBytes * Config.lineBytes)
    unfold Config.lineBytes at hline ⊢
    omega
  · rfl

/-- R91: the line that a point fills lies within the slot of a block that does. -/
theorem writeFilledLine_sameOutside {b c : OpenBlock} (hfit : headerLength c.gap + c.payload.length ≤ 65536) :
    SameOutside c.slot s.spill.dram (s.writeFilledLine b c).spill.dram := by
  unfold State.writeFilledLine
  dsimp only
  split
  · next hline =>
    refine writeLines_sameOutside _ _ _ ?_
    rw [List.length_append, length_header] at hline
    rw [List.length_take]
    unfold Config.lineBytes at hline ⊢
    omega
  · exact sameOutside_refl _ _

theorem writeFilledLine_canonical (hm : MemoryCanonical s) (b c : OpenBlock) : MemoryCanonical (s.writeFilledLine b c) := by
  unfold State.writeFilledLine
  dsimp only
  split
  · exact State.wf_writeLines hm _ _ _
  · exact hm

/-- R55: the open block with the open window emitted as a partial point, where there is one. -/
def withPartial (x : Machine.Stream) (b : OpenBlock) : OpenBlock :=
  match x.window with
  | some w => State.placePoint b (pointBytes w.point) true
  | none => b

theorem emitPartial_of_none (h : (s.stream i).window = none) : s.emitPartial i = s := by
  simp [State.emitPartial, h]

theorem emitPartial_of_some {w : Window} {b : OpenBlock} (hw : (s.stream i).window = some w)
    (hb : (s.stream i).openBlock = some b) : s.emitPartial i = (s.setStream i { s.stream i with
      window := none
      openBlock := some (State.placePoint b (pointBytes w.point) true)
      counts := { (s.stream i).counts with points := (s.stream i).counts.points + 1 } }).writeFilledLine b
        (State.placePoint b (pointBytes w.point) true) := by
  simp [State.emitPartial, State.emitWindow, hw, hb]

section
variable {b : OpenBlock} (h : (s.stream i).openBlock = some b)
include h

/-- R55: the partial point stands in the open block. -/
theorem emitPartial_openBlock : ((s.emitPartial i).stream i).openBlock = some (withPartial (s.stream i) b) := by
  unfold withPartial
  cases hw : (s.stream i).window with
  | none => rw [emitPartial_of_none hw, h]
  | some w =>
    rw [emitPartial_of_some hw h]
    simp

/-- R55: a partial point is written within the slot of a block that has room for it. -/
theorem emitPartial_sameOutside (hfit : headerLength b.gap + b.payload.length + 4 ≤ 65536) :
    SameOutside b.slot s.spill.dram (s.emitPartial i).spill.dram := by
  cases hw : (s.stream i).window with
  | none =>
    rw [emitPartial_of_none hw]
    exact sameOutside_refl _ _
  | some w =>
    rw [emitPartial_of_some hw h]
    refine writeFilledLine_sameOutside (c := State.placePoint b (pointBytes w.point) true) ?_
    have hlen := length_pointBytes w
    have hsize := pointSize_le w.mode
    show headerLength b.gap + (b.payload ++ pointBytes w.point).length ≤ 65536
    rw [List.length_append]
    omega

end

theorem withPartial_fits (x : Machine.Stream) {b : OpenBlock} (hfit : headerLength b.gap + b.payload.length + 4 ≤ 65536) :
    headerLength (withPartial x b).gap + (withPartial x b).payload.length ≤ 65536 := by
  unfold withPartial
  split
  · next w _ =>
    have hlen := length_pointBytes w
    have hsize := pointSize_le w.mode
    show headerLength b.gap + (b.payload ++ pointBytes w.point).length ≤ 65536
    rw [List.length_append]
    omega
  · omega

theorem emitPartial_canonical (hm : MemoryCanonical s) : MemoryCanonical (s.emitPartial i) := by
  unfold State.emitPartial
  split
  · unfold State.emitWindow
    dsimp only
    split
    · rw [if_neg (by simp)]
      exact writeFilledLine_canonical (s := s.setStream i _) hm _ _
    · exact hm
  · exact hm

theorem withPartial_slot (x : Machine.Stream) (b : OpenBlock) : (withPartial x b).slot = b.slot := by
  unfold withPartial
  split <;> rfl

theorem withPartial_gap (x : Machine.Stream) (b : OpenBlock) : (withPartial x b).gap = b.gap := by
  unfold withPartial
  split <;> rfl

/-- R55: the flags of a block with its partial point. -/
theorem withPartial_flags (x : Machine.Stream) (b : OpenBlock) :
    (withPartial x b).header.flags = (b.header.flags ||| Flag.when x.window.isSome Flag.partialLast) := by
  unfold withPartial
  split
  · next h => simp [h, State.placePoint, Flag.when]
  · next h => simp [h, Flag.when]

end Sys2Proof.Machine
end

section
/-! PROOFS. Levels at window boundaries. -/

-- One theorem at a time: the stacks of a thread each would exceed the memory of the check.
set_option Elab.async false

namespace Sys2Proof.Machine

open Sys2Proof.Safety

variable {s : State} {i : StreamId}

/-! ## The application of a level (R110) -/

theorem applyLevel_same (h : (s.stream i).level = s.publishedFor i) : s.applyLevel i = s := if_pos h

/-- R110: where the levels differ, the open block closes and the published level is taken, with its event. -/
theorem applyLevel_changed (h : (s.stream i).level ≠ s.publishedFor i) : s.applyLevel i =
    (((s.closeOpen i Flag.factorChange none).setStream i
      { (s.closeOpen i Flag.factorChange none).stream i with level := s.publishedFor i }).raise
        (.stream i .levelChanged)) := if_neg h

@[simp] theorem closeOpen_stream_cfg (i j : StreamId) (f : BitVec 16) (t : Option GapSection) :
    ((s.closeOpen i f t).stream j).cfg = (s.stream j).cfg := by
  by_cases hj : j = i
  · subst hj
    cases h : (s.stream j).openBlock with
    | none => rw [State.closeOpen_of_none h]
    | some b => rw [State.closeOpen_stream_self h]
  · rw [State.closeOpen_stream_other _ _ _ _ hj]

@[simp] theorem closeOpen_stream_level (i j : StreamId) (f : BitVec 16) (t : Option GapSection) :
    ((s.closeOpen i f t).stream j).level = (s.stream j).level := by
  by_cases hj : j = i
  · subst hj
    cases h : (s.stream j).openBlock with
    | none => rw [State.closeOpen_of_none h]
    | some b => rw [State.closeOpen_stream_self h]
  · rw [State.closeOpen_stream_other _ _ _ _ hj]

@[simp] theorem closeOpen_enabled (i : StreamId) (f : BitVec 16) (t : Option GapSection) :
    (s.closeOpen i f t).enabled = s.enabled := by
  funext e
  cases e <;> simp [State.enabled]

/-- R110: what applying a level leaves of the stream. -/
theorem applyLevel_stream_level : ((s.applyLevel i).stream i).level = s.publishedFor i := by
  by_cases h : (s.stream i).level = s.publishedFor i
  · rw [applyLevel_same h, h]
  · rw [applyLevel_changed h]
    simp

theorem applyLevel_stream_cfg : ((s.applyLevel i).stream i).cfg = (s.stream i).cfg := by
  by_cases h : (s.stream i).level = s.publishedFor i
  · rw [applyLevel_same h]
  · rw [applyLevel_changed h]
    simp

theorem applyLevel_publishedFor : (s.applyLevel i).publishedFor i = s.publishedFor i := by
  unfold State.publishedFor State.group
  rw [applyLevel_stream_cfg, State.applyLevel_groups]

/-- R110: a level that has been applied is applied no more. -/
theorem applyLevel_applyLevel : (s.applyLevel i).applyLevel i = s.applyLevel i :=
  applyLevel_same (applyLevel_stream_level.trans applyLevel_publishedFor.symm)

/-! ## Inputs handed over, by the stream's state (R49, R114) -/

theorem handInput_first (hloss : (s.stream i).loss = none) (hw : (s.stream i).window = none) (v : Int) :
    s.handInput i v = s.takeFirst i v := by
  simp only [State.handInput, Stream.lossy, hloss, hw, Option.isSome_none, Bool.false_eq_true, if_false]

theorem handInput_next {w : Window} (hloss : (s.stream i).loss = none) (hw : (s.stream i).window = some w) (v : Int) :
    s.handInput i v = s.takeNext i w v := by
  simp only [State.handInput, Stream.lossy, hloss, hw, Option.isSome_none, Bool.false_eq_true, if_false]

/-- R115: between its boundaries a LOSSY stream asks for nothing. -/
theorem lossyRetry_between {r : LossRecord} (hr : (s.stream i).loss = some r) (hseen : r.seen ≠ 0) :
    s.lossyRetry i = s := by
  simp only [State.lossyRetry, hr, if_pos hseen]

theorem handInput_between {r : LossRecord} (hr : (s.stream i).loss = some r) (hseen : r.seen ≠ 0) (v : Int) :
    s.handInput i v = s.countLossy i := by
  simp only [State.handInput, lossyRetry_between hr hseen, Stream.lossy, hr, Option.isSome_some, if_true]

/-- R110, R115: a LOSSY stream at a boundary applies the published level first. -/
theorem lossyRetry_applyLevel {r : LossRecord} (hr : (s.stream i).loss = some r) (hseen : r.seen = 0) :
    (s.applyLevel i).lossyRetry i = s.lossyRetry i := by
  have hr' : ((s.applyLevel i).stream i).loss = some r := State.applyLevel_stream_self.2.1.trans hr
  simp only [State.lossyRetry, hr, hr', hseen, ne_eq, not_true_eq_false, if_false, applyLevel_applyLevel]

theorem emitWindow_stream_level (isPartial : Bool) : ((s.emitWindow i isPartial).stream i).level = (s.stream i).level := by
  unfold State.emitWindow
  dsimp only
  split
  · split
    · rw [closeOpen_stream_level]
      simp
    · simp
  · simp

theorem countLossy_stream_level : ((s.countLossy i).stream i).level = (s.stream i).level := by
  unfold State.countLossy
  dsimp only
  split <;> simp

end Sys2Proof.Machine

namespace Sys2Proof

open Machine Safety

/-- Settles O33: a boundary is where the level is applied, and applying it twice is applying it once. -/
theorem levelsApplyAtWindowBoundaries : Obligations.LevelsApplyAtWindowBoundaries := by
  refine ⟨fun s i v x hx => ⟨fun hloss hw => ?_, fun r hr hseen => ⟨?_, fun isTail tail => ?_⟩, fun w hloss hw => ?_,
    fun r hr hseen => ?_⟩, fun s i g hg => ?_, fun s t i ht hm => ⟨fun hsame => ?_, fun hne => ?_⟩⟩
  · subst hx
    obtain ⟨hw', hloss', -⟩ := State.applyLevel_stream_self (s := s) (i := i)
    rw [handInput_first hloss hw, handInput_first (hloss'.trans hloss) (hw'.trans hw)]
    unfold State.takeFirst
    rw [applyLevel_applyLevel]
  · subst hx
    have hlossy : ((s.applyLevel i).stream i).lossy = (s.stream i).lossy :=
      congrArg Option.isSome State.applyLevel_stream_self.2.1
    have h : (s.stream i).lossy = true := by simp [Stream.lossy, hr]
    unfold State.handInput
    rw [hlossy, if_pos h, if_pos h, lossyRetry_applyLevel hr hseen]
  · subst hx
    unfold State.passInput
    rw [lossyRetry_applyLevel hr hseen]
  · subst hx
    rw [handInput_next hloss hw]
    unfold State.takeNext
    dsimp only
    split
    · rw [emitWindow_stream_level, State.setStream_stream_self]
    · rw [State.setStream_stream_self]
  · subst hx
    rw [handInput_between hr hseen, countLossy_stream_level]
  · subst hg
    unfold State.publishedFor Group.published
    split
    · next h => exact (min_eq_left (Fin.le_def.1 h)).symm
    · next h => exact (min_eq_right (Fin.le_def.1 (not_le.1 h).le)).symm
  · rw [ht, applyLevel_same hsame]
  · rw [applyLevel_changed hne] at ht
    refine ⟨?_, fun j hj => ?_, fun hopen => ?_, fun b hb => ⟨?_, ?_, fun hfit => ?_, ?_⟩⟩
    · rw [ht, raise_report, enabled_setStream (by simp), closeOpen_enabled]
      simp
    · rw [ht]
      simp [State.setStream_stream_other _ _ hj, State.closeOpen_stream_other _ _ _ _ hj]
    · rw [ht, State.closeOpen_of_none hopen, State.raise_eq]
      rfl
    · rw [ht]
      simp [State.closeOpen_stream_self hb]
    · rw [ht, State.storedBytes, State.raise_dram, State.setStream_spill]
      have hflags := closeOpen_flags hb Flag.factorChange none hm
      simpa [Flag.when, State.storedBytes] using hflags
    · rw [ht, State.raise_dram, State.setStream_spill]
      exact closeOpen_sameOutside hb _ none hfit
    · have hframe := State.eq_of_rest (s := s) (t := t) (by rw [ht]; simp)
      have hgroups : t.groups = s.groups := by rw [ht]; simp
      rw [hgroups] at hframe
      exact hframe

end Sys2Proof
end

section
/-! PROOFS. Segments: how one ends at its stream, and how one begins, with the frames that say so. -/

-- One theorem at a time: the stacks of a thread each would exceed the memory of the check.
set_option Elab.async false

namespace Sys2Proof.Machine

open Sys2Proof.Safety

/-! ## What a segment frame leaves alone -/

/-- What an acquisition frame's work at one stream leaves alone of the other blocks: `rest`, the published levels, and the
events that wait. -/
def Grows (s t : State) : Prop :=
  t.rest = s.rest ∧ (∀ e ∈ s.report.events, e ∈ t.report.events) ∧ ∀ g, (t.group g).published = (s.group g).published

theorem grows_refl (s : State) : Grows s s := ⟨rfl, fun _ h => h, fun _ => rfl⟩

theorem grows_trans (s t u : State) (h : Grows s t) (k : Grows t u) : Grows s u :=
  ⟨k.1.trans h.1, fun e he => k.2.1 e (h.2.1 e he), fun g => (k.2.2 g).trans (h.2.2 g)⟩

section
variable {s : State} {i : StreamId}

theorem setCounters_same (s : State) : s.setCounters s.counters = s := rfl

theorem grows_of_same {t : State} (hrest : t.rest = s.rest) (hreport : t.report = s.report) (hgroups : t.groups = s.groups) :
    Grows s t :=
  ⟨hrest, fun _ h => hreport ▸ h, fun g => by unfold State.group; rw [hgroups]⟩

/-- R165: a raised event joins those that wait. -/
theorem raisedIn_mono (r : ReportUnit) (enabled : Bool) (p : EventPair) : ∀ e ∈ r.events, e ∈ (raisedIn r enabled p).events := by
  intro e he
  unfold raisedIn
  split
  · exact List.mem_append_left _ he
  · exact he

/-- R165: an enabled event that is raised waits. -/
theorem mem_raisedIn (r : ReportUnit) (p : EventPair) : p ∈ (raisedIn r true p).events := by
  unfold raisedIn
  by_cases h : p ∈ r.events
  · rwa [if_neg fun h' => h'.2 h]
  · rw [if_pos ⟨rfl, h⟩]
    exact List.mem_append_right _ List.mem_cons_self

theorem grows_raise (s : State) (p : EventPair) : Grows s (s.raise p) := by
  refine ⟨by simp, ?_, fun g => by unfold State.group; simp⟩
  rw [raise_report]
  exact raisedIn_mono _ _ _

theorem judged_published (x : Group) (k : Condition) : (x.judged k).published = x.published := rfl

theorem grows_judge (s : State) (g : GroupId) : Grows s (s.judge g) := by
  refine ⟨by simp, fun _ h => h, fun h => ?_⟩
  unfold State.judge
  rw [State.setGroup_group]
  split
  · next e => rw [e, judged_published]
  · rfl

theorem grows_closeOpen (s : State) (i : StreamId) (f : BitVec 16) (t : Option GapSection) : Grows s (s.closeOpen i f t) :=
  grows_of_same (by simp) (by simp) (by simp)

theorem grows_emitPartial (s : State) (i : StreamId) : Grows s (s.emitPartial i) :=
  grows_of_same (by simp) (by simp) (by simp)

theorem grows_setStream (s : State) (i : StreamId) (x : Machine.Stream) : Grows s (s.setStream i x) :=
  grows_of_same rfl rfl rfl

theorem grows_enterLossy (s : State) (i : StreamId) (r : LossRecord) : Grows s (s.enterLossy i r) :=
  grows_trans _ _ _ (grows_setStream s i _) (grows_raise _ _)

theorem grows_openIn (s : State) (i : StreamId) (slot n : Nat) (gap : Option GapSection) (timed : Bool) :
    Grows s (s.openIn i slot gap n timed) := by
  refine ⟨by simp, ?_, fun g => by unfold State.group; simp⟩
  rw [openIn_report]
  split
  · exact raisedIn_mono _ _ _
  · exact fun _ h => h

theorem grows_allocate {t : State} {ordinary : Bool} {slot : Nat} (h : s.allocate i ordinary = some (slot, t)) : Grows s t := by
  obtain ⟨-, -, -, -, -, -, -, -, hreport, hgroups⟩ := State.allocate_some h
  refine ⟨State.allocate_rest h, fun _ he => hreport ▸ he, fun g => ?_⟩
  unfold State.allocate at h
  split at h
  · cases h
  · split at h
    · cases h
    · cases h
      exact (grows_judge _ _).2.2 g

theorem grows_carryGap (s : State) (i : StreamId) (g : GapSection) (truncated : Bool) : Grows s (s.carryGap i g truncated) := by
  unfold State.carryGap
  split
  · next slot t ht =>
    exact grows_trans _ _ _ (grows_allocate ht) (grows_trans _ _ _ (grows_setStream _ _ _)
      (grows_trans _ _ _ (grows_openIn _ _ _ _ _ _) (grows_closeOpen _ _ _ _)))
  · exact grows_enterLossy _ _ _

theorem grows_endSegmentBlock (s : State) (i : StreamId) (truncated : Bool) (tail : Option GapRecord) :
    Grows s (s.endSegmentBlock i truncated tail) := by
  unfold State.endSegmentBlock
  dsimp only
  split
  · exact grows_refl _
  · split
    · exact grows_closeOpen _ _ _ _
    · split
      · exact grows_closeOpen _ _ _ _
      · exact grows_trans _ _ _ (grows_closeOpen _ _ _ _) (grows_carryGap _ _ _ _)
    · split
      · exact grows_carryGap _ _ _ _
      · exact grows_carryGap _ _ _ _
      · exact grows_carryGap _ _ _ _
      · exact grows_refl _

/-! ## The end of a segment (R8, R40, R45 to R47) -/

/-- R73, R79: what the block assembler makes of a segment end, the open window being emitted first. -/
def segmentBlock (s : State) (i : StreamId) (truncated : Bool) (tail : Option GapRecord) : State :=
  (s.emitPartial i).endSegmentBlock i truncated tail

theorem endSegment_eq (s : State) (i : StreamId) (truncated : Bool) (tail : Option GapRecord) :
    s.endSegment i truncated tail =
      let u := if truncated then (segmentBlock s i truncated tail).raise (.stream i .segmentTruncated)
        else segmentBlock s i truncated tail
      u.setStream i { State.abandonWouldBe (u.stream i) with
        phase := .running .betweenSegments
        walker := { (State.abandonWouldBe (u.stream i)).walker with stack := [] }
        resync := none } := rfl

theorem grows_endSegment (s : State) (i : StreamId) (truncated : Bool) (tail : Option GapRecord) :
    Grows s (s.endSegment i truncated tail) := by
  have hblock : Grows s (segmentBlock s i truncated tail) :=
    grows_trans _ _ _ (grows_emitPartial _ _) (grows_endSegmentBlock _ _ _ _)
  rw [endSegment_eq]
  cases truncated
  · exact grows_trans _ _ _ hblock (grows_setStream _ _ _)
  · exact grows_trans _ _ _ hblock (grows_trans _ _ _ (grows_raise _ _) (grows_setStream _ _ _))

/-- What the end of a segment leaves of its stream's context. -/
def Stream.ridden (x : Machine.Stream) : StreamConfig × BitVec 32 × Level × Walker × Nat × BitVec 64 :=
  (x.cfg, x.segment, x.level, x.walker, x.inputIndex, x.counts.accepted)

theorem closeOpen_ridden (s : State) (i : StreamId) (f : BitVec 16) (t : Option GapSection) :
    ((s.closeOpen i f t).stream i).ridden = (s.stream i).ridden := by
  cases h : (s.stream i).openBlock with
  | none => rw [State.closeOpen_of_none h]
  | some b => rw [State.closeOpen_stream_self h]; rfl

theorem carryGap_ridden (s : State) (i : StreamId) (g : GapSection) (truncated : Bool) :
    ((s.carryGap i g truncated).stream i).ridden = (s.stream i).ridden := by
  unfold State.carryGap
  split
  · next slot t ht =>
    obtain ⟨-, -, hstream, -⟩ := State.allocate_some ht
    rw [closeOpen_ridden, State.openIn_stream_self, State.setStream_stream_self, hstream]
    rfl
  · unfold State.enterLossy
    rw [State.raise_stream, State.setStream_stream_self]
    rfl

theorem endSegmentBlock_ridden (s : State) (i : StreamId) (truncated : Bool) (tail : Option GapRecord) :
    ((s.endSegmentBlock i truncated tail).stream i).ridden = (s.stream i).ridden := by
  unfold State.endSegmentBlock
  dsimp only
  split
  · rfl
  · split
    · exact closeOpen_ridden _ _ _ _
    · split
      · exact closeOpen_ridden _ _ _ _
      · exact (carryGap_ridden _ _ _ _).trans (closeOpen_ridden _ _ _ _)
    · split
      · exact carryGap_ridden _ _ _ _
      · exact carryGap_ridden _ _ _ _
      · exact carryGap_ridden _ _ _ _
      · rfl

theorem segmentBlock_ridden (s : State) (i : StreamId) (truncated : Bool) (tail : Option GapRecord) :
    ((segmentBlock s i truncated tail).stream i).ridden = (s.stream i).ridden := by
  obtain ⟨b, points, hstream, -⟩ := State.emitPartial_stream_self s i
  rw [segmentBlock, endSegmentBlock_ridden, hstream]
  rfl

theorem carryGap_window (s : State) (i : StreamId) (g : GapSection) (truncated : Bool) (h : (s.stream i).window = none) :
    ((s.carryGap i g truncated).stream i).window = none := by
  unfold State.carryGap
  split
  · next slot t ht =>
    obtain ⟨-, -, hstream, -⟩ := State.allocate_some ht
    rw [State.closeOpen_stream_window, State.openIn_stream_self, State.setStream_stream_self, hstream]
    exact h
  · unfold State.enterLossy
    rw [State.raise_stream, State.setStream_stream_self]

theorem endSegmentBlock_window (truncated : Bool) (tail : Option GapRecord) (h : (s.stream i).window = none) :
    ((s.endSegmentBlock i truncated tail).stream i).window = none := by
  have hclosed : ∀ f t, ((s.closeOpen i f t).stream i).window = none := fun f t => by
    rw [State.closeOpen_stream_window, h]
  unfold State.endSegmentBlock
  dsimp only
  split
  · exact h
  · split
    · exact hclosed _ _
    · split
      · exact hclosed _ _
      · exact carryGap_window _ _ _ _ (hclosed _ _)
    · split
      · exact carryGap_window _ _ _ _ h
      · exact carryGap_window _ _ _ _ h
      · exact carryGap_window _ _ _ _ h
      · exact h

/-- R8, R40: what the end of a segment leaves of its stream. -/
theorem endSegment_stream (s : State) (i : StreamId) (truncated : Bool) (tail : Option GapRecord) :
    (s.endSegment i truncated tail).stream i = { State.abandonWouldBe ((segmentBlock s i truncated tail).stream i) with
      phase := .running .betweenSegments
      walker := { (s.stream i).walker with stack := [] }
      resync := none } := by
  have hwalker : ((segmentBlock s i truncated tail).stream i).walker = (s.stream i).walker :=
    congrArg (·.2.2.2.1) (segmentBlock_ridden s i truncated tail)
  rw [endSegment_eq, ← hwalker]
  cases truncated <;> simp [State.abandonWouldBe]

/-- R40, R45: what a segment's end leaves: between segments, no window, the walker at rest. -/
theorem endSegment_rests (s : State) (i : StreamId) (truncated : Bool) (tail : Option GapRecord) :
    ((s.endSegment i truncated tail).stream i).phase = .running .betweenSegments ∧
    ((s.endSegment i truncated tail).stream i).window = none ∧
    ((s.endSegment i truncated tail).stream i).resync = none ∧
    ((s.endSegment i truncated tail).stream i).walker = { (s.stream i).walker with stack := [] } ∧
    ((s.endSegment i truncated tail).stream i).inputIndex = (s.stream i).inputIndex ∧
    ((s.endSegment i truncated tail).stream i).counts.accepted = (s.stream i).counts.accepted ∧
    ((s.endSegment i truncated tail).stream i).level = (s.stream i).level ∧
    ((s.endSegment i truncated tail).stream i).cfg = (s.stream i).cfg := by
  have hridden := segmentBlock_ridden s i truncated tail
  simp only [Stream.ridden, Prod.mk.injEq] at hridden
  obtain ⟨hcfg, -, hlevel, -, hindex, haccepted⟩ := hridden
  rw [endSegment_stream]
  exact ⟨rfl, endSegmentBlock_window _ _ State.emitPartial_stream_window, rfl, rfl, hindex, haccepted, hlevel, hcfg⟩

/-- R165: a stream's events are enabled by its own configuration. -/
theorem enabled_stream_congr {t : State} (h : (t.stream i).cfg = (s.stream i).cfg) (e : StreamEvent) :
    t.enabled (.stream i e) = s.enabled (.stream i e) := congrArg (fun c : StreamConfig => c.eventMask.getLsbD e.code) h

/-- R45: a truncation is raised. -/
theorem endSegment_event (s : State) (i : StreamId) (tail : Option GapRecord)
    (henabled : s.enabled (.stream i .segmentTruncated) = true) :
    EventPair.stream i .segmentTruncated ∈ (s.endSegment i true tail).report.events := by
  have hcfg : ((segmentBlock s i true tail).stream i).cfg = (s.stream i).cfg :=
    congrArg (·.1) (segmentBlock_ridden s i true tail)
  rw [endSegment_eq]
  simp only [if_true, State.setStream_report, raise_report]
  rw [enabled_stream_congr hcfg, henabled]
  exact mem_raisedIn _ _

/-! ## A segment that ends with an open block (R73) -/

theorem endSegmentBlock_open (truncated : Bool) (hloss : (s.stream i).loss = none) (hopen : (s.stream i).openBlock ≠ none) :
    s.endSegmentBlock i truncated none = s.closeOpen i (State.segmentFlags truncated) none := by
  obtain ⟨b, hb⟩ := Option.ne_none_iff_exists'.1 hopen
  unfold State.endSegmentBlock
  simp only [Stream.lossy, hloss, hb, Option.isSome_none, Bool.false_eq_true, if_false]

section
variable {b : OpenBlock} (hb : (s.stream i).openBlock = some b) (hloss : (s.stream i).loss = none)
include hb hloss

theorem segmentBlock_open (truncated : Bool) :
    segmentBlock s i truncated none = (s.emitPartial i).closeOpen i (State.segmentFlags truncated) none := by
  refine endSegmentBlock_open truncated ?_ ?_
  · rw [State.emitPartial_stream_loss, hloss]
  · rw [emitPartial_openBlock hb]
    exact nofun

/-- R73: the open block joins the send queue. -/
theorem endSegment_open (truncated : Bool) :
    ((s.endSegment i truncated none).stream i).openBlock = none ∧
    ((s.endSegment i truncated none).stream i).sendQueue = (s.stream i).sendQueue ++ [b.slot] ∧
    ((s.endSegment i truncated none).stream i).counts.closed = (s.stream i).counts.closed + 1 := by
  obtain ⟨c, points, hstream, -⟩ := State.emitPartial_stream_self s i
  rw [endSegment_stream, segmentBlock_open hb hloss, State.closeOpen_stream_self (emitPartial_openBlock hb),
    withPartial_slot, hstream]
  exact ⟨rfl, rfl, rfl⟩

theorem endSegment_dram (truncated : Bool) : (s.endSegment i truncated none).spill.dram =
    ((s.emitPartial i).closeOpen i (State.segmentFlags truncated) none).spill.dram := by
  rw [endSegment_eq, segmentBlock_open hb hloss]
  cases truncated <;> simp

/-- R73: the stored header of the block that a segment end closes. -/
theorem endSegment_flags (truncated : Bool) (hm : MemoryCanonical s) :
    imageFlags ((s.endSegment i truncated none).storedBytes b.slot 64) =
      (b.header.flags ||| Flag.when (s.stream i).window.isSome Flag.partialLast ||| Flag.endOfSegment |||
        Flag.when truncated Flag.truncated) := by
  have hflags := closeOpen_flags (emitPartial_openBlock hb) (State.segmentFlags truncated) none (emitPartial_canonical hm)
  rw [withPartial_slot, withPartial_flags] at hflags
  have hstored : (s.endSegment i truncated none).storedBytes b.slot 64 =
      ((s.emitPartial i).closeOpen i (State.segmentFlags truncated) none).storedBytes b.slot 64 :=
    congrArg (fun m => Memory.readAll m (slotAddress b.slot) 64) (endSegment_dram hb hloss truncated)
  have hnone : Flag.when (none : Option GapSection).isSome Flag.gapSection = 0#16 := rfl
  rw [hstored, hflags, hnone, BitVec.or_zero, State.segmentFlags]
  simp only [BitVec.or_assoc]

/-- R73: a segment end writes within the slot of its open block. -/
theorem endSegment_sameOutside (truncated : Bool) (hfit : headerLength b.gap + b.payload.length + 4 ≤ 65536) :
    SameOutside b.slot s.spill.dram (s.endSegment i truncated none).spill.dram := by
  have hclose := closeOpen_sameOutside (emitPartial_openBlock hb) (State.segmentFlags truncated) none
    (withPartial_fits (s.stream i) hfit)
  rw [withPartial_slot] at hclose
  exact sameOutside_of_eq (sameOutside_trans (emitPartial_sameOutside hb hfit) hclose) (endSegment_dram hb hloss truncated)

end

/-! ## The beginning of a segment (R7, R8, R16) -/

theorem max_one_period (period : BitVec 32) : (if period = 0 then 1 else period.toNat) = max 1 period.toNat := by
  by_cases h : period = 0
  · rw [if_pos h, h]
    rfl
  · have : period.toNat ≠ 0 := fun e => h (BitVec.eq_of_toNat_eq e)
    rw [if_neg h]
    omega

/-- R7: what entering RUNNING leaves of the stream. -/
theorem enterRunning_stream (s : State) (i : StreamId) (late : Bool) (segment : BitVec 32) (t0 : BitVec 64) (period : BitVec 32) :
    (s.enterRunning i late segment t0 period).stream i =
      ({ s.stream i with level := s.publishedFor i, lateStart := late } : Machine.Stream).atSegment segment t0 period := by
  unfold State.enterRunning State.beginSegment
  simp

theorem grows_enterRunning (s : State) (i : StreamId) (late : Bool) (segment : BitVec 32) (t0 : BitVec 64)
    (period : BitVec 32) : Grows s (s.enterRunning i late segment t0 period) :=
  grows_trans _ _ _ (grows_setStream s i _) (grows_trans _ _ _ (grows_setStream _ i _) (grows_judge _ _))

theorem grows_setStart (s : State) (g : GroupId) (start : Option (BitVec 32)) :
    Grows s (s.setGroup g { s.group g with startSegment := start }) := by
  refine ⟨rfl, fun _ h => h, fun h => ?_⟩
  rw [State.setGroup_group]
  split
  · next e => rw [e]; rfl
  · rfl

theorem grows_takeArmedStart (s : State) (i : StreamId) (arming : Arming) (segment : BitVec 32) (t0 : BitVec 64)
    (period : BitVec 32) : Grows s (s.takeArmedStart i arming segment t0 period) := by
  unfold State.takeArmedStart
  split
  · exact grows_enterRunning _ _ _ _ _ _
  · dsimp only
    split
    · exact grows_trans _ _ _ (grows_setStart _ _ _) (grows_enterRunning _ _ _ _ _ _)
    · split
      · exact grows_refl _
      · exact grows_enterRunning _ _ _ _ _ _

/-- R106: no judgement moves the start segment. -/
theorem enterRunning_startSegment (s : State) (i : StreamId) (late : Bool) (segment : BitVec 32) (t0 : BitVec 64)
    (period : BitVec 32) (g : GroupId) :
    ((s.enterRunning i late segment t0 period).group g).startSegment = (s.group g).startSegment := by
  unfold State.enterRunning State.judgeFor State.judge
  rw [State.setGroup_group]
  split
  · next e => rw [e]; rfl
  · rfl

section
variable {segment : BitVec 32} {t0 : BitVec 64} {period : BitVec 32}

theorem offerSegmentStart_armed {arming : Arming} (h : (s.stream i).phase = .armed arming) :
    State.offerSegmentStart segment t0 period s i = (s.takeArmedStart i arming segment t0 period, .taken) := by
  simp only [State.offerSegmentStart, h]

theorem offerSegmentStart_inSegment (h : (s.stream i).phase = .running .inSegment) :
    State.offerSegmentStart segment t0 period s i = ((s.endSegment i true none).beginSegment i segment t0 period, .taken) := by
  simp only [State.offerSegmentStart, h]

theorem offerSegmentStart_between (h : (s.stream i).phase = .running .betweenSegments) :
    State.offerSegmentStart segment t0 period s i = (s.beginSegment i segment t0 period, .taken) := by
  simp only [State.offerSegmentStart, h]

theorem offerSegmentStart_away (h : (s.stream i).phase = .idle ∨ ∃ a, (s.stream i).phase = .closing a) :
    State.offerSegmentStart segment t0 period s i = (s, .notTaken) := by
  rcases h with h | ⟨a, h⟩ <;> simp only [State.offerSegmentStart, h]

/-- R145: the four ways in which a SEGMENT_START finds a stream. -/
theorem phase_cases (x : Machine.Stream) : (∃ arming, x.phase = .armed arming) ∨ x.phase = .running .inSegment ∨
    x.phase = .running .betweenSegments ∨ (x.phase = .idle ∨ ∃ a, x.phase = .closing a) := by
  cases x.phase with
  | idle => exact .inr (.inr (.inr (.inl rfl)))
  | armed a => exact .inl ⟨a, rfl⟩
  | closing a => exact .inr (.inr (.inr (.inr ⟨a, rfl⟩)))
  | running sub =>
    cases sub with
    | inSegment => exact .inr (.inl rfl)
    | betweenSegments => exact .inr (.inr (.inl rfl))

theorem offerSegmentStart_actsAlone : ActsAlone (State.offerSegmentStart segment t0 period) := by
  intro u i j hj
  rcases phase_cases (u.stream i) with ⟨a, h⟩ | h | h | h
  · rw [offerSegmentStart_armed h]
    exact State.takeArmedStart_stream_other _ _ _ _ _ _ hj
  · rw [offerSegmentStart_inSegment h]
    exact (State.beginSegment_stream_other _ _ _ _ _ hj).trans (State.endSegment_stream_other _ _ _ _ hj)
  · rw [offerSegmentStart_between h]
    exact State.beginSegment_stream_other _ _ _ _ _ hj
  · rw [offerSegmentStart_away h]

theorem grows_offerSegmentStart (u : State) (i : StreamId) : Grows u (State.offerSegmentStart segment t0 period u i).1 := by
  rcases phase_cases (u.stream i) with ⟨a, h⟩ | h | h | h
  · rw [offerSegmentStart_armed h]
    exact grows_takeArmedStart _ _ _ _ _ _
  · rw [offerSegmentStart_inSegment h]
    exact grows_trans _ _ _ (grows_endSegment _ _ _ _) (grows_setStream _ _ _)
  · rw [offerSegmentStart_between h]
    exact grows_setStream _ _ _
  · rw [offerSegmentStart_away h]
    exact grows_refl _

theorem offerSegmentStart_disposal (u : State) (i : StreamId) :
    (State.offerSegmentStart segment t0 period u i).2 = .taken ∨
      (State.offerSegmentStart segment t0 period u i).2 = .notTaken := by
  rcases phase_cases (u.stream i) with ⟨a, h⟩ | h | h | h
  · rw [offerSegmentStart_armed h]; exact .inl rfl
  · rw [offerSegmentStart_inSegment h]; exact .inl rfl
  · rw [offerSegmentStart_between h]; exact .inl rfl
  · rw [offerSegmentStart_away h]; exact .inr rfl

/-- R145: SEGMENT_START at a stream alone on its source. -/
theorem exec_segmentStart_alone {source : Byte} (hsync : s.receiver.inSync = true) (hsource : source.toNat < 32)
    (hi : ∀ j, OnSource s source j ↔ j = i) :
    exec (.segmentStart source segment t0 period) s = .next (State.offerSegmentStart segment t0 period s i).1 := by
  refine congrArg Host.Outcome.next (intake_alone offerSegmentStart_actsAlone hsync hsource hi ?_)
  exact (offerSegmentStart_disposal s i).imp_right fun h => ⟨h, rfl⟩

end

end

end Sys2Proof.Machine

namespace Sys2Proof

open Machine Safety

/-- Settles O30: the four places of the frame's segment against the start segment. -/
theorem groupAlignmentFollowsTheStartSegment : Obligations.GroupAlignmentFollowsTheStartSegment := by
  intro s i source segment t0 period hsync hsource hi harmed
  have hexec := exec_segmentStart_alone (segment := segment) (t0 := t0) (period := period) hsync hsource hi
  rw [offerSegmentStart_armed harmed] at hexec
  refine ⟨_, hexec, fun first hfirst hlt => ?_, fun first hfirst hle => ?_, fun hnone => ?_⟩
  · simp only [State.takeArmedStart, hfirst, if_pos hlt]
  · have htake : s.takeArmedStart i .group segment t0 period = s.enterRunning i (first < segment) segment t0 period := by
      simp only [State.takeArmedStart, hfirst, if_neg (BitVec.not_lt.2 hle)]
    dsimp only
    rw [htake, enterRunning_stream, enterRunning_startSegment, hfirst]
    refine ⟨rfl, rfl, ?_, rfl⟩
    show decide (first < segment) = true ↔ first ≠ segment
    rw [decide_eq_true_eq]
    exact ⟨fun h e => BitVec.lt_irrefl _ (e ▸ h), fun h => BitVec.lt_of_le_ne hle h⟩
  · have htake : s.takeArmedStart i .group segment t0 period =
        (s.setGroup (s.stream i).cfg.group { s.group (s.stream i).cfg.group with startSegment := some segment }).enterRunning
          i false segment t0 period := by
      simp only [State.takeArmedStart, hnone]
    dsimp only
    rw [htake, enterRunning_stream, enterRunning_startSegment, State.setGroup_group_self]
    exact ⟨rfl, rfl, rfl, rfl⟩

/-- Settles O29: each stream on the source, by how the frame finds it; and the truncated end at a stream alone. -/
theorem segmentStartBeginsTheSegment : Obligations.SegmentStartBeginsTheSegment := by
  refine ⟨fun s source segment t0 period hsync hsource => ?_, fun s i source segment t0 period hsync hsource hi hphase =>
    ⟨?_, fun b hb hloss hm hfit => ?_⟩⟩
  · obtain ⟨turn, hat, hon, hoff, hlast, hgrows, hds⟩ := fanOut_spec (source := source) Grows
      (offerSegmentStart_actsAlone (segment := segment) (t0 := t0) (period := period)) grows_refl grows_trans s
      fun u i _ => grows_offerSegmentStart u i
    have hturn : ∀ i, (turn i).stream i = s.stream i := fun i => (hat i).1
    have hone : ∀ d ∈ (s.fanOut source (State.offerSegmentStart segment t0 period)).2, d = .taken ∨ d = .notTaken := by
      intro d hd
      obtain ⟨i, -, rfl⟩ := (hds d).1 hd
      exact offerSegmentStart_disposal _ _
    obtain ⟨c, hintake, -, hstay⟩ := intake_orphan (offer := State.offerSegmentStart segment t0 period) hsync hsource
      fun h => (hone _ h).elim nofun nofun
    have hc := hstay fun h => (hone _ h).elim nofun nofun
    rw [hc, setCounters_same] at hintake
    clear hstay hc hone hds
    generalize (s.fanOut source (State.offerSegmentStart segment t0 period)).1 = t at hintake hon hoff hlast hgrows
    refine ⟨t, congrArg Host.Outcome.next hintake, fun i hsrc hphase => ?_, fun i hsrc hphase => ?_,
      fun i h => ?_, congrArg (·.2.2.1) hgrows.1, State.eq_of_rest hgrows.1⟩
    · rw [hon i hsrc]
      rcases hphase with harmed | hbetween
      · have hlevel : (turn i).publishedFor i = s.publishedFor i := by
          unfold State.publishedFor
          rw [hturn, (hat i).2.2.2]
        rw [offerSegmentStart_armed (by rw [hturn, harmed]), if_pos harmed, if_pos harmed]
        show ((turn i).enterRunning i false segment t0 period).stream i = _
        rw [enterRunning_stream, hturn, hlevel, Stream.atSegment, max_one_period]
        rfl
      · have hnot : (s.stream i).phase ≠ .armed .alone := by rw [hbetween]; exact nofun
        rw [offerSegmentStart_between (by rw [hturn, hbetween]), if_neg hnot, if_neg hnot]
        unfold State.beginSegment
        rw [State.setStream_stream_self, hturn, Stream.atSegment, max_one_period]
        rfl
    · have hphase' : ((turn i).stream i).phase = .running .inSegment := by rw [hturn, hphase]
      obtain ⟨-, hwindow, -, -, -, -, hlevel, -⟩ := endSegment_rests (turn i) i true none
      have hend := hlast i hsrc
      rw [offerSegmentStart_inSegment hphase'] at hend
      rw [hon i hsrc, offerSegmentStart_inSegment hphase']
      unfold State.beginSegment at hend ⊢
      rw [State.setStream_stream_self, Stream.atSegment, max_one_period]
      refine ⟨rfl, rfl, rfl, rfl, rfl, by rw [← hturn]; exact hlevel, fun henabled => ?_, fun b hb hloss => ?_⟩
      · refine hend.2.1 _ (endSegment_event (turn i) i none ?_)
        rwa [enabled_stream_congr (congrArg Stream.cfg (hturn i))]
      · rw [← hturn] at hb hloss ⊢
        exact endSegment_open hb hloss true
    · by_cases hsrc : OnSource s source i
      · rw [hon i hsrc, offerSegmentStart_away (by rw [hturn]; exact h.resolve_left fun hne => hne hsrc), hturn]
      · exact hoff i hsrc
  · have hsource' : ∀ j, OnSource (s.endSegment i true none) source j ↔ j = i := fun j => by
      rw [← hi j]
      unfold OnSource
      by_cases hj : j = i
      · rw [hj, (endSegment_rests s i true none).2.2.2.2.2.2.2]
      · rw [State.endSegment_stream_other _ _ _ _ hj]
    rw [exec_segmentStart_alone hsync hsource hi, offerSegmentStart_inSegment hphase,
      exec_segmentStart_alone (by simpa using hsync) hsource hsource',
      offerSegmentStart_between (endSegment_rests s i true none).1]
  · have hexec := exec_segmentStart_alone (segment := segment) (t0 := t0) (period := period) hsync hsource hi
    rw [offerSegmentStart_inSegment hphase] at hexec
    refine ⟨_, hexec, (endSegment_flags hb hloss true hm).trans ?_, endSegment_sameOutside hb hloss true hfit⟩
    simp [Flag.when]

end Sys2Proof
end

section
/-! PROOFS. Walks over a layout of one FIELD to a word: each word's step, and the dry walks of a tail and of a word gap. -/

-- One theorem at a time: the stacks of a thread each would exceed the memory of the check.
set_option Elab.async false

namespace Sys2Proof.Machine

open Sys2Proof.Safety

variable {s : State} {i : StreamId} {limit fuel : Nat} {way : WalkOver} {tail : Option GapRecord}

/-! ## The steps of a walk (R39, R42) -/

theorem walk_step (hphase : (s.stream i).phase = .running .inSegment) (hpos : (s.stream i).walker.position < limit) :
    State.walk i limit way (fuel + 1) s tail =
      State.walk i limit way fuel (s.execEntry i way tail).1 (s.execEntry i way tail).2 := by
  simp only [State.walk, State.inSegment, hphase, beq_self_eq_true, hpos, decide_true, Bool.and_self, if_true]

/-- R39: a walker that stands at the limit, or past it, rests. -/
theorem walk_rests (hpos : limit ≤ (s.stream i).walker.position) : State.walk i limit way fuel s tail = (s, tail) := by
  cases fuel with
  | zero => rfl
  | succ fuel => simp only [State.walk, Nat.not_lt.2 hpos, decide_false, Bool.and_false, Bool.false_eq_true, if_false]

theorem Stream.advanceIndex_eq {x : Machine.Stream} (h : x.resync = none) : x.advanceIndex = { x with
    inputIndex := x.inputIndex + 1, counts := { x.counts with accepted := x.counts.accepted + 1 } } := by
  unfold Stream.advanceIndex
  rw [h]

/-- R35: a FIELD with ADVANCE outside any group, short of the index limit. -/
theorem execEntry_field {offset width : Nat} {v : State} {r : Option GapRecord}
    (hop : s.layoutOp (s.stream i).walker.entry = .field offset width true)
    (hinput : s.fieldInput i way tail offset width = (v, r)) (hresync : (v.stream i).resync = none)
    (hindex : (v.stream i).inputIndex + 1 < 2 ^ 56) :
    s.execEntry i way tail = (v.setStream i { v.stream i with
      inputIndex := (v.stream i).inputIndex + 1
      counts := { (v.stream i).counts with accepted := (v.stream i).counts.accepted + 1 }
      walker := { (v.stream i).walker with position := (v.stream i).walker.position + 1 }.stepPast }, r) := by
  have hadvance : v.advanceInput i = v.setStream i { v.stream i with
      inputIndex := (v.stream i).inputIndex + 1
      counts := { (v.stream i).counts with accepted := (v.stream i).counts.accepted + 1 } } := by
    unfold State.advanceInput
    rw [Stream.advanceIndex_eq hresync]
  have hlow : ¬ Config.indexLimit ≤ (v.stream i).inputIndex + 1 := Nat.not_le.2 hindex
  simp only [State.execEntry, hop, State.execField, hinput, hadvance, State.setStream_stream_self, if_neg hlow,
    State.setStream_setStream, Bool.toNat_true]

theorem stepPast_bare {entry position expected : Nat} :
    (⟨entry, [], position, expected⟩ : Walker).stepPast = ⟨entry + 1, [], position, expected⟩ := rfl

/-! ## A family of states, one for each word (R42) -/

/-- The walk over `n` words of a layout of one FIELD, given what the stream's context and the record are after each word. -/
theorem walk_words {v : State} {base p e n : Nat} (X : Nat → Machine.Stream) (T : Nat → Option GapRecord)
    (hbase : ∀ k, (X k).cfg.layoutBase = base) (hphase : ∀ k, (X k).phase = .running .inSegment)
    (hwalker : ∀ k, (X k).walker = ⟨base + 1, [], p + k, e⟩) (hend : v.layoutOp (base + 1) = .endCycle)
    (hstep : ∀ k, 1 ≤ k → k < n → (v.setStream i { X k with walker := ⟨base, [], p + k, e⟩ }).execEntry i way (T k) =
      (v.setStream i (X (k + 1)), T (k + 1))) (m k fuel : Nat) (hk : 1 ≤ k) (hm : k + m = n) (hfuel : 2 * m ≤ fuel) :
    State.walk i (p + n) way fuel (v.setStream i (X k)) (T k) = (v.setStream i (X n), T n) := by
  induction m generalizing k fuel with
  | zero =>
    obtain rfl : k = n := hm
    exact walk_rests (by rw [State.setStream_stream_self, hwalker])
  | succ m ih =>
    obtain ⟨fuel, rfl⟩ : ∃ f, fuel = f + 1 + 1 := ⟨fuel - 2, by omega⟩
    have hcycle : (v.setStream i (X k)).execEntry i way (T k) =
        (v.setStream i { X k with walker := ⟨base, [], p + k, e⟩ }, T k) := by
      rw [State.execEntry_endCycle _ _ (by simpa [hwalker] using hend), State.setStream_stream_self,
        State.setStream_setStream, hwalker, hbase]
    rw [walk_step (by rw [State.setStream_stream_self, hphase]) (by rw [State.setStream_stream_self, hwalker]; dsimp only; omega),
      hcycle, walk_step (by rw [State.setStream_stream_self]; exact hphase k)
        (by rw [State.setStream_stream_self]; dsimp only; omega), hstep k hk (by omega)]
    exact ih (k + 1) fuel (by omega) (by omega) (by omega)

theorem ofNat_succ (k : Nat) : BitVec.ofNat 64 (k + 1) = BitVec.ofNat 64 k + 1 := by
  rw [BitVec.ofNat_add]
  rfl

/-! ## The dry walk of a tail (R47) -/

theorem loseToTail_eq (s : State) (i : StreamId) (tail : Option GapRecord) : s.loseToTail i tail =
    (s.setStream i { s.stream i with counts := { (s.stream i).counts with lost := (s.stream i).counts.lost + 1 } },
      some (State.extendRecord (s.stream i) tail)) := rfl

/-- R47: a stream that is not LOSSY loses an input of a tail to the TAIL record. -/
theorem fieldInput_tail (hloss : (s.stream i).loss = none) (offset width : Nat) :
    s.fieldInput i .tail tail offset width = s.loseToTail i tail := by
  simp only [State.fieldInput, State.passInput, State.lossyRetry, hloss, Stream.lossy, Option.isSome_none,
    Bool.false_eq_true, if_false, if_true]

/-- The stream `x` after `k` words of a tail, over a layout of one FIELD. -/
def tailed (x : Machine.Stream) (k : Nat) : Machine.Stream :=
  { x with
    walker := ⟨x.cfg.layoutBase + 1, [], x.walker.position + k, x.walker.expected⟩
    inputIndex := x.inputIndex + k
    counts := { x.counts with
      accepted := x.counts.accepted + BitVec.ofNat 64 k, lost := x.counts.lost + BitVec.ofNat 64 k } }

/-- R47: the TAIL record after `k` words. -/
def tailRecord (x : Machine.Stream) (k : Nat) : Option GapRecord :=
  match k with
  | 0 => none
  | k + 1 => some ⟨x.inputIndex, k + 1, inputTime x.anchor x.inputIndex⟩

theorem tailRecord_succ (x : Machine.Stream) (k : Nat) :
    State.extendRecord (tailed x k) (tailRecord x k) = ⟨x.inputIndex, k + 1, inputTime x.anchor x.inputIndex⟩ := by
  cases k <;> rfl

section
variable {x : Machine.Stream} {offset width : Nat}

/-- R42, R47: one word of a tail. -/
theorem execEntry_tail {k : Nat} (hloss : x.loss = none) (hresync : x.resync = none)
    (hindex : x.inputIndex + (k + 1) < 2 ^ 56) (hop : s.layoutOp x.cfg.layoutBase = .field offset width true) :
    (s.setStream i { tailed x k with
      walker := ⟨x.cfg.layoutBase, [], x.walker.position + k, x.walker.expected⟩ }).execEntry i .tail (tailRecord x k) =
      (s.setStream i (tailed x (k + 1)), tailRecord x (k + 1)) := by
  have hinput := fieldInput_tail (s := s.setStream i { tailed x k with
    walker := ⟨x.cfg.layoutBase, [], x.walker.position + k, x.walker.expected⟩ }) (i := i) (tail := tailRecord x k)
    (by rw [State.setStream_stream_self]; exact hloss) offset width
  rw [loseToTail_eq, State.setStream_stream_self, State.setStream_setStream] at hinput
  rw [execEntry_field (by rw [State.setStream_stream_self]; exact hop) hinput
    (by rw [State.setStream_stream_self]; exact hresync)
    (by rw [State.setStream_stream_self]; exact hindex), State.setStream_stream_self, State.setStream_setStream,
    stepPast_bare]
  have hrecord := tailRecord_succ x k
  simp only [tailed, ofNat_succ, ← BitVec.add_assoc, Nat.add_assoc] at hrecord ⊢
  refine Prod.ext rfl (congrArg some ?_)
  exact hrecord

/-- R47: the dry walk of a tail over a layout of one FIELD to a word. -/
theorem dryWalk_tail {n : Nat} (hx : x = s.stream i) (hphase : x.phase = .running .inSegment) (hloss : x.loss = none)
    (hresync : x.resync = none) (hlimit : limit = x.walker.position + n) (h1 : 1 ≤ n) (hn : n ≤ 1048576)
    (hindex : x.inputIndex + n < 2 ^ 56) (hstack : x.walker.stack = []) (hentry : x.walker.entry = x.cfg.layoutBase)
    (hop : s.layoutOp x.cfg.layoutBase = .field offset width true) (hend : s.layoutOp (x.cfg.layoutBase + 1) = .endCycle) :
    s.dryWalk i limit true = (s.setStream i (tailed x n), tailRecord x n) := by
  have hstart : s.setStream i { tailed x 0 with
      walker := ⟨x.cfg.layoutBase, [], x.walker.position + 0, x.walker.expected⟩ } = s := by
    have hwalker : x.walker = ⟨x.cfg.layoutBase, [], x.walker.position + 0, x.walker.expected⟩ := by
      rw [← hstack, ← hentry]
      rfl
    rw [← hwalker]
    unfold tailed
    simp only [BitVec.add_zero, Nat.add_zero]
    rw [hx]
    exact State.setStream_same _ _
  have hfirst := execEntry_tail (s := s) (i := i) (k := 0) hloss hresync (by omega) hop
  rw [hstart] at hfirst
  have hwalk : ∀ fuel, 2 * (n - 1) ≤ fuel →
      State.walk i limit .tail (fuel + 1) s none = (s.setStream i (tailed x n), tailRecord x n) := by
    intro fuel hfuel
    rw [walk_step (by rw [← hx, hphase]) (by rw [← hx]; omega), show (none : Option GapRecord) = tailRecord x 0 from rfl,
      hfirst, hlimit]
    exact walk_words (tailed x) (tailRecord x) (fun _ => rfl) (fun _ => hphase) (fun _ => rfl) hend
      (fun k _ hk => execEntry_tail hloss hresync (by omega) hop) (n - 1) 1 fuel le_rfl (by omega) hfuel
  have hfuel : Config.walkFuel = (2 ^ 70 - 1) + 1 := by decide
  unfold State.dryWalk
  rw [if_pos rfl, hfuel, hwalk _ (by omega)]
  simp

end

/-! ## The dry walk of a word gap (R43) -/

/-- R43: a stream that is not LOSSY loses an input of a word gap to the WORD_GAP record. -/
theorem fieldInput_gap (hloss : (s.stream i).loss = none) (offset width : Nat) :
    s.fieldInput i .gap tail offset width = (s.loseToGap i, tail) := by
  simp only [State.fieldInput, State.passInput, State.lossyRetry, hloss, Stream.lossy, Option.isSome_none,
    Bool.false_eq_true, if_false]

/-- The WORD_GAP record of a stream after `k` more lost inputs. -/
def gapRecord (x : Machine.Stream) (k : Nat) : GapRecord :=
  match x.awaiting with
  | some a => { a with count := a.count + k }
  | none => ⟨x.inputIndex, k, inputTime x.anchor x.inputIndex⟩

/-- The stream `x`, whose window and block have ended, after `k` words of a gap, over a layout of one FIELD. -/
def gapped (x : Machine.Stream) (k : Nat) : Machine.Stream :=
  { tailed x k with awaiting := some (gapRecord x k) }

/-- R43: what a lost input ends: the open window and the open block. -/
def gapEnds (s : State) (i : StreamId) : State := (s.emitPartial i).closeOpen i 0 none

theorem gapEnds_of_none (hw : (s.stream i).window = none) (hb : (s.stream i).openBlock = none) : gapEnds s i = s := by
  unfold gapEnds
  rw [emitPartial_of_none hw, State.closeOpen_of_none hb]

theorem loseToGap_eq (s : State) (i : StreamId) : s.loseToGap i = (gapEnds s i).setStream i { (gapEnds s i).stream i with
    awaiting := some (State.extendRecord ((gapEnds s i).stream i) ((gapEnds s i).stream i).awaiting)
    counts := { ((gapEnds s i).stream i).counts with lost := ((gapEnds s i).stream i).counts.lost + 1 } } := rfl

/-- R43: what ending the window and the block leaves of the stream. -/
theorem gapEnds_stream (s : State) (i : StreamId) : ∃ points closed timer, (gapEnds s i).stream i = { s.stream i with
    window := none, openBlock := none, interimTimer := timer
    counts := { (s.stream i).counts with points := points, closed := closed }
    sendQueue := (s.stream i).sendQueue ++ ((s.stream i).openBlock.map OpenBlock.slot).toList } := by
  obtain ⟨b, points, hstream, hslot⟩ := State.emitPartial_stream_self s i
  unfold gapEnds
  cases b with
  | none =>
    have hopen : ((s.emitPartial i).stream i).openBlock = none := by rw [hstream]
    rw [State.closeOpen_of_none hopen, hstream, ← hslot]
    exact ⟨points, (s.stream i).counts.closed, (s.stream i).interimTimer, by simp⟩
  | some b =>
    have hopen : ((s.emitPartial i).stream i).openBlock = some b := by rw [hstream]
    rw [State.closeOpen_stream_self hopen, hstream, ← hslot]
    exact ⟨points, (s.stream i).counts.closed + 1, .stopped, by simp⟩

section
variable {x : Machine.Stream} {offset width : Nat}

/-- R42, R43: one more word of a gap, after the first. -/
theorem execEntry_gap {k : Nat} (hwindow : x.window = none) (hopen : x.openBlock = none)
    (hloss : x.loss = none) (hresync : x.resync = none) (hindex : x.inputIndex + (k + 1) < 2 ^ 56)
    (hop : s.layoutOp x.cfg.layoutBase = .field offset width true) :
    (s.setStream i { gapped x k with
      walker := ⟨x.cfg.layoutBase, [], x.walker.position + k, x.walker.expected⟩ }).execEntry i .gap none =
      (s.setStream i (gapped x (k + 1)), none) := by
  have hinput := fieldInput_gap (s := s.setStream i { gapped x k with
    walker := ⟨x.cfg.layoutBase, [], x.walker.position + k, x.walker.expected⟩ }) (i := i) (tail := none)
    (by rw [State.setStream_stream_self]; exact hloss) offset width
  rw [loseToGap_eq, gapEnds_of_none (by rw [State.setStream_stream_self]; exact hwindow)
    (by rw [State.setStream_stream_self]; exact hopen), State.setStream_stream_self, State.setStream_setStream] at hinput
  rw [execEntry_field (by rw [State.setStream_stream_self]; exact hop) hinput
    (by rw [State.setStream_stream_self]; exact hresync)
    (by rw [State.setStream_stream_self]; exact hindex), State.setStream_stream_self, State.setStream_setStream,
    stepPast_bare]
  have hrecord : ∀ y, State.extendRecord y (some (gapRecord x k)) = gapRecord x (k + 1) := by
    intro y
    unfold State.extendRecord gapRecord
    cases x.awaiting <;> rfl
  simp only [gapped, tailed, ofNat_succ, ← BitVec.add_assoc, Nat.add_assoc, hrecord]

/-- R43: the dry walk of a gap over a layout of one FIELD to a word, from the stream that its first input leaves. -/
theorem dryWalk_gap {n : Nat} (hphase : (s.stream i).phase = .running .inSegment) (hloss : (s.stream i).loss = none)
    (hresync : (s.stream i).resync = none) (hlimit : limit = (s.stream i).walker.position + n) (h1 : 1 ≤ n)
    (hn : n ≤ 1048576) (hindex : (s.stream i).inputIndex + n < 2 ^ 56) (hstack : (s.stream i).walker.stack = [])
    (hentry : (s.stream i).walker.entry = (s.stream i).cfg.layoutBase)
    (hop : s.layoutOp (s.stream i).cfg.layoutBase = .field offset width true)
    (hend : s.layoutOp ((s.stream i).cfg.layoutBase + 1) = .endCycle) :
    (s.dryWalk i limit false).1 = ((gapEnds s i).setStream i (gapped ((gapEnds s i).stream i) n)).setExpected i limit := by
  obtain ⟨points, closed, timer, hstream⟩ := gapEnds_stream s i
  have hlayout : ∀ k, (gapEnds s i).layoutOp k = s.layoutOp k := fun k => by
    unfold State.layoutOp gapEnds
    simp
  generalize hy : (gapEnds s i).stream i = y at hstream
  have hcfg : y.cfg = (s.stream i).cfg := by rw [hstream]
  have hwalker : y.walker = (s.stream i).walker := by rw [hstream]
  have hyindex : y.inputIndex = (s.stream i).inputIndex := by rw [hstream]
  have hyphase : y.phase = .running .inSegment := by rw [hstream]; exact hphase
  have hyloss : y.loss = none := by rw [hstream]; exact hloss
  have hyresync : y.resync = none := by rw [hstream]; exact hresync
  have hfirst : s.execEntry i .gap none = ((gapEnds s i).setStream i (gapped y 1), none) := by
    have hinput := fieldInput_gap (tail := none) hloss offset width
    rw [loseToGap_eq, hy] at hinput
    rw [execEntry_field (by rw [hentry]; exact hop) hinput (by rw [State.setStream_stream_self]; exact hyresync)
      (by rw [State.setStream_stream_self]; dsimp only; omega), State.setStream_stream_self, State.setStream_setStream]
    have hrecord : State.extendRecord y y.awaiting = gapRecord y 1 := by
      unfold State.extendRecord gapRecord
      cases y.awaiting <;> rfl
    have hpast : ({ y.walker with position := y.walker.position + 1 } : Walker).stepPast =
        ⟨y.cfg.layoutBase + 1, [], y.walker.position + 1, y.walker.expected⟩ := by
      rw [hcfg, ← hentry, hwalker]
      unfold Walker.stepPast
      simp [hstack]
    dsimp only
    rw [hrecord, hpast]
    rfl
  have hwalk : ∀ fuel, 2 * (n - 1) ≤ fuel →
      State.walk i limit .gap (fuel + 1) s none = ((gapEnds s i).setStream i (gapped y n), none) := by
    intro fuel hfuel
    rw [walk_step hphase (by omega), hfirst, hlimit, ← hwalker]
    refine walk_words (gapped y) (fun _ => none) (fun _ => rfl) (fun _ => hyphase) (fun _ => rfl)
      (by rw [hlayout, hcfg]; exact hend) (fun k _ hk => ?_) (n - 1) 1 fuel le_rfl (by omega) hfuel
    exact execEntry_gap (by rw [hstream]) (by rw [hstream]) hyloss hyresync (by omega) (by rw [hlayout, hcfg]; exact hop)
  have hfuel : Config.walkFuel = (2 ^ 70 - 1) + 1 := by decide
  have hlasts : ((gapEnds s i).setStream i (gapped y n)).inSegment i = true := by
    unfold State.inSegment
    rw [State.setStream_stream_self]
    exact beq_iff_eq.2 hyphase
  unfold State.dryWalk
  rw [if_neg (by decide), hfuel, hwalk _ (by omega)]
  dsimp only
  rw [hlasts]
  rfl

end

end Sys2Proof.Machine
end

section
/-! PROOFS. SEGMENT_END: how each stream on the source ends its segment, and what the block assembler makes of the tail. -/

-- One theorem at a time: the stacks of a thread each would exceed the memory of the check.
set_option Elab.async false

namespace Sys2Proof.Machine

open Sys2Proof.Safety

variable {s : State} {i : StreamId} {slot : Nat}

/-! ## What a block that opens or closes leaves in its slot (R68, R71, R83) -/

theorem Memory.drop_readAll (m : Memory) (a n k : Nat) : (Memory.readAll m a (k + n)).drop k = Memory.readAll m (a + k) n := by
  apply List.ext_getElem (by simp)
  intro j h1 h2
  simp only [Memory.length_readAll] at h2
  rw [List.getElem_drop, Memory.getElem_readAll _ _ _ (by omega), Memory.getElem_readAll _ _ _ h2, Nat.add_assoc]

/-- R91: what is written behind the front of a slot stands there. -/
theorem writeLines_readAll (hm : MemoryCanonical s) (slot : Nat) (front mid back : List Byte) :
    (s.writeLines slot 0 (front ++ mid ++ back)).spill.dram.readAll (slot * 65536 + front.length) mid.length = mid := by
  have hstored := writeLines_storedBytes hm slot (bs := front ++ mid ++ back) (n := front.length + mid.length) (by simp)
  rw [← Memory.drop_readAll]
  calc (Memory.readAll (s.writeLines slot 0 (front ++ mid ++ back)).spill.dram (slot * 65536)
        (front.length + mid.length)).drop front.length
      = ((front ++ mid ++ back).take (front.length + mid.length)).drop front.length := congrArg (List.drop front.length) hstored
    _ = mid := by rw [← List.length_append, List.take_left, List.drop_left]

section
variable {b : OpenBlock} (h : (s.stream i).openBlock = some b) (flags : BitVec 16) (tail : Option GapSection)
include h

/-- R68, R71: the gap section of a block that has closed stands behind its header. -/
theorem closeOpen_gap (hm : MemoryCanonical s) {g : GapSection} (hg : (if tail.isSome then tail else b.gap) = some g) :
    (s.closeOpen i flags tail).spill.dram.readAll (b.slot * 65536 + 64) 32 = g.bytes := by
  have himage : closedImage b flags tail =
      (State.closedBlock b flags tail).header.bytes ++ g.bytes ++ b.payload := by
    unfold closedImage blockImage
    rw [show (State.closedBlock b flags tail).gap = some g from hg]
    rfl
  have hread := writeLines_readAll hm b.slot (State.closedBlock b flags tail).header.bytes g.bytes b.payload
  rw [BlockHeader.length_bytes, GapSection.length_bytes, ← himage] at hread
  rw [closeOpen_dram h flags tail, hread]

/-- R83: the slot's record as its block closes. -/
theorem closeOpen_record {q : SlotRecord} (hq : s.slotRecord b.slot = some q) :
    (s.closeOpen i flags tail).slotRecord b.slot = some { q with
      place := .queued
      length := some (headerLength (if tail.isSome then tail else b.gap) + b.points * b.header.mode.pointSize)
      headLength := some (headerLength (if tail.isSome then tail else b.gap)) } := by
  simp only [State.closeOpen, h, State.beginVerifies_slotRecord, State.setStream_slotRecord, State.changeRecord_slotRecord,
    if_true, State.writeLines_slotRecord, hq, Option.map_some]
  rfl

end

/-- R83: the slot's record as a block opens in it. -/
theorem openIn_record {q : SlotRecord} (gap : Option GapSection) (n : Nat) (timed : Bool) (hq : s.slotRecord slot = some q) :
    (s.openIn i slot gap n timed).slotRecord slot = some { q with sequence := some (s.stream i).nextSeq } := by
  unfold State.openIn
  dsimp only
  split <;>
    simp only [State.raise_slotRecord, State.writeLines_slotRecord, State.changeRecord_slotRecord, if_true,
      State.setStream_slotRecord, hq, Option.map_some]

/-- R85: the request that the free list and the quota grant. -/
theorem allocate_granted {rest : List Nat} {ordinary : Bool} (hfree : s.spill.freeList = slot :: rest)
    (hquota : ordinary = true → (s.stream i).occupancy < (s.stream i).cfg.quota) :
    ∃ t, s.allocate i ordinary = some (slot, t) ∧ t.spill.freeList = rest := by
  cases ha : s.allocate i ordinary with
  | none =>
    rcases State.allocate_eq_none.1 ha with h | ⟨ho, hq⟩
    · rw [h] at hfree; cases hfree
    · exact absurd (hquota ho) (Nat.not_lt.2 hq)
  | some p =>
    obtain ⟨n, t⟩ := p
    have hlist := (State.allocate_some ha).1
    rw [hfree] at hlist
    obtain ⟨rfl, hrest⟩ := List.cons.inj hlist
    exact ⟨t, rfl, hrest.symm⟩

/-! ## Gap carriers (R80) -/

theorem segmentFlags_bits (truncated : Bool) : (State.segmentFlags truncated).getLsbD 8 = true ∧
    (State.segmentFlags truncated).getLsbD 9 = truncated := by
  cases truncated <;> decide

/-- R67: a block opens with none of the flags that its close may set. -/
theorem newBlock_flags_truncated (x : Machine.Stream) (i : StreamId) (slot n : Nat) (gap : Option GapSection) :
    (State.newBlock x i slot gap n).header.flags.getLsbD 9 = false := by
  simp only [State.newBlock, BitVec.getLsbD_or, getLsbD_flagWhen]
  simp [Flag.firstOfSegment, Flag.lateStart, Flag.timeSaturated, Flag.timeClamped, Flag.gapSection]

section
variable (g : GapSection) (truncated : Bool) {rest : List Nat}

/-- R80: a gap carrier in the slot at the head of the free list. -/
theorem carryGap_granted (hm : MemoryCanonical s) (hfree : s.spill.freeList = slot :: rest)
    (hquota : (s.stream i).occupancy < (s.stream i).cfg.quota) : let t := s.carryGap i g truncated
    ((t.stream i).openBlock = none ∧ (t.stream i).awaiting = none ∧ (t.stream i).occupancy = (s.stream i).occupancy + 1 ∧
      (t.stream i).sendQueue = (s.stream i).sendQueue ++ [slot] ∧
      (t.stream i).counts.closed = (s.stream i).counts.closed + 1 ∧ (t.stream i).nextSeq = (s.stream i).nextSeq + 1 ∧
      t.spill.freeList = rest) ∧
    (∃ q, t.spill.slots.find slot = some q ∧ q.place = .queued ∧ q.stream = i ∧ q.sequence = some (s.stream i).nextSeq ∧
      q.length = some 96) ∧
    t.spill.dram.readAll (slot * 65536 + 64) 32 = g.bytes ∧
    ((imageFlags (t.storedBytes slot 64)).getLsbD 4 = true ∧ (imageFlags (t.storedBytes slot 64)).getLsbD 8 = true ∧
      (imageFlags (t.storedBytes slot 64)).getLsbD 9 = truncated) ∧
    SameOutside slot s.spill.dram t.spill.dram := by
  intro t
  obtain ⟨u, hu, hrest⟩ := allocate_granted (i := i) (ordinary := true) hfree fun _ => hquota
  obtain ⟨-, -, hstream, -, hdram, -⟩ := State.allocate_some hu
  have hrecord := State.allocate_record hu
  let v := u.setStream i { u.stream i with awaiting := none }
  let n := (v.stream i).endIndex
  have hv : v.stream i = { s.stream i with occupancy := (s.stream i).occupancy + 1, awaiting := none } := by
    rw [State.setStream_stream_self, hstream]
  have ht : t = (v.openIn i slot (some g) n false).closeOpen i (State.segmentFlags truncated) none := by
    show s.carryGap i g truncated = _
    simp only [State.carryGap, hu]
    rfl
  have hopen : ((v.openIn i slot (some g) n false).stream i).openBlock =
      some (State.newBlock (v.stream i) i slot (some g) n) := by
    rw [State.openIn_stream_self]
    rfl
  have hmv : MemoryCanonical v := by
    unfold MemoryCanonical
    rwa [State.setStream_spill, hdram]
  have hmo := openIn_canonical (i := i) hmv slot n (some g) false
  have hself := State.closeOpen_stream_self hopen (State.segmentFlags truncated) none
  rw [← ht, State.openIn_stream_self, hv] at hself
  refine ⟨⟨by rw [hself], by rw [hself]; rfl, by rw [hself]; rfl, by rw [hself]; rfl, by rw [hself]; rfl,
    by rw [hself]; rfl, ?_⟩, ⟨_, (congrArg (State.slotRecord · slot) ht).trans
      (closeOpen_record hopen (State.segmentFlags truncated) none (openIn_record (some g) n false hrecord)), rfl, rfl, ?_, ?_⟩,
    ?_, ?_, ?_⟩
  · rw [ht, State.closeOpen_freeList, State.openIn_freeList]
    exact hrest
  · show some (v.stream i).nextSeq = _
    rw [hv]
  · show some (96 + 0 * _) = _
    rw [Nat.zero_mul]
  · rw [ht]
    exact closeOpen_gap hopen (State.segmentFlags truncated) none hmo rfl
  · have hflags := closeOpen_flags hopen (State.segmentFlags truncated) none hmo
    rw [← ht] at hflags
    obtain ⟨-, -, -, -, hgap⟩ := newBlock_flags (v.stream i) i slot n (some g)
    obtain ⟨hend, htrunc⟩ := segmentFlags_bits truncated
    have hbits : ∀ k, (imageFlags (t.storedBytes slot 64)).getLsbD k =
        ((State.newBlock (v.stream i) i slot (some g) n).header.flags.getLsbD k || (State.segmentFlags truncated).getLsbD k) := by
      intro k
      rw [show imageFlags (t.storedBytes slot 64) = _ from hflags]
      simp [Flag.when]
    rw [hbits, hbits, hbits, hgap, hend, htrunc, newBlock_flags_truncated]
    simp
  · rw [ht]
    have hopened := openIn_sameOutside v i slot n (some g) false
    rw [State.setStream_spill, hdram] at hopened
    exact sameOutside_trans hopened (closeOpen_sameOutside hopen (State.segmentFlags truncated) none
      (show 96 + 0 ≤ 65536 by decide))

/-- R113: the stream enters LOSSY, and LOSS_BEGIN is raised. -/
theorem enterLossy_eq (s : State) (i : StreamId) (r : LossRecord) : s.enterLossy i r = { s with
    streams := s.streams.set i { s.stream i with loss := some r, awaiting := none, window := none }
    report := raisedIn s.report (s.enabled (.stream i .lossBegin)) (.stream i .lossBegin) } := by
  have hcfg : ((s.setStream i { s.stream i with loss := some r, awaiting := none, window := none }).stream i).cfg =
      (s.stream i).cfg := by rw [State.setStream_stream_self]
  unfold State.enterLossy
  rw [State.raise_eq, enabled_stream_congr hcfg]
  rfl

/-- R80, R113: without a slot for the gap carrier the stream enters LOSSY. -/
theorem carryGap_refused (h : s.spill.freeList = [] ∨ (s.stream i).cfg.quota ≤ (s.stream i).occupancy) :
    s.carryGap i g truncated = { s with
      streams := s.streams.set i { s.stream i with loss := some ⟨g.record, none, 0⟩, awaiting := none, window := none }
      report := raisedIn s.report (s.enabled (.stream i .lossBegin)) (.stream i .lossBegin) } := by
  have ha : s.allocate i true = none := State.allocate_eq_none.2 (h.imp_right fun hq => ⟨rfl, hq⟩)
  simp only [State.carryGap, ha, enterLossy_eq]

end

/-! ## Segment ends at the block assembler (R73, R79, R80) -/

section
variable {x : Machine.Stream} {truncated : Bool}

theorem endSegmentBlock_lossy {tail : Option GapRecord} (h : (s.stream i).loss ≠ none) : s.endSegmentBlock i truncated tail = s := by
  have hlossy : (s.stream i).lossy = true := Option.isSome_iff_ne_none.2 h
  unfold State.endSegmentBlock
  dsimp only
  rw [if_pos hlossy]

theorem tailFits_iff {b : OpenBlock} :
    State.tailFits b = true ↔ b.gap = none ∧ b.points * b.header.mode.pointSize + 96 ≤ 65536 := by
  unfold State.tailFits Config.slotBytes
  simp

theorem endSegmentBlock_fits {b : OpenBlock} {r : GapRecord} (hloss : (s.stream i).loss = none)
    (hb : (s.stream i).openBlock = some b) (hfits : State.tailFits b = true) :
    s.endSegmentBlock i truncated (some r) = s.closeOpen i (State.segmentFlags truncated) (some ⟨.tail, r⟩) := by
  unfold State.endSegmentBlock
  simp only [Stream.lossy, hloss, hb, Option.isSome_none, Bool.false_eq_true, if_false, if_pos hfits]

theorem endSegmentBlock_full {b : OpenBlock} {r : GapRecord} (hloss : (s.stream i).loss = none)
    (hb : (s.stream i).openBlock = some b) (hfits : ¬ State.tailFits b = true) :
    s.endSegmentBlock i truncated (some r) =
      (s.closeOpen i (State.segmentFlags truncated) none).carryGap i ⟨.tail, r⟩ truncated := by
  unfold State.endSegmentBlock
  simp only [Stream.lossy, hloss, hb, Option.isSome_none, Bool.false_eq_true, if_false, if_neg hfits]

/-- R80: the gap section of a gap carrier, from what awaits and the tail. -/
theorem endSegmentBlock_carried {g : GapSection} {tail : Option GapRecord} (hloss : (s.stream i).loss = none)
    (hb : (s.stream i).openBlock = none)
    (hg : (∃ a r, (s.stream i).awaiting = some a ∧ tail = some r ∧ g = ⟨.wordGap, { a with count := a.count + r.count }⟩) ∨
      (∃ a, (s.stream i).awaiting = some a ∧ tail = none ∧ g = ⟨.wordGap, a⟩) ∨
      (∃ r, (s.stream i).awaiting = none ∧ tail = some r ∧ g = ⟨.tail, r⟩)) :
    s.endSegmentBlock i truncated tail = s.carryGap i g truncated := by
  unfold State.endSegmentBlock
  rcases hg with ⟨a, r, ha, rfl, rfl⟩ | ⟨a, ha, rfl, rfl⟩ | ⟨r, ha, rfl, rfl⟩ <;>
    simp only [Stream.lossy, hloss, hb, ha, Option.isSome_none, Bool.false_eq_true, if_false]

theorem endSegmentBlock_bare (hloss : (s.stream i).loss = none) (hb : (s.stream i).openBlock = none)
    (ha : (s.stream i).awaiting = none) : s.endSegmentBlock i truncated none = s := by
  unfold State.endSegmentBlock
  simp only [Stream.lossy, hloss, hb, ha, Option.isSome_none, Bool.false_eq_true, if_false]

end

/-! ## SEGMENT_END (R47, R149) -/

section
variable {final : Nat}

theorem takeSegmentEnd_reached (hphase : (s.stream i).phase = .running .inSegment)
    (h : final ≤ (s.stream i).walker.expected) : s.takeSegmentEnd i final = s.endSegment i false none := by
  have hin : s.inSegment i = true := beq_iff_eq.2 hphase
  unfold State.takeSegmentEnd Config.gapLimit
  dsimp only
  rw [if_pos (by omega), if_neg (Nat.not_lt.2 h), if_pos hin]

theorem takeSegmentEnd_tail (h : (s.stream i).walker.expected < final)
    (hlimit : final ≤ (s.stream i).walker.expected + 1048576) : s.takeSegmentEnd i final =
      if ((s.dryWalk i final true).1.stream i).phase = .running .inSegment then
        (s.dryWalk i final true).1.endSegment i false (s.dryWalk i final true).2
      else (s.dryWalk i final true).1 := by
  unfold State.takeSegmentEnd State.inSegment Config.gapLimit
  dsimp only
  rw [if_pos (by omega), if_pos h]
  simp only [beq_iff_eq]

theorem takeSegmentEnd_beyond (h : (s.stream i).walker.expected + 1048576 < final) :
    s.takeSegmentEnd i final = s.endSegment i true none := by
  unfold State.takeSegmentEnd Config.gapLimit
  dsimp only
  rw [if_neg (by omega)]

end

section
variable {source : Byte} {segment : BitVec 32} {final : BitVec 48}

theorem offerSegmentEnd_actsAlone (segment : BitVec 32) (final : Nat) : ActsAlone (State.offerSegmentEnd segment final) :=
  ofSegment_actsAlone fun _ i _ hj => State.takeSegmentEnd_stream_other _ i final hj

/-- R145: SEGMENT_END of its segment at a stream alone on its source. -/
theorem exec_segmentEnd_alone (hsync : s.receiver.inSync = true) (hsource : source.toNat < 32)
    (hi : ∀ j, OnSource s source j ↔ j = i) (hphase : (s.stream i).phase = .running .inSegment)
    (hseg : (s.stream i).segment = segment) :
    exec (.segmentEnd source segment final) s = .next (s.takeSegmentEnd i final.toNat) := by
  have hoffer : State.offerSegmentEnd segment final.toNat s i = (s.takeSegmentEnd i final.toNat, .taken) :=
    ofSegment_in hphase hseg
  refine congrArg Host.Outcome.next ?_
  rw [intake_alone (offerSegmentEnd_actsAlone _ _) hsync hsource hi (.inl (by rw [hoffer])), hoffer]

end

end Sys2Proof.Machine

namespace Sys2Proof

open Machine Safety

/-- Settles O31: each stream on the source by its place in the frame's segment; at a stream alone the three distances of the
final word index; the dry walk of a tail; and the block assembler's part by its open block and what awaits. -/
theorem segmentEndWithoutTailEndsTheSegment : Obligations.SegmentEndWithoutTailEndsTheSegment := by
  refine ⟨fun s source segment final hsync hsource hreached => ?_, fun s i source segment final x hsync hsource hi hx hphase
    hseg hm => ?_, fun s i limit n offset width x hx hphase hloss => ⟨fun h => ?_, fun hlimit h1 hn hindex hresync hstack hentry
      hop hend => ?_⟩, fun s t i truncated tail x hx hloss ht hm => ?_, fun s i truncated tail h => endSegmentBlock_lossy h⟩
  · obtain ⟨turn, hat, hon, hoff, -, hrest, hds⟩ := fanOut_spec (source := source) (fun u v => v.rest = u.rest)
      (offerSegmentEnd_actsAlone segment final.toNat) (fun _ => rfl) (fun u v w huv hvw => hvw.trans huv) s fun u i _ => by
        rcases segment_cases u segment i with ⟨hp, hs⟩ | ha
        · rw [State.offerSegmentEnd, ofSegment_in hp hs]
          exact State.takeSegmentEnd_rest _ _ _
        · rw [State.offerSegmentEnd, ofSegment_outside ha]
    have hturn : ∀ i, (turn i).stream i = s.stream i := fun i => (hat i).1
    have hoverlap : Disposal.overlap ∉ (s.fanOut source (State.offerSegmentEnd segment final.toNat)).2 := by
      rw [hds]
      rintro ⟨i, -, h⟩
      exact ofSegment_ne_overlap (show Disposal.taken ≠ .overlap by decide) h
    have horphan : Disposal.orphan ∈ (s.fanOut source (State.offerSegmentEnd segment final.toNat)).2 ↔
        ∃ i, OnSource s source i ∧ Astray s segment i := by
      rw [hds]
      refine exists_congr fun i => and_congr_right fun _ =>
        (ofSegment_orphan_iff (show Disposal.taken ≠ .orphan by decide)).trans ?_
      rw [Astray, hturn]
    obtain ⟨c, hintake, hup, hstay⟩ := intake_orphan hsync hsource hoverlap
    generalize (s.fanOut source (State.offerSegmentEnd segment final.toNat)).1 = u at hintake hup hstay hon hoff hrest
    have hcounters : u.counters = s.counters := congrArg (·.2.2.1) hrest
    refine ⟨_, congrArg Host.Outcome.next hintake, fun i hsrc hp hs => ?_, fun i h => ?_, fun h => ?_, fun h => ?_, ?_⟩
    · rw [State.setCounters_stream, hon i hsrc, State.offerSegmentEnd, ofSegment_in (by rw [hturn, hp]) (by rw [hturn, hs]),
        takeSegmentEnd_reached (by rw [hturn, hp]) (by rw [hturn]; exact hreached i hsrc hp hs)]
      obtain ⟨h1, h2, h3, h4, h5, h6, -⟩ := endSegment_rests (turn i) i false none
      rw [hturn] at h4 h5 h6
      refine ⟨h1, h2, h3, h4, h5, h6, fun b hb hl => ?_⟩
      obtain ⟨h7, h8, -⟩ := endSegment_open (s := turn i) (i := i) (by rw [hturn, hb]) (by rw [hturn, hl]) false
      rw [hturn] at h8
      exact ⟨h7, h8⟩
    · rw [State.setCounters_stream]
      by_cases hsrc : OnSource s source i
      · rw [hon i hsrc, State.offerSegmentEnd, ofSegment_outside, hturn]
        rw [Astray, hturn]
        exact (segment_cases s segment i).resolve_left fun hin => h ⟨hsrc, hin⟩
      · exact hoff i hsrc
    · rw [State.setCounters_counters, hup (horphan.2 h), bumped_eq, hcounters]
    · rw [State.setCounters_counters, hstay, hcounters]
      rw [horphan]
      rintro ⟨i, hsrc, ha | ⟨hp, hs⟩⟩
      · exact (h i hsrc).1 ha
      · exact hs ((h i hsrc).2 hp)
    · conv_lhs => rw [State.eq_of_rest hrest]
      rfl
  · subst hx
    have hexec := exec_segmentEnd_alone (final := final) hsync hsource hi hphase hseg
    refine ⟨fun b hfar hb hl hfit => ⟨_, hexec, ?_⟩, fun hfar => ⟨_, hexec, ?_⟩, fun hlt hlimit => ?_⟩
    · rcases hfar with hle | hfar
      · rw [takeSegmentEnd_reached hphase hle, decide_eq_false (Nat.not_lt.2 hle)]
        exact ⟨endSegment_flags hb hl false hm, endSegment_sameOutside hb hl false hfit⟩
      · rw [takeSegmentEnd_beyond hfar, decide_eq_true (by omega)]
        exact ⟨endSegment_flags hb hl true hm, endSegment_sameOutside hb hl true hfit⟩
    · rw [takeSegmentEnd_beyond hfar]
      obtain ⟨hp, -, -, -, -, haccepted, -⟩ := endSegment_rests s i true none
      exact ⟨hp, haccepted, endSegment_event s i none⟩
    · rw [hexec, takeSegmentEnd_tail hlt hlimit]
  · subst hx
    unfold State.dryWalk
    rw [if_pos rfl, walk_rests h]
    simp
  · obtain ⟨k, rfl⟩ : ∃ k, n = k + 1 := ⟨n - 1, by omega⟩
    rw [dryWalk_tail hx hphase hloss hresync hlimit h1 hn hindex hstack hentry hop hend, hlimit]
    rfl
  · subst hx ht
    refine ⟨fun b r hb htail hgap hroom => ?_, fun b r slot rest hb htail hroom hfree hquota => ?_,
      fun g hb hg => ⟨fun slot rest hfree hquota => ?_, fun hrefused => ?_⟩, fun hb ha htail => ?_⟩
    · subst htail
      rw [endSegmentBlock_fits hloss hb (tailFits_iff.2 ⟨hgap, hroom⟩)]
      refine ⟨State.closeOpen_stream_self hb _ _, ?_, closeOpen_gap hb _ _ hm rfl, fun q hq =>
        closeOpen_record hb _ _ hq⟩
      rw [closeOpen_flags hb _ _ hm, State.segmentFlags]
      simp only [BitVec.or_assoc]
      rfl
    · subst htail
      have hfull : ¬ State.tailFits b = true := by
        rw [tailFits_iff]
        rintro ⟨hg, hr⟩
        exact hroom.elim (fun h => h hg) fun h => by omega
      rw [endSegmentBlock_full hloss hb hfull]
      have hself := State.closeOpen_stream_self hb (State.segmentFlags truncated) none
      obtain ⟨⟨h1, -, -, h2, h3, h4, h5⟩, -, h6, -⟩ := carryGap_granted (i := i) ⟨.tail, r⟩ truncated
        (closeOpen_canonical (i := i) hm (State.segmentFlags truncated) none)
        (by rw [State.closeOpen_freeList]; exact hfree) (by rw [hself]; exact hquota)
      rw [hself] at h2 h3 h4
      refine ⟨h1, h2.trans ?_, h3.trans ?_, h4, h5, h6⟩
      · simp
      · rw [BitVec.add_assoc]
        rfl
    · rw [endSegmentBlock_carried hloss hb hg]
      obtain ⟨⟨h1, h2, h3, h4, h5, h6, h7⟩, h8, h9, ⟨h10, h11, h12⟩, h13⟩ := carryGap_granted g truncated hm hfree hquota
      exact ⟨h1, h2, h3, h4, h5, h6, h7, h8, h9, h10, h11, h12, h13⟩
    · rw [endSegmentBlock_carried hloss hb hg, carryGap_refused g truncated hrefused]
    · subst htail
      exact endSegmentBlock_bare hloss hb ha

end Sys2Proof
end

section
/-! PROOFS. SAMPLES: what a walk leaves of its stream's context, and the fan-out of received words. -/

-- One theorem at a time: the stacks of a thread each would exceed the memory of the check.
set_option Elab.async false

namespace Sys2Proof.Machine

open Sys2Proof.Safety

variable {s : State} {i : StreamId}

/-! ## What an input leaves of its stream (R49, R113 to R116) -/

/-- What an input, handed over or passed, leaves of its stream's context. -/
def Stream.onward (x : Machine.Stream) : StreamConfig × BitVec 32 × Walker :=
  (x.cfg, x.segment, x.walker)

theorem Stream.onward_of_ridden {x y : Machine.Stream} (h : x.ridden = y.ridden) : x.onward = y.onward :=
  congrArg (fun r : StreamConfig × BitVec 32 × Level × Walker × Nat × BitVec 64 =>
    (r.1, r.2.1, r.2.2.2.1)) h

theorem setStream_onward {x y : Machine.Stream} (hcfg : x.cfg = y.cfg := by exact rfl)
    (hsegment : x.segment = y.segment := by exact rfl) (hwalker : x.walker = y.walker := by exact rfl) :
    ((s.setStream i x).stream i).onward = y.onward := by
  rw [State.setStream_stream_self]
  unfold Stream.onward
  rw [hcfg, hsegment, hwalker]

theorem closeOpen_onward (f : BitVec 16) (t : Option GapSection) :
    ((s.closeOpen i f t).stream i).onward = (s.stream i).onward := Stream.onward_of_ridden (closeOpen_ridden s i f t)

theorem emitWindow_onward (isPartial : Bool) : ((s.emitWindow i isPartial).stream i).onward = (s.stream i).onward := by
  unfold State.emitWindow
  dsimp only
  split
  · split
    · rw [closeOpen_onward, State.writeFilledLine_stream]
      exact setStream_onward
    · rw [State.writeFilledLine_stream]
      exact setStream_onward
  · exact setStream_onward

theorem beginWindow_onward (v : Int) : ((s.beginWindow i v).stream i).onward = (s.stream i).onward := by
  unfold State.beginWindow
  dsimp only
  split
  · rw [emitWindow_onward]
    exact setStream_onward
  · exact setStream_onward

theorem takeNext_onward (w : Window) (v : Int) : ((s.takeNext i w v).stream i).onward = (s.stream i).onward := by
  unfold State.takeNext
  dsimp only
  split
  · rw [emitWindow_onward]
    exact setStream_onward
  · exact setStream_onward

theorem applyLevel_onward : ((s.applyLevel i).stream i).onward = (s.stream i).onward := by
  by_cases h : (s.stream i).level = s.publishedFor i
  · rw [applyLevel_same h]
  · rw [applyLevel_changed h, State.raise_stream]
    exact Eq.trans setStream_onward (closeOpen_onward _ _)

theorem openCarrying_onward (slot n : Nat) (timed : Bool) :
    ((s.openCarrying i slot n timed).stream i).onward = (s.stream i).onward := by
  rw [State.openCarrying_stream_self]
  rfl

theorem allocate_onward {t : State} {ordinary : Bool} {slot : Nat} (h : s.allocate i ordinary = some (slot, t)) :
    (t.stream i).onward = (s.stream i).onward := by
  obtain ⟨-, -, hself, -⟩ := State.allocate_some h
  rw [hself]
  rfl

theorem enterLossy_onward (r : LossRecord) : ((s.enterLossy i r).stream i).onward = (s.stream i).onward := by
  unfold State.enterLossy
  rw [State.raise_stream]
  exact setStream_onward

theorem takeFirst_onward (v : Int) : ((s.takeFirst i v).stream i).onward = (s.stream i).onward := by
  unfold State.takeFirst
  dsimp only
  split
  · rw [beginWindow_onward, applyLevel_onward]
  · split
    · next ha => rw [beginWindow_onward, openCarrying_onward, allocate_onward ha, applyLevel_onward]
    · rw [enterLossy_onward]
      exact Eq.trans setStream_onward applyLevel_onward

theorem countLossy_onward : ((s.countLossy i).stream i).onward = (s.stream i).onward := by
  unfold State.countLossy
  dsimp only
  split
  · rfl
  · exact setStream_onward

theorem lossyRetry_onward : ((s.lossyRetry i).stream i).onward = (s.stream i).onward := by
  unfold State.lossyRetry
  split
  · rfl
  · split
    · rfl
    · dsimp only
      split
      · next ha =>
        rw [openCarrying_onward, allocate_onward ha]
        exact Eq.trans setStream_onward applyLevel_onward
      · exact Eq.trans setStream_onward applyLevel_onward

theorem handInput_onward (v : Int) : ((s.handInput i v).stream i).onward = (s.stream i).onward := by
  unfold State.handInput
  dsimp only
  split
  · split
    · rw [countLossy_onward, lossyRetry_onward]
    · rw [beginWindow_onward, lossyRetry_onward]
  · split
    · exact takeNext_onward _ _
    · exact takeFirst_onward _

theorem gapEnds_onward : ((gapEnds s i).stream i).onward = (s.stream i).onward := by
  obtain ⟨points, closed, timer, hstream⟩ := gapEnds_stream s i
  rw [hstream]
  rfl

theorem passInput_onward (isTail : Bool) (tail : Option GapRecord) :
    ((s.passInput i isTail tail).1.stream i).onward = (s.stream i).onward := by
  unfold State.passInput
  dsimp only
  split
  · rw [countLossy_onward, lossyRetry_onward]
  · split
    · rw [loseToTail_eq]
      exact Eq.trans setStream_onward lossyRetry_onward
    · rw [loseToGap_eq]
      exact Eq.trans setStream_onward (gapEnds_onward.trans lossyRetry_onward)

theorem fieldInput_onward (way : WalkOver) (tail : Option GapRecord) (offset width : Nat) :
    ((s.fieldInput i way tail offset width).1.stream i).onward = (s.stream i).onward := by
  unfold State.fieldInput
  split
  · exact handInput_onward _
  · exact passInput_onward _ _
  · exact passInput_onward _ _

theorem advanceInput_onward : ((s.advanceInput i).stream i).onward = (s.stream i).onward := by
  obtain ⟨anchor, resync, h⟩ := Stream.advancedIndex_eq (s.stream i)
  unfold State.advanceInput
  rw [h]
  exact setStream_onward

/-! ## What a walk leaves of its stream (R39, R42) -/

/-- What a walk leaves of its stream's context. -/
def Stream.kept (x : Machine.Stream) : StreamConfig × BitVec 32 × Nat := (x.cfg, x.segment, x.walker.expected)

theorem Stream.kept_of_onward {x y : Machine.Stream} (h : x.onward = y.onward) : x.kept = y.kept :=
  congrArg (fun r : StreamConfig × BitVec 32 × Walker => (r.1, r.2.1, r.2.2.expected)) h

theorem stepPast_expected (w : Walker) : w.stepPast.expected = w.expected := by
  unfold Walker.stepPast
  repeat' split
  all_goals rfl

theorem enterGroup_expected (w : Walker) (count : Nat) (forever : Bool) (last : Nat) :
    (w.enterGroup count forever last).expected = w.expected := by
  unfold Walker.enterGroup
  split <;> rfl

theorem setWalker_kept {w : Walker} (h : w.expected = (s.stream i).walker.expected) :
    ((s.setStream i { s.stream i with walker := w }).stream i).kept = (s.stream i).kept := by
  rw [State.setStream_stream_self]
  unfold Stream.kept
  rw [h]

theorem endSegment_kept (truncated : Bool) (tail : Option GapRecord) :
    ((s.endSegment i truncated tail).stream i).kept = (s.stream i).kept := by
  have hridden := segmentBlock_ridden s i truncated tail
  simp only [Stream.ridden, Prod.mk.injEq] at hridden
  obtain ⟨hcfg, hsegment, -⟩ := hridden
  rw [endSegment_stream]
  unfold Stream.kept State.abandonWouldBe
  rw [hcfg, hsegment]

theorem execEntry_kept (way : WalkOver) (tail : Option GapRecord) :
    ((s.execEntry i way tail).1.stream i).kept = (s.stream i).kept := by
  unfold State.execEntry
  dsimp only
  split
  · next offset width advance _ =>
    have hinput : (((s.fieldInput i way tail offset width).1.advanceInput i).stream i).kept = (s.stream i).kept :=
      Stream.kept_of_onward (advanceInput_onward.trans (fieldInput_onward way tail offset width))
    unfold State.execField
    dsimp only
    split
    · exact (endSegment_kept _ _).trans hinput
    · refine (setWalker_kept ?_).trans hinput
      exact stepPast_expected _
  · exact setWalker_kept (stepPast_expected _)
  · exact setWalker_kept (enterGroup_expected _ _ _ _)
  · exact setWalker_kept rfl

theorem walk_kept {limit : Nat} {way : WalkOver} (fuel : Nat) (s : State) (tail : Option GapRecord) :
    ((State.walk i limit way fuel s tail).1.stream i).kept = (s.stream i).kept := by
  induction fuel generalizing s tail with
  | zero => rfl
  | succ fuel ih =>
    unfold State.walk
    split
    · exact (ih _ _).trans (execEntry_kept way tail)
    · rfl

/-- R39: the expected word index after words that are taken. -/
theorem takeWords_expected (first : Nat) (words : List SampleWord) :
    ((s.takeWords i first words).stream i).walker.expected = first + words.length := by
  unfold State.takeWords
  have h := walk_kept (i := i) (limit := first + words.length) (way := .words first words) Config.walkFuel
    (s.setExpected i (first + words.length)) none
  refine (congrArg (fun r : StreamConfig × BitVec 32 × Nat => r.2.2) h).trans ?_
  unfold State.setExpected
  rw [State.setStream_stream_self]
  rfl

/-- R42: the stream after a word gap's dry walk that its segment outlasts. -/
theorem dryWalk_lasts {limit : Nat} (h : ((s.dryWalk i limit false).1.stream i).phase = .running .inSegment) :
    ((s.dryWalk i limit false).1.stream i).walker.expected = limit ∧
    ((s.dryWalk i limit false).1.stream i).cfg = (s.stream i).cfg ∧
    ((s.dryWalk i limit false).1.stream i).segment = (s.stream i).segment := by
  have hkept := walk_kept (i := i) (limit := limit) (way := .gap) Config.walkFuel s none
  simp only [Stream.kept, Prod.mk.injEq] at hkept
  obtain ⟨hcfg, hsegment, -⟩ := hkept
  have hphase : ((State.walk i limit .gap Config.walkFuel s none).1.stream i).phase = .running .inSegment := by
    revert h
    unfold State.dryWalk State.setExpected
    rw [if_neg Bool.false_ne_true]
    dsimp only
    split <;> simp
  have hlasts : (State.walk i limit .gap Config.walkFuel s none).1.inSegment i = true := beq_iff_eq.2 hphase
  have hwalk : (s.dryWalk i limit false).1 = (State.walk i limit .gap Config.walkFuel s none).1.setExpected i limit := by
    simp [State.dryWalk, hlasts]
  rw [hwalk]
  unfold State.setExpected
  rw [State.setStream_stream_self]
  exact ⟨rfl, hcfg, hsegment⟩

/-! ## A SAMPLES frame by its first word index (R41 to R46) -/

section
variable {first : Nat} {words : List SampleWord}

theorem takeSamples_overlap (h : first + words.length ≤ (s.stream i).walker.expected) :
    s.takeSamples i first words = (s, .overlap) := if_pos h

theorem takeSamples_straddle (h : (s.stream i).walker.expected < first + words.length)
    (hlt : first < (s.stream i).walker.expected) : s.takeSamples i first words =
      (s.takeWords i (s.stream i).walker.expected (words.drop ((s.stream i).walker.expected - first)), .taken) := by
  unfold State.takeSamples
  dsimp only
  rw [if_neg (Nat.not_le.2 h), if_pos hlt]

theorem takeSamples_order (hphase : (s.stream i).phase = .running .inSegment) (h : (s.stream i).walker.expected = first)
    (hlen : 1 ≤ words.length) : s.takeSamples i first words = (s.takeWords i first words, .taken) := by
  have hin : s.inSegment i = true := beq_iff_eq.2 hphase
  unfold State.takeSamples
  dsimp only
  have hnot : ¬ (s.stream i).walker.expected < first := by omega
  rw [if_neg (by omega), if_neg (by omega), if_pos (by unfold Config.gapLimit; omega)]
  simp only [if_neg hnot, if_pos hin]

theorem takeSamples_gap (h : (s.stream i).walker.expected < first)
    (hlimit : first ≤ (s.stream i).walker.expected + 1048576) : s.takeSamples i first words =
      (if ((s.dryWalk i first false).1.stream i).phase = .running .inSegment then
        (s.dryWalk i first false).1.takeWords i first words else (s.dryWalk i first false).1, .taken) := by
  unfold State.takeSamples State.inSegment
  dsimp only
  rw [if_neg (by omega), if_neg (by omega), if_pos (by unfold Config.gapLimit; omega), if_pos h]
  simp only [beq_iff_eq]

theorem takeSamples_beyond (h : (s.stream i).walker.expected + 1048576 < first) :
    s.takeSamples i first words = (s.endSegment i true none, .orphan) := by
  unfold State.takeSamples
  dsimp only
  rw [if_neg (by omega), if_neg (by omega), if_neg (by unfold Config.gapLimit; omega)]

/-- R41 to R45: how a stream disposes of the words. -/
theorem takeSamples_disposal : (s.takeSamples i first words).2 =
    if first + words.length ≤ (s.stream i).walker.expected then .overlap
    else if (s.stream i).walker.expected + 1048576 < first then .orphan else .taken := by
  unfold State.takeSamples Config.gapLimit
  dsimp only
  split
  · rfl
  · split
    · rw [if_neg (by omega)]
    · split
      · show Disposal.taken = _
        rw [if_neg (by omega)]
      · rw [if_pos (by omega)]

end

section
variable {source : Byte} {segment : BitVec 32} {first : BitVec 48} {words : List SampleWord}

theorem offerSamples_actsAlone (segment : BitVec 32) (first : Nat) (words : List SampleWord) :
    ActsAlone (State.offerSamples segment first words) :=
  ofSegment_actsAlone fun _ _ _ hj => State.takeSamples_stream_other _ _ _ _ hj

theorem exec_samples (h1 : 1 ≤ words.length) (h512 : words.length ≤ 512) (hlast : first.toNat + words.length ≤ 2 ^ 48)
    (s : State) : exec (.samples source segment first words) s =
      .next (s.intake source true true (State.offerSamples segment first.toNat words)) := by
  have hshape : samplesShapeOk first words.length = true := by
    unfold samplesShapeOk
    simp only [Bool.and_eq_true, decide_eq_true_eq]
    omega
  show Host.Outcome.next (s.intake source (samplesShapeOk first words.length) true
    (State.offerSamples segment first.toNat words)) = _
  rw [hshape]

/-- R145: SAMPLES of its segment at a stream alone on its source, which it takes. -/
theorem exec_samples_alone (hsync : s.receiver.inSync = true) (hsource : source.toNat < 32) (h1 : 1 ≤ words.length)
    (h512 : words.length ≤ 512) (hlast : first.toNat + words.length ≤ 2 ^ 48)
    (hi : ∀ j, OnSource s source j ↔ j = i) (hphase : (s.stream i).phase = .running .inSegment)
    (hseg : (s.stream i).segment = segment) (htaken : (s.takeSamples i first.toNat words).2 = .taken) :
    exec (.samples source segment first words) s = .next (s.takeSamples i first.toNat words).1 := by
  have hoffer : State.offerSamples segment first.toNat words s i = s.takeSamples i first.toNat words :=
    ofSegment_in hphase hseg
  rw [exec_samples h1 h512 hlast, intake_alone (offerSamples_actsAlone _ _ _) hsync hsource hi (.inl (by rw [hoffer, htaken])),
    hoffer]

end

end Sys2Proof.Machine
end

section
/-! PROOFS. SAMPLES frames: which streams they reach and what is counted, and one word that becomes one PASS point. -/

-- One theorem at a time: the stacks of a thread each would exceed the memory of the check.
set_option Elab.async false

namespace Sys2Proof.Machine

open Sys2Proof.Safety

variable {s : State} {i : StreamId}

/-! ## Counting a frame (R147) -/

section
variable {source : Byte} {segment : BitVec 32} {first : Nat} {words : List SampleWord}

theorem countIntake_setCounters (s : State) (orphan unclaimed overlap : Bool) :
    ∃ c, s.countIntake orphan unclaimed overlap = s.setCounters c := ⟨_, rfl⟩

/-- R147: a frame that no stream takes, nor discards whole, is unclaimed. -/
theorem satAdd_contains (c : BitVec 32) {ds : List Disposal} {d : Disposal} {p : Prop} [Decidable p] (h : d ∈ ds ↔ p) :
    satAdd c (ds.contains d).toNat = if p then bumped c else c := by
  by_cases hp : p
  · rw [if_pos hp, List.contains_iff_mem.2 (h.2 hp), Bool.toNat_true, satAdd_bumped]
  · rw [if_neg hp, Bool.eq_false_iff.2 fun hc => hp (h.1 (List.contains_iff_mem.1 hc)), Bool.toNat_false, satAdd_zero]

theorem satAdd_unclaimed (c : BitVec 32) {ds : List Disposal} {p : Prop} [Decidable p]
    (h : Disposal.taken ∈ ds ∨ Disposal.overlap ∈ ds ↔ p) :
    satAdd c (true && !(ds.contains .taken || ds.contains .overlap)).toNat = if p then c else bumped c := by
  have hclaimed : (ds.contains .taken || ds.contains .overlap) = true ↔ p := by
    rw [Bool.or_eq_true, List.contains_iff_mem, List.contains_iff_mem, h]
  by_cases hp : p
  · rw [if_pos hp, hclaimed.2 hp]
    exact satAdd_zero c
  · rw [if_neg hp, Bool.eq_false_iff.2 fun hc => hp (hclaimed.1 hc)]
    exact satAdd_bumped c

theorem counters_congr (c : EngineCounters) {o o' u u' v v' : BitVec 32} (ho : o = o') (hu : u = u') (hv : v = v') :
    { c with orphans := o, unclaimed := u, overlaps := v } = { c with orphans := o', unclaimed := u', overlaps := v' } := by
  rw [ho, hu, hv]

/-- R145: a stream that stands in the frame's segment. -/
abbrev InFrame (s : State) (segment : BitVec 32) (i : StreamId) : Prop :=
  (s.stream i).phase = .running .inSegment ∧ (s.stream i).segment = segment

theorem offerSamples_in (h : InFrame s segment i) :
    State.offerSamples segment first words s i = s.takeSamples i first words := ofSegment_in h.1 h.2

theorem offerSamples_outside (h : ¬ InFrame s segment i) : (State.offerSamples segment first words s i).1 = s :=
  ofSegment_outside ((segment_cases s segment i).resolve_left h)

/-- R41, R45: a frame is an orphan at a stream astray, and at one that it lies too far ahead of. -/
theorem offerSamples_orphan_iff : (State.offerSamples segment first words s i).2 = .orphan ↔
    (s.stream i).phase = .running .betweenSegments ∨ ((s.stream i).phase = .running .inSegment ∧
      ((s.stream i).segment ≠ segment ∨ (s.stream i).walker.expected + 1048576 < first)) := by
  by_cases hin : InFrame s segment i
  · obtain ⟨hphase, hseg⟩ := hin
    have hleft : ((s.stream i).phase = .running .betweenSegments ∨ ((s.stream i).phase = .running .inSegment ∧
        ((s.stream i).segment ≠ segment ∨ (s.stream i).walker.expected + 1048576 < first))) ↔
        (s.stream i).walker.expected + 1048576 < first := by simp [hphase, hseg]
    rw [hleft, offerSamples_in ⟨hphase, hseg⟩, takeSamples_disposal]
    split
    · exact iff_of_false (show Disposal.overlap ≠ .orphan by decide) (by omega)
    · split
      · next h => exact iff_of_true rfl h
      · next h => exact iff_of_false (show Disposal.taken ≠ .orphan by decide) h
  · rcases (segment_cases s segment i).resolve_left hin with ha | ha
    · rw [show (State.offerSamples segment first words s i).2 = .orphan from congrArg Prod.snd (ofSegment_astray ha)]
      exact iff_of_true rfl (ha.imp_right fun h => ⟨h.1, .inl h.2⟩)
    · rw [show (State.offerSamples segment first words s i).2 = .notTaken from congrArg Prod.snd (ofSegment_away ha)]
      exact iff_of_false (show Disposal.notTaken ≠ .orphan by decide) fun h => h.elim (ha _) fun h => ha _ h.1

theorem offerSamples_outside_disposal (h : ¬ InFrame s segment i) :
    (State.offerSamples segment first words s i).2 ≠ .taken ∧ (State.offerSamples segment first words s i).2 ≠ .overlap := by
  rcases (segment_cases s segment i).resolve_left h with ha | ha
  · rw [show (State.offerSamples segment first words s i).2 = .orphan from congrArg Prod.snd (ofSegment_astray ha)]
    decide
  · rw [show (State.offerSamples segment first words s i).2 = .notTaken from congrArg Prod.snd (ofSegment_away ha)]
    decide

/-- R41: a frame is discarded whole by a stream that has all its words. -/
theorem offerSamples_overlap_iff : (State.offerSamples segment first words s i).2 = .overlap ↔
    (s.stream i).phase = .running .inSegment ∧ (s.stream i).segment = segment ∧
      first + words.length ≤ (s.stream i).walker.expected := by
  by_cases hin : InFrame s segment i
  · obtain ⟨hphase, hseg⟩ := hin
    rw [offerSamples_in ⟨hphase, hseg⟩, takeSamples_disposal]
    split
    · next h => exact iff_of_true rfl ⟨hphase, hseg, h⟩
    · next h =>
      split
      · exact iff_of_false (show Disposal.orphan ≠ .overlap by decide) fun hc => h hc.2.2
      · exact iff_of_false (show Disposal.taken ≠ .overlap by decide) fun hc => h hc.2.2
  · exact iff_of_false (offerSamples_outside_disposal hin).2 fun hc => hin ⟨hc.1, hc.2.1⟩

/-- R147: a frame is claimed by a stream that takes it or discards it whole. -/
theorem offerSamples_claimed_iff : ((State.offerSamples segment first words s i).2 = .taken ∨
      (State.offerSamples segment first words s i).2 = .overlap) ↔
    (s.stream i).phase = .running .inSegment ∧ (s.stream i).segment = segment ∧
      first ≤ (s.stream i).walker.expected + 1048576 := by
  by_cases hin : InFrame s segment i
  · obtain ⟨hphase, hseg⟩ := hin
    rw [offerSamples_in ⟨hphase, hseg⟩, takeSamples_disposal]
    split
    · exact iff_of_true (.inr rfl) ⟨hphase, hseg, by omega⟩
    · split
      · exact iff_of_false (by decide) fun hc => by omega
      · exact iff_of_true (.inl rfl) ⟨hphase, hseg, by omega⟩
  · obtain ⟨htaken, hoverlap⟩ := offerSamples_outside_disposal (first := first) (words := words) hin
    exact iff_of_false (not_or.2 ⟨htaken, hoverlap⟩) fun hc => hin ⟨hc.1, hc.2.1⟩

theorem offerSamples_rest : (State.offerSamples segment first words s i).1.rest = s.rest := by
  by_cases hin : InFrame s segment i
  · rw [offerSamples_in hin]
    exact State.takeSamples_rest _ _ _ _
  · rw [offerSamples_outside hin]

end

/-! ## One word, one PASS point (R35, R49, R70) -/

/-- R91: what a point leaves of the state: lines of its slot. -/
theorem writeFilledLine_eq (s : State) (b c : OpenBlock) : ∃ dram badLines, s.writeFilledLine b c =
    { s with spill := { s.spill with dram := dram, badLines := badLines } } := by
  unfold State.writeFilledLine
  dsimp only
  split <;> exact ⟨_, _, rfl⟩

theorem placePoint_full (b : OpenBlock) (bytes : List Byte) : State.placePoint b bytes false =
    { b with points := b.points + 1, payload := b.payload ++ bytes } := by
  unfold State.placePoint
  simp [Flag.when]

/-- R51: at level 0 a PASS window holds one input. -/
theorem effectiveFactor_pass {cfg : StreamConfig} (h : cfg.mode = .pass) : effectiveFactor cfg 0 = 1 := by
  unfold effectiveFactor
  rw [if_pos h]
  rfl

/-- R49, R70: an input of a stream in PASS mode at level 0 is a point of the open block, which has room for more. -/
theorem handInput_pass {b : OpenBlock} (hloss : (s.stream i).loss = none) (hw : (s.stream i).window = none)
    (hb : (s.stream i).openBlock = some b) (hmode : (s.stream i).cfg.mode = .pass) (hlevel : (s.stream i).level = 0)
    (hpublished : s.publishedFor i = 0) (htarget : b.points + 1 < b.target) (v : Int) : s.handInput i v =
      (s.setStream i { s.stream i with
        openBlock := some { b with points := b.points + 1, payload := b.payload ++ leBytes 2 (BitVec.ofInt 16 v).toNat }
        counts := { (s.stream i).counts with points := (s.stream i).counts.points + 1 } }).writeFilledLine b
          { b with points := b.points + 1, payload := b.payload ++ leBytes 2 (BitVec.ofInt 16 v).toNat } := by
  have hsize : (Window.beginWith (s.stream i).cfg (s.stream i).level (s.stream i).inputIndex v).count =
      (Window.beginWith (s.stream i).cfg (s.stream i).level (s.stream i).inputIndex v).size := by
    show 1 = effectiveFactor _ _
    rw [hlevel, effectiveFactor_pass hmode]
  have hpoint : pointBytes (Window.beginWith (s.stream i).cfg (s.stream i).level (s.stream i).inputIndex v).point =
      leBytes 2 (BitVec.ofInt 16 v).toNat := by
    rw [Window.point_first (.inl ?_)]
    · exact List.append_nil _
    · show effectiveMode _ _ = _
      rw [hlevel, hmode]
      rfl
  have hopen : ¬ (b.points + 1 == b.target) = true := by rw [beq_iff_eq]; omega
  rw [handInput_first hloss hw, State.takeFirst, applyLevel_same (hlevel.trans hpublished.symm)]
  simp only [hb, Option.isSome_some, if_true, State.beginWindow, if_pos hsize, State.emitWindow,
    State.setStream_stream_self, State.setStream_setStream, hpoint, placePoint_full, Bool.not_false, Bool.true_and,
    if_neg hopen]
  rw [← hw]

end Sys2Proof.Machine

namespace Sys2Proof

open Machine Safety

/-- Settles O26: each stream on the source by its place in the frame's segment; at a stream alone the straddle and the gap;
and the dry walk of a gap. -/
theorem samplesReachOnlyTheStreamsOnTheirSource : Obligations.SamplesReachOnlyTheStreamsOnTheirSource := by
  refine ⟨fun s source segment first words hsync hsource h1 h512 hlast => ?_,
    fun s i source segment first words n hsync hsource h1 h512 hlast hi hphase hseg hn => ⟨fun hlt hn' => ?_,
      fun hlt hlimit hlasts => ?_⟩,
    fun s t i limit n offset width x hx hphase hloss ht => ⟨fun h => ?_, fun hlimit h1 hn hindex hresync hstack hentry
      hop hend => ?_⟩⟩
  · obtain ⟨turn, hat, hon, hoff, -, hrest, hds⟩ := fanOut_spec (source := source) (fun u v => v.rest = u.rest)
      (offerSamples_actsAlone segment first.toNat words) (fun _ => rfl) (fun u v w huv hvw => hvw.trans huv) s
      fun u i _ => offerSamples_rest
    have hturn : ∀ i, (turn i).stream i = s.stream i := fun i => (hat i).1
    have horphan := (hds .orphan).trans (exists_congr fun i => and_congr_right fun _ =>
      (offerSamples_orphan_iff (s := turn i) (i := i)).trans (by rw [hturn i]))
    have hoverlap := (hds .overlap).trans (exists_congr fun i => and_congr_right fun _ =>
      (offerSamples_overlap_iff (s := turn i) (i := i)).trans (by rw [hturn i]))
    have hclaimed := (or_congr (hds .taken) (hds .overlap)).trans (exists_or.symm.trans (exists_congr fun i =>
      and_or_left.symm.trans (and_congr_right fun _ =>
        (offerSamples_claimed_iff (s := turn i) (i := i)).trans (by rw [hturn i]))))
    rw [exec_samples h1 h512 hlast, intake_taken hsync hsource]
    generalize (s.fanOut source (State.offerSamples segment first.toNat words)).2 = ds at horphan hoverlap hclaimed
    generalize (s.fanOut source (State.offerSamples segment first.toNat words)).1 = u at hon hoff hrest
    have hcounters : u.counters = s.counters := congrArg (·.2.2.1) hrest
    have hout : ∀ i, ¬ (OnSource s source i ∧ InFrame s segment i) → u.stream i = s.stream i := fun i h => by
      by_cases hsrc : OnSource s source i
      · rw [hon i hsrc, offerSamples_outside, hturn]
        rw [InFrame, hturn]
        exact fun hin => h ⟨hsrc, hin⟩
      · exact hoff i hsrc
    refine ⟨_, rfl, fun i h => hout i fun hc => h hc.1, fun i _ h => hout i fun hc => h _ hc.2.1,
      fun i hsrc hp hs => ?_, ?_, ?_⟩
    · have hphase : ((turn i).stream i).phase = .running .inSegment := by rw [hturn, hp]
      have hu : u.stream i = ((turn i).takeSamples i first.toNat words).1.stream i := by
        rw [hon i hsrc, offerSamples_in ⟨hphase, by rw [hturn, hs]⟩]
      show (_ → (u.stream i).walker.expected = _) ∧ (_ → u.stream i = _) ∧ (_ → (u.stream i).phase = _ ∧
        (u.stream i).window = _ ∧ (u.stream i).walker = _ ∧ (u.stream i).inputIndex = _ ∧ (u.stream i).counts.accepted = _)
      rw [hu]
      refine ⟨fun h => ?_, fun h => ?_, fun h => ?_⟩
      · rw [takeSamples_order hphase (by rw [hturn, h]) h1]
        exact takeWords_expected _ _
      · rw [takeSamples_overlap (by rw [hturn]; exact h)]
        exact hturn i
      · obtain ⟨h2, h3, -, h4, h5, h6, -⟩ := endSegment_rests (turn i) i true none
        rw [hturn] at h4 h5 h6
        rw [takeSamples_beyond (by rw [hturn]; exact h)]
        exact ⟨h2, h3, h4, h5, h6⟩
    · unfold State.countIntake
      rw [State.setCounters_counters, hcounters]
      exact counters_congr _ (satAdd_contains _ horphan) (satAdd_unclaimed _ hclaimed) (satAdd_contains _ hoverlap)
    · obtain ⟨c, hc⟩ := countIntake_setCounters u (ds.contains .orphan)
        (true && !(ds.contains .taken || ds.contains .overlap)) (ds.contains .overlap)
      rw [hc]
      conv_lhs => rw [State.eq_of_rest hrest]
      rfl
  · subst hn
    have hlength : (words.drop ((s.stream i).walker.expected - first.toNat)).length =
        first.toNat + words.length - (s.stream i).walker.expected := by
      rw [List.length_drop]
      omega
    have hnat : (BitVec.ofNat 48 (s.stream i).walker.expected).toNat = (s.stream i).walker.expected := by
      rw [BitVec.toNat_ofNat, Nat.mod_eq_of_lt (by omega)]
    have hstraddle := takeSamples_straddle (words := words) hn' hlt
    have horder := takeSamples_order (words := words.drop ((s.stream i).walker.expected - first.toNat)) hphase rfl (by omega)
    rw [exec_samples_alone hsync hsource h1 h512 hlast hi hphase hseg (by rw [hstraddle]),
      exec_samples_alone hsync hsource (by omega) (by omega) (by omega) hi hphase hseg (by rw [hnat, horder]), hnat,
      hstraddle, horder]
  · subst hn
    obtain ⟨hexpected, hcfg, hsegment⟩ := dryWalk_lasts hlasts
    have hgap := takeSamples_gap (words := words) hlt hlimit
    have horder := takeSamples_order (words := words) hlasts hexpected h1
    have hi' : ∀ j, OnSource (s.dryWalk i first.toNat false).1 source j ↔ j = i := fun j => by
      rw [← hi j]
      unfold OnSource
      by_cases hj : j = i
      · rw [hj, hcfg]
      · rw [State.dryWalk_stream_other _ _ _ _ hj]
    rw [exec_samples_alone hsync hsource h1 h512 hlast hi hphase hseg (by rw [hgap]),
      exec_samples_alone (by simpa using hsync) hsource h1 h512 hlast hi' hlasts (by rw [hsegment, hseg]) (by rw [horder]),
      hgap, horder, if_pos hlasts]
  · subst hx ht
    have hin : s.inSegment i = true := beq_iff_eq.2 hphase
    unfold State.dryWalk
    rw [if_neg Bool.false_ne_true, walk_rests h]
    simp only [hin, Bool.not_false, Bool.and_self, if_true]
    rfl
  · subst hx ht
    obtain ⟨points, closed, timer, hstream⟩ := gapEnds_stream s i
    rw [dryWalk_gap hphase hloss hresync hlimit h1 hn hindex hstack hentry hop hend]
    unfold State.setExpected
    rw [State.setStream_stream_self, State.setStream_setStream]
    refine ⟨?_, fun j hj => ?_, ?_⟩
    · rw [State.setStream_stream_self, hstream, hlimit]
      rfl
    · rw [State.setStream_stream_other _ _ hj, gapEnds, State.closeOpen_stream_other _ _ _ _ hj,
        State.emitPartial_stream_other _ _ hj]
    · have hrest : (gapEnds s i).rest = s.rest := by simp [gapEnds]
      have hgroups : (gapEnds s i).groups = s.groups := by simp [gapEnds]
      have hreport : (gapEnds s i).report = s.report := by simp [gapEnds]
      conv_lhs => rw [State.eq_of_rest hrest, hgroups, hreport]
      rfl

/-- Settles O27: the walker's one step, whose input is a window of its own. -/
theorem oneWordBecomesOnePassPoint : Obligations.OneWordBecomesOnePassPoint := by
  intro s i source segment first word offset width b hsync hsource hi hphase hseg hloss hw hresync hb hmode hlevel
    hpublished hwalker hop hindex htarget
  have hexpected : (s.stream i).walker.expected = first.toNat := by rw [hwalker]
  have hposition : (s.stream i).walker.position = first.toNat := by rw [hwalker]
  have hstack : (s.stream i).walker.stack = [] := by rw [hwalker]
  let v := extractField (s.stream i).cfg.signedness word offset width
  let c : OpenBlock :=
    { b with points := b.points + 1, payload := b.payload ++ leBytes 2 (BitVec.ofInt 16 v).toNat }
  let x : Machine.Stream := { s.stream i with walker := ⟨(s.stream i).walker.entry, [], first.toNat, first.toNat + 1⟩ }
  let y : Machine.Stream := { x with
    openBlock := some c, counts := { x.counts with points := x.counts.points + 1 } }
  have hx : s.setExpected i (first.toNat + 1) = s.setStream i x := by
    unfold State.setExpected
    dsimp only
    rw [hposition, hstack]
  have hinput : (s.setStream i x).fieldInput i (.words first.toNat [word]) none offset width =
      ((s.setStream i y).writeFilledLine b c, none) := by
    have hhand := handInput_pass (s := s.setStream i x) (i := i) (b := b) (by rw [State.setStream_stream_self]; exact hloss)
      (by rw [State.setStream_stream_self]; exact hw) (by rw [State.setStream_stream_self]; exact hb)
      (by rw [State.setStream_stream_self]; exact hmode) (by rw [State.setStream_stream_self]; exact hlevel)
      (by unfold State.publishedFor; rw [State.setStream_stream_self]; exact hpublished) htarget v
    rw [State.setStream_stream_self, State.setStream_setStream] at hhand
    unfold State.fieldInput
    dsimp only
    rw [State.setStream_stream_self]
    have hword : [word].getD (x.walker.position - first.toNat) 0 = word := by
      show [word].getD (first.toNat - first.toNat) 0 = word
      rw [Nat.sub_self]
      rfl
    rw [hword]
    exact congrArg (·, none) hhand
  have hentry := execEntry_field (s := s.setStream i x) (way := .words first.toNat [word]) (tail := none)
    (by rw [State.setStream_stream_self]; exact hop) hinput
    (by rw [State.writeFilledLine_stream, State.setStream_stream_self]; exact hresync)
    (by rw [State.writeFilledLine_stream, State.setStream_stream_self]; exact hindex)
  rw [State.writeFilledLine_stream, State.setStream_stream_self] at hentry
  have hwords : s.takeWords i first.toNat [word] = ((s.setStream i y).writeFilledLine b c).setStream i { y with
      inputIndex := y.inputIndex + 1
      counts := { y.counts with accepted := y.counts.accepted + 1 }
      walker := ⟨(s.stream i).walker.entry + 1, [], first.toNat + 1, first.toNat + 1⟩ } := by
    have hfuel : Config.walkFuel = (2 ^ 70 - 1) + 1 := by decide
    unfold State.takeWords
    dsimp only
    rw [show first.toNat + [word].length = first.toNat + 1 from rfl, hx, hfuel,
      walk_step (by rw [State.setStream_stream_self]; exact hphase)
        (by rw [State.setStream_stream_self]; exact Nat.lt_succ_self _), hentry,
      walk_rests (by rw [State.setStream_stream_self]; exact le_rfl)]
    rfl
  have horder := takeSamples_order (words := [word]) hphase hexpected le_rfl
  refine ⟨_, exec_samples_alone hsync hsource le_rfl (show 1 ≤ 512 by decide) ?_ hi hphase hseg (by rw [horder]), ?_⟩
  · show first.toNat + 1 ≤ 2 ^ 48
    have := first.isLt
    omega
  rw [horder]
  dsimp only
  rw [hwords]
  refine ⟨?_, fun j hj => ?_, fun a ha => ?_, ?_⟩
  · rw [State.setStream_stream_self]
  · rw [State.setStream_stream_other _ _ hj, State.writeFilledLine_stream, State.setStream_stream_other _ _ hj]
  · rw [State.setStream_spill]
    exact writeFilledLine_read (s := s.setStream i y) (b := b) (c := c) ha
  · obtain ⟨dram, badLines, h⟩ := writeFilledLine_eq (s.setStream i y) b c
    rw [h]
    rfl

end Sys2Proof
end

section
/-! PROOFS. Losses: how one begins, goes on and ends at an input. -/

-- One theorem at a time: the stacks of a thread each would exceed the memory of the check.
set_option Elab.async false

namespace Sys2Proof.Machine

open Sys2Proof.Safety

variable {s : State} {i : StreamId} {v : Int}

/-! ## Losses that begin and go on (R113 to R115) -/

/-- R113: an input without a slot for its window begins a loss. -/
theorem takeFirst_refused (hlevel : (s.stream i).level = s.publishedFor i) (hb : (s.stream i).openBlock = none)
    (hslot : s.spill.freeList = [] ∨ (s.stream i).cfg.quota ≤ (s.stream i).occupancy) (v : Int) : s.takeFirst i v =
      (s.setStream i { s.stream i with counts := { (s.stream i).counts with lost := (s.stream i).counts.lost + 1 } }).enterLossy
        i (State.lossOfInput (s.stream i)) := by
  have ha : s.allocate i true = none := State.allocate_eq_none.2 (hslot.imp_right fun h => ⟨rfl, h⟩)
  unfold State.takeFirst
  rw [applyLevel_same hlevel]
  simp only [hb, Option.isSome_none, Bool.false_eq_true, if_false, ha]

/-- R113: a loss that begins as the stream's context moves on. -/
theorem setStream_enterLossy {y : Machine.Stream} (hcfg : y.cfg = (s.stream i).cfg) (r : LossRecord) :
    (s.setStream i y).enterLossy i r = { s with
      streams := s.streams.set i { y with loss := some r, awaiting := none, window := none }
      report := raisedIn s.report (s.enabled (.stream i .lossBegin)) (.stream i .lossBegin) } := by
  have hself : (s.setStream i y).stream i = y := State.setStream_stream_self _ _ _
  have hstreams : (s.setStream i y).streams.set i { y with loss := some r, awaiting := none, window := none } =
      s.streams.set i { y with loss := some r, awaiting := none, window := none } := Vector.set_set ..
  have hcfg' : ((s.setStream i y).stream i).cfg = (s.stream i).cfg := (congrArg Stream.cfg hself).trans hcfg
  rw [enterLossy_eq, enabled_stream_congr hcfg', hself, hstreams]
  rfl

/-- R115: a boundary of a LOSSY stream that is granted no slot fixes the next would-be window. -/
theorem lossyRetry_refused {r : LossRecord} (hlevel : (s.stream i).level = s.publishedFor i)
    (hr : (s.stream i).loss = some r) (hseen : r.seen = 0)
    (hslot : s.spill.freeList = [] ∨ (s.stream i).cfg.quota ≤ (s.stream i).occupancy) : s.lossyRetry i =
      s.setStream i { s.stream i with
        loss := some { r with factor := some (effectiveFactor (s.stream i).cfg (s.stream i).level) } } := by
  have hnot : ¬ r.seen ≠ 0 := fun h => h hseen
  unfold State.lossyRetry
  simp only [hr, if_neg hnot, applyLevel_same hlevel]
  have ha : (s.setStream i { s.stream i with loss := some { r with
      factor := some (effectiveFactor (s.stream i).cfg (s.stream i).level) } }).allocate i true = none :=
    State.allocate_eq_none.2 (by
      rw [State.setStream_spill, State.setStream_stream_self]
      exact hslot.imp_right fun h => ⟨rfl, h⟩)
  rw [ha]

/-- R114: an input counted lost, of a would-be window of a known size. -/
theorem countLossy_of {r : LossRecord} {size : Nat} (hr : (s.stream i).loss = some r) (hfactor : r.factor = some size) :
    s.countLossy i = s.setStream i { s.stream i with
      counts := { (s.stream i).counts with lost := (s.stream i).counts.lost + 1 }
      loss := some { r with
        record := { r.record with count := min (2 ^ 56) (r.record.count + 1) }
        seen := if size ≤ r.seen + 1 then 0 else r.seen + 1 } } := by
  unfold State.countLossy
  simp only [hr, hfactor, decide_eq_true_eq, Config.indexLimit]

/-- R114, R115: a LOSSY stream that stays so counts the input, handed over or passed. -/
theorem handInput_lossy (h : (s.stream i).lossy = true) (hstays : ((s.lossyRetry i).stream i).lossy = true) (v : Int) :
    s.handInput i v = (s.lossyRetry i).countLossy i := by
  unfold State.handInput
  dsimp only
  rw [if_pos h, if_pos hstays]

theorem passInput_lossy (hstays : ((s.lossyRetry i).stream i).lossy = true) (isTail : Bool) (tail : Option GapRecord) :
    s.passInput i isTail tail = ((s.lossyRetry i).countLossy i, tail) := by
  unfold State.passInput
  dsimp only
  rw [if_pos hstays]

/-- R115: without a slot a LOSSY stream stays so. -/
theorem lossyRetry_stays {r : LossRecord} (hlevel : (s.stream i).level = s.publishedFor i)
    (hr : (s.stream i).loss = some r)
    (hslot : r.seen ≠ 0 ∨ s.spill.freeList = [] ∨ (s.stream i).cfg.quota ≤ (s.stream i).occupancy) :
    ((s.lossyRetry i).stream i).lossy = true := by
  by_cases hseen : r.seen = 0
  · rw [lossyRetry_refused hlevel hr hseen (hslot.resolve_left fun h => h hseen), State.setStream_stream_self]
    rfl
  · rw [lossyRetry_between hr hseen, Stream.lossy, hr]
    rfl

/-! ## Losses that end (R116) -/

/-- What the end of a loss leaves of the state: the block that opens for the input, with the loss as its gap section. -/
structure LossEnded (s : State) (i : StreamId) (r : LossRecord) (slot : Nat) (rest : List Nat) (u : State)
    (b : OpenBlock) : Prop where
  openBlock : (u.stream i).openBlock = some b
  context : u.stream i = { s.stream i with
    loss := none, awaiting := none, openBlock := some b, occupancy := (s.stream i).occupancy + 1
    nextSeq := (u.stream i).nextSeq, gaveSeq := (u.stream i).gaveSeq, prevStart := (u.stream i).prevStart
    firstMark := (u.stream i).firstMark, lateStart := (u.stream i).lateStart, interimTimer := (u.stream i).interimTimer }
  freeList : u.spill.freeList = rest
  slot : b.slot = slot
  gap : b.gap = some ⟨.noSlot, r.record⟩
  firstIndex : b.header.firstIndex = (s.stream i).inputIndex
  sequence : b.header.sequence = (s.stream i).nextSeq
  points : b.points = 0
  target : b.target = targetCount (s.stream i).cfg.blockSize 96 b.header.mode.pointSize
  event : s.enabled (.stream i .lossEnd) = true → EventPair.stream i .lossEnd ∈ u.report.events
  others : ∀ j, j ≠ i → u.stream j = s.stream j

/-- R116: a boundary of a LOSSY stream that is granted a slot. -/
theorem lossyRetry_granted {r : LossRecord} {slot : Nat} {rest : List Nat} (hlevel : (s.stream i).level = s.publishedFor i)
    (hr : (s.stream i).loss = some r) (hseen : r.seen = 0) (hfree : s.spill.freeList = slot :: rest)
    (hquota : (s.stream i).occupancy < (s.stream i).cfg.quota) : ∃ b, LossEnded s i r slot rest (s.lossyRetry i) b := by
  let y : Machine.Stream := { s.stream i with
    loss := some { r with factor := some (effectiveFactor (s.stream i).cfg (s.stream i).level) } }
  have hself : (s.setStream i y).stream i = y := State.setStream_stream_self _ _ _
  obtain ⟨u, hu, hrest⟩ := allocate_granted (s := s.setStream i y) (i := i) (ordinary := true) hfree
    fun _ => by rw [hself]; exact hquota
  obtain ⟨-, -, hstream, -⟩ := State.allocate_some hu
  rw [hself] at hstream
  have hnot : ¬ r.seen ≠ 0 := fun h => h hseen
  have hretry : s.lossyRetry i = u.openCarrying i slot (u.stream i).inputIndex true := by
    unfold State.lossyRetry
    simp only [hr, if_neg hnot, applyLevel_same hlevel]
    exact congrArg (fun o : Option (Nat × State) => match o with
      | some (slot, s) => s.openCarrying i slot (s.stream i).inputIndex true
      | none => s.setStream i y) hu
  rw [hretry]
  refine ⟨_, openCarrying_openBlock _ _ _ _ _, ?_, ?_, rfl, ?_, ?_, ?_, rfl, ?_, fun henabled => ?_, fun j hj => ?_⟩
  · rw [State.openCarrying_stream_self, hstream]
    rfl
  · rw [State.openCarrying_freeList]
    exact hrest
  · rw [hstream]
    rfl
  · rw [hstream]
    rfl
  · rw [hstream]
    rfl
  · rw [hstream]
    rfl
  · have hlossy : (u.stream i).lossy = true := by rw [hstream]; rfl
    rw [openCarrying_eq]
    refine (grows_openIn (carried u i) _ _ _ _ _).2.1 _ ?_
    unfold carried State.leaveLossy
    dsimp only
    rw [if_pos hlossy, State.setStream_report, raise_report, enabled_stream_congr (s := s)]
    · rw [henabled]
      exact mem_raisedIn _ _
    · rw [State.setStream_stream_self, hstream]
  · rw [State.openCarrying_stream_other _ _ _ _ _ hj, State.allocate_stream_other hu hj,
      State.setStream_stream_other _ _ hj]

/-- R49: an input begins a window that holds more inputs than one. -/
theorem beginWindow_more (h : 2 ≤ effectiveFactor (s.stream i).cfg (s.stream i).level) (v : Int) : s.beginWindow i v =
    s.setStream i { s.stream i with
      window := some (Window.beginWith (s.stream i).cfg (s.stream i).level (s.stream i).inputIndex v) } := by
  unfold State.beginWindow
  dsimp only
  rw [if_neg]
  show ¬ 1 = effectiveFactor _ _
  omega

/-- R49, R70: a window of one input is emitted at once, into a block that its point does not fill. -/
theorem beginWindow_one {b : OpenBlock} (h : effectiveFactor (s.stream i).cfg (s.stream i).level = 1)
    (hb : (s.stream i).openBlock = some b) (htarget : b.points + 1 ≠ b.target) (v : Int) : ∃ c,
    c = State.placePoint b (pointBytes
      (Window.beginWith (s.stream i).cfg (s.stream i).level (s.stream i).inputIndex v).point) false ∧
    s.beginWindow i v = (s.setStream i { s.stream i with
      window := none, openBlock := some c
      counts := { (s.stream i).counts with points := (s.stream i).counts.points + 1 } }).writeFilledLine b c := by
  have hsize : (Window.beginWith (s.stream i).cfg (s.stream i).level (s.stream i).inputIndex v).count =
      (Window.beginWith (s.stream i).cfg (s.stream i).level (s.stream i).inputIndex v).size := h.symm
  have hopen : ∀ bytes, ¬ ((State.placePoint b bytes false).points == (State.placePoint b bytes false).target) = true := by
    intro bytes
    rw [beq_iff_eq]
    exact htarget
  refine ⟨_, rfl, ?_⟩
  simp only [State.beginWindow, if_pos hsize, State.emitWindow, State.setStream_stream_self, hb, State.setStream_setStream,
    Bool.not_false, Bool.true_and, if_neg (hopen _)]

/-- R69: a block with a gap section holds more points than one, where its size is 4 KiB or more. -/
theorem targetCount_many {size : BlockSize} (h : ∀ k, size = .kib k → k = 0 ∨ 4 ≤ k) (mode : Mode) :
    1 < targetCount size 96 mode.pointSize := by
  have hbudget : 4096 ≤ size.budget := by
    cases size with
    | segment => decide
    | kib k =>
      rcases h k rfl with rfl | hk
      · decide
      · show 4096 ≤ (if k = 0 then 16 else k) * 1024
        split <;> omega
  unfold targetCount
  rw [Nat.lt_iff_add_one_le, Nat.le_div_iff_mul_le (by cases mode <;> decide)]
  have := pointSize_le mode
  omega

end Sys2Proof.Machine

namespace Sys2Proof

open Machine Safety

/-- Settles O34: an input at a stream that is not LOSSY, between the boundaries of one that is, and at such a boundary
without a slot and with one. -/
theorem lossBeginsGoesOnAndEnds : Obligations.LossBeginsGoesOnAndEnds := by
  intro s t i v factor x hx hlevel hfactor ht hb hw
  subst hx hfactor ht
  have hgranted : ∀ r slot rest, (s.stream i).loss = some r → r.seen = 0 → s.spill.freeList = slot :: rest →
      (s.stream i).occupancy < (s.stream i).cfg.quota → ∃ b, LossEnded s i r slot rest (s.lossyRetry i) b ∧
        s.handInput i v = (s.lossyRetry i).beginWindow i v := by
    intro r slot rest hr hseen hfree hquota
    obtain ⟨b, h⟩ := lossyRetry_granted hlevel hr hseen hfree hquota
    have hlossy : (s.stream i).lossy = true := by rw [Stream.lossy, hr]; rfl
    have hended : ¬ ((s.lossyRetry i).stream i).lossy = true := by
      rw [h.context]
      exact Bool.false_ne_true
    refine ⟨b, h, ?_⟩
    unfold State.handInput
    dsimp only
    rw [if_pos hlossy, if_neg hended]
  refine ⟨fun hloss hslot => ?_, fun r size hr hseen hsize => ?_, fun r hr hseen hslot => ?_,
    fun r isTail tail hr hslot => ?_, fun r slot rest hr hseen hfree hquota hone hblock => ?_,
    fun r slot rest hr hseen hfree hquota hmore => ?_⟩
  · rw [handInput_first hloss hw, takeFirst_refused hlevel hb hslot, setStream_enterLossy (by rfl)]
    refine ⟨?_, rfl⟩
    show (s.setStream i _).stream i = _
    rw [State.setStream_stream_self, ← hw]
    rfl
  · rw [handInput_between hr hseen, countLossy_of hr hsize]
    rfl
  · rw [handInput_lossy (by rw [Stream.lossy, hr]; rfl) (lossyRetry_stays hlevel hr (.inr hslot)),
      lossyRetry_refused hlevel hr hseen hslot,
      countLossy_of (size := effectiveFactor (s.stream i).cfg (s.stream i).level)
        (congrArg Stream.loss (State.setStream_stream_self _ _ _)) rfl, State.setStream_setStream,
      State.setStream_stream_self, hseen]
    rfl
  · have hstays := lossyRetry_stays hlevel hr hslot
    rw [passInput_lossy hstays, handInput_lossy (by rw [Stream.lossy, hr]; rfl) hstays]
  · obtain ⟨b, h, hhand⟩ := hgranted r slot rest hr hseen hfree hquota
    have htarget : b.points + 1 ≠ b.target := by
      rw [h.points, h.target]
      exact Nat.ne_of_lt (targetCount_many hblock _)
    obtain ⟨c, hc, hbegin⟩ := beginWindow_one (s := s.lossyRetry i) (by rw [h.context]; exact hone) h.openBlock htarget v
    rw [hhand, hbegin]
    refine ⟨?_, ?_, ?_, ?_, ?_, ⟨c, ?_, ?_⟩, fun henabled => ?_, fun j hj => ?_⟩
    · rw [State.writeFilledLine_stream, State.setStream_stream_self, h.context]
    · rw [State.writeFilledLine_stream, State.setStream_stream_self]
    · rw [State.writeFilledLine_stream, State.setStream_stream_self, h.context]
    · rw [State.writeFilledLine_stream, State.setStream_stream_self, h.context]
    · rw [State.writeFilledLine_freeList]
      exact h.freeList
    · rw [State.writeFilledLine_stream, State.setStream_stream_self]
    · rw [hc]
      exact ⟨h.slot, h.gap, h.firstIndex, h.sequence, congrArg (· + 1) h.points⟩
    · rw [State.writeFilledLine_report]
      exact h.event henabled
    · rw [State.writeFilledLine_stream, State.setStream_stream_other _ _ hj]
      exact h.others j hj
  · obtain ⟨b, h, hhand⟩ := hgranted r slot rest hr hseen hfree hquota
    rw [hhand, beginWindow_more (by rw [h.context]; exact hmore)]
    refine ⟨?_, ?_, ?_, h.freeList, ⟨b, ?_, h.slot, h.gap, h.firstIndex, h.sequence, h.points⟩, ⟨Window.beginWith
      ((s.lossyRetry i).stream i).cfg ((s.lossyRetry i).stream i).level ((s.lossyRetry i).stream i).inputIndex v, ?_, ?_⟩,
      h.event, fun j hj => ?_⟩
    · rw [State.setStream_stream_self, h.context]
    · rw [State.setStream_stream_self, h.context]
    · rw [State.setStream_stream_self, h.context]
    · rw [State.setStream_stream_self]
      exact h.openBlock
    · rw [State.setStream_stream_self]
    · rw [h.context]
      exact ⟨rfl, rfl, rfl, rfl⟩
    · rw [State.setStream_stream_other _ _ hj]
      exact h.others j hj

end Sys2Proof
end

section
/-! PROOFS. The close with SHORT: FLUSH STREAM, and the expiry of the interim timer. -/

-- One theorem at a time: the stacks of a thread each would exceed the memory of the check.
set_option Elab.async false

namespace Sys2Proof.Machine

open Sys2Proof.Safety

variable {s : State} {i : StreamId}

/-- Bytes of a slot are as before where memories agree outside another. -/
theorem readAll_of_sameOutside {m n : Memory} {slot other : Nat} (h : SameOutside slot m n) (hne : other ≠ slot) {k len : Nat}
    (hk : k + len ≤ 65536) : n.readAll (other * 65536 + k) len = m.readAll (other * 65536 + k) len := by
  apply List.ext_getElem (by simp)
  intro j h1 h2
  simp only [Memory.length_readAll] at h2
  rw [Memory.getElem_readAll _ _ _ h2, Memory.getElem_readAll _ _ _ h2]
  refine h _ fun hin => hne ?_
  unfold InSlot at hin
  omega

theorem storedBytes_of_sameOutside {t : State} {slot other : Nat} (h : SameOutside slot s.spill.dram t.spill.dram)
    (hne : other ≠ slot) {len : Nat} (hlen : len ≤ 65536) : t.storedBytes other len = s.storedBytes other len := by
  have hread := readAll_of_sameOutside h hne (k := 0) (len := len) (by omega)
  rwa [Nat.add_zero] at hread

/-! ## The three ways of a close with SHORT (R56, R74, R75) -/

/-- R56: the state after a close with SHORT, by the open window and the request for the next block's slot. -/
theorem closeShort_cases (s : State) (i : StreamId) :
    ((s.stream i).window = none ∧ s.closeShort i = s.closeOpen i Flag.short none) ∨
    (∃ w n u, (s.stream i).window = some w ∧ (s.closeOpen i Flag.short none).allocate i true = some (n, u) ∧
      s.closeShort i = u.openCarrying i n w.firstIndex true) ∨
    ∃ w, (s.stream i).window = some w ∧ s.closeShort i =
      ((s.closeOpen i Flag.short none).setStream i { (s.closeOpen i Flag.short none).stream i with
        counts := { ((s.closeOpen i Flag.short none).stream i).counts with
          lost := ((s.closeOpen i Flag.short none).stream i).counts.lost + BitVec.ofNat 64 w.count } }).enterLossy i
        (State.lossOfWindow ((s.closeOpen i Flag.short none).stream i) w) := by
  have hclosed : ((s.closeOpen i Flag.short none).stream i).window = (s.stream i).window :=
    State.closeOpen_stream_window _ _
  rcases Option.eq_none_or_eq_some (s.stream i).window with hw | ⟨w, hw⟩
  · refine .inl ⟨hw, ?_⟩
    unfold State.closeShort
    simp only [hclosed, hw]
  · cases ha : (s.closeOpen i Flag.short none).allocate i true with
    | some p =>
      refine .inr (.inl ⟨w, p.1, p.2, hw, rfl, ?_⟩)
      unfold State.closeShort
      simp only [hclosed, hw, ha]
    | none =>
      refine .inr (.inr ⟨w, hw, ?_⟩)
      unfold State.closeShort
      simp only [hclosed, hw, ha]

/-- R56, R74: what a close with SHORT writes: the block's slot, and the free list's head where the next block opens. -/
theorem closeShort_dram : (s.closeShort i).spill.dram = (s.closeOpen i Flag.short none).spill.dram ∨
    ∃ w n, (s.stream i).window = some w ∧ s.spill.freeList.head? = some n ∧
      SameOutside n (s.closeOpen i Flag.short none).spill.dram (s.closeShort i).spill.dram := by
  rcases closeShort_cases s i with ⟨-, h⟩ | ⟨w, n, u, hw, hu, h⟩ | ⟨w, -, h⟩
  · rw [h]
    exact .inl rfl
  · obtain ⟨hfree, -, -, -, hdram, -⟩ := State.allocate_some hu
    rw [State.closeOpen_freeList] at hfree
    refine .inr ⟨w, n, hw, by rw [hfree]; rfl, ?_⟩
    have hopen := openCarrying_sameOutside u i n w.firstIndex true
    rwa [hdram, ← h] at hopen
  · rw [h, enterLossy_eq]
    exact .inl rfl

section
variable {b : OpenBlock} (hb : (s.stream i).openBlock = some b)
include hb

/-- R74, R75: the open block joins the send queue. -/
theorem closeShort_queued : ((s.closeShort i).stream i).sendQueue = (s.stream i).sendQueue ++ [b.slot] ∧
    ((s.closeShort i).stream i).counts.closed = (s.stream i).counts.closed + 1 := by
  have hself := State.closeOpen_stream_self hb Flag.short none
  rcases closeShort_cases s i with ⟨-, h⟩ | ⟨w, n, u, -, hu, h⟩ | ⟨w, -, h⟩
  · rw [h, hself]
    exact ⟨rfl, rfl⟩
  · obtain ⟨-, -, hstream, -⟩ := State.allocate_some hu
    rw [h, State.openCarrying_stream_self, hstream, hself]
    exact ⟨rfl, rfl⟩
  · rw [h, hself]
    unfold State.enterLossy
    rw [State.raise_stream, State.setStream_stream_self, State.setStream_stream_self]
    exact ⟨rfl, rfl⟩

/-- R74, R75: with an empty window no block is then open. -/
theorem closeShort_bare (hw : (s.stream i).window = none) : ((s.closeShort i).stream i).openBlock = none ∧
    ((s.closeShort i).stream i).interimTimer = .stopped ∧ (s.closeShort i).report = s.report := by
  rcases closeShort_cases s i with ⟨-, h⟩ | ⟨w, _, _, hw', -⟩ | ⟨w, hw', -⟩
  · rw [h, State.closeOpen_stream_self hb]
    exact ⟨rfl, rfl, State.closeOpen_report _ _ _ _⟩
  · rw [hw] at hw'; cases hw'
  · rw [hw] at hw'; cases hw'

/-- R56, R74: with a window in progress the next block, or a loss, begins with the window's first input. -/
theorem closeShort_window {w : Window} (hw : (s.stream i).window = some w) :
    (∃ c, ((s.closeShort i).stream i).openBlock = some c ∧ c.header.firstIndex = w.firstIndex ∧ c.points = 0 ∧
      ((s.closeShort i).stream i).window = some w ∧ ((s.closeShort i).stream i).loss = none) ∨
    (∃ l, ((s.closeShort i).stream i).loss = some l ∧ l.record.first = w.firstIndex ∧ l.record.count = w.count ∧
      ((s.closeShort i).stream i).window = none ∧ ((s.closeShort i).stream i).openBlock = none ∧
      ((s.closeShort i).stream i).counts.lost = (s.stream i).counts.lost + BitVec.ofNat 64 w.count) := by
  have hself := State.closeOpen_stream_self hb Flag.short none
  rcases closeShort_cases s i with ⟨hw', -⟩ | ⟨w', n, u, hw', hu, h⟩ | ⟨w', hw', h⟩ <;> rw [hw] at hw' <;> cases hw'
  · obtain ⟨-, -, hstream, -⟩ := State.allocate_some hu
    refine .inl ⟨_, by rw [h]; exact openCarrying_openBlock _ _ _ _ _, rfl, rfl, ?_, ?_⟩
    · rw [h, State.openCarrying_stream_self, hstream, hself, ← hw]
      rfl
    · rw [h, State.openCarrying_stream_self]
      rfl
  · refine .inr ⟨_, by rw [h]; unfold State.enterLossy; rw [State.raise_stream, State.setStream_stream_self], rfl, rfl, ?_⟩
    rw [h, hself]
    unfold State.enterLossy
    rw [State.raise_stream, State.setStream_stream_self, State.setStream_stream_self]
    exact ⟨rfl, rfl, rfl⟩

/-- R71, R74: the stored header of the block that closed carries SHORT. -/
theorem closeShort_flags (hm : MemoryCanonical s)
    (hapart : (s.stream i).window = none ∨ s.spill.freeList.head? ≠ some b.slot) :
    imageFlags ((s.closeShort i).storedBytes b.slot 64) = (b.header.flags ||| Flag.short) := by
  have hclosed := closeOpen_flags hb Flag.short none hm
  have hnone : Flag.when (none : Option GapSection).isSome Flag.gapSection = 0#16 := rfl
  rw [hnone, BitVec.or_zero] at hclosed
  rw [← hclosed]
  refine congrArg imageFlags ?_
  rcases closeShort_dram (s := s) (i := i) with h | ⟨w, n, hw, hn, h⟩
  · exact congrArg (fun m => Memory.readAll m (slotAddress b.slot) 64) h
  · refine storedBytes_of_sameOutside h (fun e => ?_) (by decide)
    rcases hapart with hnone | hne
    · rw [hnone] at hw; cases hw
    · exact hne (by rw [hn, e])

theorem closeShort_read (hfit : headerLength b.gap + b.payload.length ≤ 65536) {a : Nat} (ha : ¬ InSlot b.slot a)
    (hnext : (s.stream i).window = none ∨ ∀ n, s.spill.freeList.head? = some n → ¬ InSlot n a) :
    (s.closeShort i).spill.dram.read a = s.spill.dram.read a := by
  rw [← closeOpen_sameOutside hb Flag.short none hfit a ha]
  rcases closeShort_dram (s := s) (i := i) with h | ⟨w, n, hw, hn, h⟩
  · rw [h]
  · refine h a ?_
    rcases hnext with hnone | hout
    · rw [hnone] at hw; cases hw
    · exact hout n hn

end

theorem closeShort_frame (s : State) (i : StreamId) : s.closeShort i = { s with
    streams := (s.closeShort i).streams, groups := (s.closeShort i).groups, ops := (s.closeShort i).ops
    spill := (s.closeShort i).spill, report := (s.closeShort i).report } := State.eq_of_rest (State.closeShort_rest s i)

end Sys2Proof.Machine

namespace Sys2Proof

open Machine Safety

/-- Settles O17: the close with SHORT of a block that holds a point, and no effect without one. -/
theorem flushStreamClosesABlockThatHoldsPoints : Obligations.FlushStreamClosesABlockThatHoldsPoints := by
  intro s d i sub hd hi hphase
  have hrunning : (s.stream i).phase.isRunning = true := by
    rw [hphase]
    rfl
  refine ⟨fun b hb hpoints => ⟨s.closeShort i, ?_, (closeShort_queued hb).1, (closeShort_queued hb).2, closeShort_bare hb,
    fun hfit => ⟨closeShort_flags hb, fun a => closeShort_read hb hfit⟩,
    fun j hj => State.closeShort_stream_other _ _ hj, closeShort_frame s i⟩, fun hempty => ?_⟩
  · have hflush : (s.stream i).flushable = some b := by
      unfold Stream.flushable
      rw [hb, Option.filter_some, if_pos (by simpa using hpoints)]
    have heffect : flushStreamEffect i s = (s.closeShort i, ⟨.done, leBytes 1 1 ++ leBytes 4 b.header.sequence.toNat⟩) := by
      simp only [flushStreamEffect, if_pos hrunning, hflush]
    rw [exec_flushStream hi, heffect, directive_done hd (.inl rfl)]
  · have hflush : (s.stream i).flushable = none := by
      unfold Stream.flushable
      cases hb : (s.stream i).openBlock with
      | none => rfl
      | some b => rw [Option.filter_some, if_neg (by simp [hempty b hb])]
    have heffect : flushStreamEffect i s = (s, ⟨.done, leBytes 1 0 ++ leBytes 4 0⟩) := by
      simp only [flushStreamEffect, if_pos hrunning, hflush]
    rw [exec_flushStream hi, heffect, directive_done hd (.inl rfl)]

/-- Settles O45: an expiry that takes place, by whether the open block holds a point. -/
theorem interimExpiryClosesOrRestarts : Obligations.InterimExpiryClosesOrRestarts := by
  refine ⟨fun s i n h => ?_, fun s i b htimer hb => ⟨fun hpoints => ?_, fun hpoints => ⟨s.closeShort i, ?_,
    (closeShort_queued hb).1, (closeShort_queued hb).2, fun hw => ?_, fun w hw _ => closeShort_window hb hw,
    fun hfit => ⟨closeShort_flags hb, fun a => closeShort_read hb hfit⟩,
    fun j hj => State.closeShort_stream_other _ _ hj, closeShort_frame s i⟩⟩⟩
  · have hnot : (s.stream i).interimTimer.ranOut = false := by
      rcases h with h | h <;> rw [h] <;> rfl
    simp only [exec, execInterimTimerExpiry, hnot, Bool.not_false, if_true]
  · have hran : (s.stream i).interimTimer.ranOut = true := by rw [htimer]; rfl
    have hnone : ¬ 1 ≤ b.points := by omega
    simp only [exec, execInterimTimerExpiry, hran, hb, Bool.not_true, Bool.false_eq_true, if_false, if_neg hnone]
    rfl
  · have hran : (s.stream i).interimTimer.ranOut = true := by rw [htimer]; rfl
    simp only [exec, execInterimTimerExpiry, hran, hb, Bool.not_true, Bool.false_eq_true, if_false, if_pos hpoints]
  · obtain ⟨h1, h2, -⟩ := closeShort_bare hb hw
    exact ⟨h1, h2⟩

end Sys2Proof
end

section
/-! PROOFS. The end of a run: its last block, CLOSE STREAM and CLOSE GROUP. -/

-- One theorem at a time: the stacks of a thread each would exceed the memory of the check.
set_option Elab.async false

namespace Sys2Proof.Machine

open Sys2Proof.Safety

variable {s : State} {i : StreamId} {slot : Nat}

/-! ## The END block (R76) -/

theorem closeOpen_ops {b : OpenBlock} (hb : (s.stream i).openBlock = some b) (f : BitVec 16) (t : Option GapSection) :
    (s.closeOpen i f t).ops = verifiesBegun b.slot s.ops := by
  unfold State.closeOpen
  simp only [hb, beginVerifies_ops, State.setStream_ops, State.changeRecord_ops, State.writeLines_ops]

theorem openEndBlock_ops (s : State) (i : StreamId) (slot : Nat) : (s.openEndBlock i slot).ops = verifiesBegun slot s.ops := by
  unfold State.openEndBlock
  rw [closeOpen_ops (openCarrying_openBlock _ _ _ _ _), State.openCarrying_ops]
  rfl

/-- R76: what the END block leaves of its stream. -/
theorem openEndBlock_stream (s : State) (i : StreamId) (slot : Nat) : ∃ prev, (s.openEndBlock i slot).stream i =
    { s.stream i with
      loss := none, awaiting := none, openBlock := none, interimTimer := .stopped
      nextSeq := (s.stream i).nextSeq + 1, gaveSeq := true, prevStart := prev, firstMark := false, lateStart := false
      counts := { (s.stream i).counts with closed := (s.stream i).counts.closed + 1 }
      sendQueue := (s.stream i).sendQueue ++ [slot] } := by
  unfold State.openEndBlock
  rw [State.closeOpen_stream_self (openCarrying_openBlock _ _ _ _ _), State.openCarrying_stream_self]
  exact ⟨_, rfl⟩

/-- R71, R76: a block that closes at a run's end carries END_OF_STREAM. -/
theorem closeOpen_endOfStream {b : OpenBlock} (hb : (s.stream i).openBlock = some b) (hm : MemoryCanonical s) :
    (imageFlags ((s.closeOpen i Flag.endOfStream none).storedBytes b.slot 64)).getLsbD 10 = true := by
  rw [closeOpen_flags hb _ _ hm]
  simp [Flag.endOfStream]

theorem openEndBlock_endOfStream (hm : MemoryCanonical s) (i : StreamId) (slot : Nat) :
    (imageFlags ((s.openEndBlock i slot).storedBytes slot 64)).getLsbD 10 = true := by
  have h := closeOpen_endOfStream (openCarrying_openBlock s i slot (s.stream i).endIndex false)
    (openCarrying_canonical hm slot (s.stream i).endIndex false)
  unfold State.openEndBlock
  exact h

/-! ## The end of a run (R10) -/

/-- R10, R59, R105: the state in which the run of a stream that closes meets its last block. -/
def atRunEnd (s : State) (i : StreamId) : State :=
  ((s.setStream i { s.stream i with phase := .closing false, resync := none }).judgeFor i).emitPartial i

theorem closeRun_eq (s : State) (i : StreamId) : s.closeRun i = (atRunEnd s i).endRun i := rfl

/-- R10: the slot in which a run's last block closes: the open block's, or else the free list's head. -/
def lastSlot (s : State) (i : StreamId) : Option Nat :=
  match (s.stream i).openBlock with
  | some b => some b.slot
  | none => s.spill.freeList.head?

theorem lastSlot_of_some {b : OpenBlock} (hb : (s.stream i).openBlock = some b) : lastSlot s i = some b.slot := by
  simp only [lastSlot, hb]

theorem lastSlot_of_none (hb : (s.stream i).openBlock = none) : lastSlot s i = s.spill.freeList.head? := by
  simp only [lastSlot, hb]

theorem lastSlot_eq_none : lastSlot s i = none ↔ (s.stream i).openBlock = none ∧ s.spill.freeList = [] := by
  cases hb : (s.stream i).openBlock with
  | none => simp [lastSlot_of_none hb]
  | some b => simp [lastSlot_of_some hb]

theorem atRunEnd_stream (s : State) (i : StreamId) : ∃ b points, (atRunEnd s i).stream i = { s.stream i with
    phase := .closing false, resync := none, window := none, openBlock := b
    counts := { (s.stream i).counts with points := points } } ∧
      b.map OpenBlock.slot = (s.stream i).openBlock.map OpenBlock.slot := by
  obtain ⟨b, points, hstream, hslot⟩ := State.emitPartial_stream_self
    ((s.setStream i { s.stream i with phase := .closing false, resync := none }).judgeFor i) i
  rw [State.judgeFor_stream, State.setStream_stream_self] at hstream hslot
  exact ⟨b, points, hstream, hslot⟩

theorem emitPartial_ops (s : State) (i : StreamId) : (s.emitPartial i).ops = s.ops := by
  unfold State.emitPartial
  split
  · unfold State.emitWindow
    dsimp only
    split
    · rw [if_neg (by simp), State.writeFilledLine_ops]
      rfl
    · rfl
  · rfl

theorem atRunEnd_ops (s : State) (i : StreamId) : (atRunEnd s i).ops = s.ops := emitPartial_ops _ _

theorem atRunEnd_freeList (s : State) (i : StreamId) : (atRunEnd s i).spill.freeList = s.spill.freeList :=
  State.emitPartial_freeList _ _

theorem atRunEnd_endWaits (s : State) (i : StreamId) : (atRunEnd s i).spill.endWaits = s.spill.endWaits :=
  State.emitPartial_endWaits _ _

theorem lastSlot_atRunEnd (s : State) (i : StreamId) : lastSlot (atRunEnd s i) i = lastSlot s i := by
  obtain ⟨b, points, hstream, hslot⟩ := atRunEnd_stream s i
  have hopen : ((atRunEnd s i).stream i).openBlock = b := by rw [hstream]
  cases hb : (s.stream i).openBlock with
  | none =>
    rw [hb] at hslot
    rw [lastSlot_of_none hb, lastSlot_of_none (hopen.trans (Option.map_eq_none_iff.1 hslot)), atRunEnd_freeList]
  | some c =>
    rw [hb] at hslot
    obtain ⟨d, rfl, hd⟩ := Option.map_eq_some_iff.1 hslot
    rw [lastSlot_of_some hb, lastSlot_of_some hopen, hd]

/-- R55: where no block is open, a partial point is placed nowhere. -/
theorem emitPartial_closed (hb : (s.stream i).openBlock = none) : (s.emitPartial i).spill = s.spill := by
  unfold State.emitPartial
  split
  · simp [State.emitWindow, hb]
  · rfl

theorem endRun_wait (h : lastSlot s i = none) :
    s.endRun i = s.setSpill { s.spill with endWaits := s.spill.endWaits ++ [i] } := by
  obtain ⟨hb, hfree⟩ := lastSlot_eq_none.1 h
  have ha : s.allocate i false = none := State.allocate_eq_none.2 (.inl hfree)
  simp only [State.endRun, hb, Option.isSome_none, Bool.false_eq_true, if_false, ha]

theorem endRun_open {b : OpenBlock} (hb : (s.stream i).openBlock = some b) :
    s.endRun i = s.closeOpen i Flag.endOfStream none := by
  simp only [State.endRun, hb, Option.isSome_some, if_true]

theorem endRun_granted {rest : List Nat} (hb : (s.stream i).openBlock = none) (hfree : s.spill.freeList = slot :: rest) :
    ∃ u, s.allocate i false = some (slot, u) ∧ u.spill.freeList = rest ∧ s.endRun i = u.openEndBlock i slot := by
  obtain ⟨u, hu, hrest⟩ := allocate_granted (i := i) (ordinary := false) hfree nofun
  refine ⟨u, hu, hrest, ?_⟩
  simp only [State.endRun, hb, Option.isSome_none, Bool.false_eq_true, if_false, hu]

/-- R10: a run that ends, by its last block or the END-slot wait. -/
theorem endRun_cases (s : State) (i : StreamId) : (lastSlot s i = none ∧
      s.endRun i = s.setSpill { s.spill with endWaits := s.spill.endWaits ++ [i] }) ∨
    (∃ b, (s.stream i).openBlock = some b ∧ s.endRun i = s.closeOpen i Flag.endOfStream none) ∨
    ∃ n rest u, (s.stream i).openBlock = none ∧ s.spill.freeList = n :: rest ∧ s.allocate i false = some (n, u) ∧
      u.spill.freeList = rest ∧ s.endRun i = u.openEndBlock i n := by
  cases hb : (s.stream i).openBlock with
  | some b => exact .inr (.inl ⟨b, rfl, endRun_open hb⟩)
  | none =>
    cases hfree : s.spill.freeList with
    | nil => exact .inl ⟨lastSlot_eq_none.2 ⟨hb, hfree⟩, endRun_wait (lastSlot_eq_none.2 ⟨hb, hfree⟩)⟩
    | cons n rest =>
      obtain ⟨u, hu, hrest, h⟩ := endRun_granted hb hfree
      exact .inr (.inr ⟨n, rest, u, rfl, rfl, hu, hrest, h⟩)

/-- What a run's end leaves of its stream's context. -/
def Stream.named (x : Machine.Stream) : Phase × Option Window × Option HeldResync × BitVec 8 × BitVec 32 × StreamConfig :=
  (x.phase, x.window, x.resync, x.runNumber, x.segment, x.cfg)

theorem endRun_named (s : State) (i : StreamId) : ((s.endRun i).stream i).named = (s.stream i).named ∧
    ((s.endRun i).stream i).openBlock = none := by
  rcases endRun_cases s i with ⟨hnone, h⟩ | ⟨b, hb, h⟩ | ⟨n, rest, u, hb, -, hu, -, h⟩ <;> rw [h]
  · exact ⟨rfl, (lastSlot_eq_none.1 hnone).1⟩
  · rw [State.closeOpen_stream_self hb]
    exact ⟨rfl, rfl⟩
  · obtain ⟨-, -, hstream, -⟩ := State.allocate_some hu
    obtain ⟨prev, hend⟩ := openEndBlock_stream u i n
    rw [hend, hstream]
    exact ⟨rfl, rfl⟩

/-- R10: what a run's end leaves: CLOSING, with no window and no open block. -/
theorem closeRun_stream (s : State) (i : StreamId) : ((s.closeRun i).stream i).phase = .closing false ∧
    ((s.closeRun i).stream i).window = none ∧ ((s.closeRun i).stream i).resync = none ∧
    ((s.closeRun i).stream i).runNumber = (s.stream i).runNumber ∧
    ((s.closeRun i).stream i).segment = (s.stream i).segment ∧ ((s.closeRun i).stream i).cfg = (s.stream i).cfg ∧
    ((s.closeRun i).stream i).openBlock = none := by
  obtain ⟨b, points, hstream, -⟩ := atRunEnd_stream s i
  obtain ⟨hnamed, hopen⟩ := endRun_named (atRunEnd s i) i
  rw [hstream] at hnamed
  simp only [Stream.named, Prod.mk.injEq] at hnamed
  obtain ⟨h1, h2, h3, h4, h5, h6⟩ := hnamed
  exact ⟨h1, h2, h3, h4, h5, h6, hopen⟩

/-- R99: a run's last block lets the verifies of its slot begin. -/
theorem endRun_ops (s : State) (i : StreamId) :
    (s.endRun i).ops = ((lastSlot s i).map (verifiesBegun · s.ops)).getD s.ops := by
  rcases endRun_cases s i with ⟨hnone, h⟩ | ⟨b, hb, h⟩ | ⟨n, rest, u, hb, hfree, hu, -, h⟩ <;> rw [h]
  · rw [hnone]
    rfl
  · rw [lastSlot_of_some hb, closeOpen_ops hb]
    rfl
  · obtain ⟨-, -, -, -, -, -, -, hops, -⟩ := State.allocate_some hu
    rw [lastSlot_of_none hb, hfree, openEndBlock_ops, hops]
    rfl

theorem closeRun_ops (s : State) (i : StreamId) :
    (s.closeRun i).ops = ((lastSlot s i).map (verifiesBegun · s.ops)).getD s.ops := by
  rw [closeRun_eq, endRun_ops, lastSlot_atRunEnd, atRunEnd_ops]

/-- R10, R76: a run's last block joins the send queue. -/
theorem closeRun_last (h : lastSlot s i = some slot) :
    ((s.closeRun i).stream i).sendQueue = (s.stream i).sendQueue ++ [slot] ∧
    ((s.closeRun i).stream i).counts.closed = (s.stream i).counts.closed + 1 ∧
    (s.closeRun i).spill.endWaits = s.spill.endWaits := by
  obtain ⟨c, points, hstream, -⟩ := atRunEnd_stream s i
  have hlast := (lastSlot_atRunEnd s i).trans h
  have hwaits := atRunEnd_endWaits s i
  rw [closeRun_eq]
  rcases endRun_cases (atRunEnd s i) i with ⟨hnone, -⟩ | ⟨b, hb, he⟩ | ⟨n, rest, u, hb, hfree, hu, -, he⟩
  · rw [hnone] at hlast; cases hlast
  · obtain rfl : b.slot = slot := Option.some.inj ((lastSlot_of_some hb).symm.trans hlast)
    rw [he, State.closeOpen_endWaits, State.closeOpen_stream_self hb, hstream]
    exact ⟨rfl, rfl, hwaits⟩
  · obtain ⟨-, -, hself, hendWaits, -⟩ := State.allocate_some hu
    obtain ⟨prev, hend⟩ := openEndBlock_stream u i n
    obtain rfl : n = slot := by
      rw [lastSlot_of_none hb, hfree] at hlast
      exact Option.some.inj hlast
    rw [he, State.openEndBlock_endWaits, hend, hself, hstream]
    exact ⟨rfl, rfl, hendWaits.trans hwaits⟩

/-- R112: the END block that opens ends a loss. -/
theorem closeRun_loss {rest : List Nat} (hb : (s.stream i).openBlock = none) (hfree : s.spill.freeList = slot :: rest) :
    ((s.closeRun i).stream i).loss = none := by
  obtain ⟨c, points, hstream, hslot⟩ := atRunEnd_stream s i
  have hc : ((atRunEnd s i).stream i).openBlock = none := by
    rw [hstream]
    rw [hb] at hslot
    exact Option.map_eq_none_iff.1 hslot
  obtain ⟨u, -, -, h⟩ := endRun_granted hc ((atRunEnd_freeList s i).trans hfree)
  obtain ⟨prev, hend⟩ := openEndBlock_stream u i slot
  rw [closeRun_eq, h, hend]

/-- R76: without an open block and a free slot the END-slot wait begins. -/
theorem closeRun_wait (h : lastSlot s i = none) :
    (s.closeRun i).spill = { s.spill with endWaits := s.spill.endWaits ++ [i] } ∧
    ((s.closeRun i).stream i).counts.closed = (s.stream i).counts.closed := by
  obtain ⟨c, points, hstream, -⟩ := atRunEnd_stream s i
  have hspill : (atRunEnd s i).spill = s.spill := by
    unfold atRunEnd
    rw [emitPartial_closed]
    · rfl
    · rw [State.judgeFor_stream, State.setStream_stream_self]
      exact (lastSlot_eq_none.1 h).1
  rw [closeRun_eq, endRun_wait ((lastSlot_atRunEnd s i).trans h), State.setSpill_spill, hspill, State.setSpill_stream,
    hstream]
  exact ⟨rfl, rfl⟩

/-- R10, R71: a run's last block carries END_OF_STREAM, and is written within its slot. -/
theorem closeRun_memory (h : lastSlot s i = some slot) (hm : MemoryCanonical s)
    (hfit : ∀ b, (s.stream i).openBlock = some b → headerLength b.gap + b.payload.length + 4 ≤ 65536) :
    (imageFlags ((s.closeRun i).storedBytes slot 64)).getLsbD 10 = true ∧
    SameOutside slot s.spill.dram (s.closeRun i).spill.dram := by
  let u := (s.setStream i { s.stream i with phase := .closing false, resync := none }).judgeFor i
  have hu : u.stream i = { s.stream i with phase := .closing false, resync := none } := by
    rw [State.judgeFor_stream, State.setStream_stream_self]
  have hmu : MemoryCanonical (atRunEnd s i) := emitPartial_canonical (s := u) (i := i) hm
  rw [closeRun_eq]
  cases hb : (s.stream i).openBlock with
  | some b =>
    obtain rfl : b.slot = slot := Option.some.inj ((lastSlot_of_some hb).symm.trans h)
    have hub : (u.stream i).openBlock = some b := by rw [hu]; exact hb
    have hopen := emitPartial_openBlock hub
    have hflags := closeOpen_endOfStream hopen hmu
    have hclose := closeOpen_sameOutside hopen Flag.endOfStream none (withPartial_fits (u.stream i) (hfit b hb))
    have hpartial := emitPartial_sameOutside hub (hfit b hb)
    rw [withPartial_slot] at hflags hclose
    have hend : (atRunEnd s i).endRun i = (u.emitPartial i).closeOpen i Flag.endOfStream none := endRun_open hopen
    rw [hend]
    exact ⟨hflags, sameOutside_trans hpartial hclose⟩
  | none =>
    have hub : (u.stream i).openBlock = none := by rw [hu]; exact hb
    have hspill : (atRunEnd s i).spill = s.spill := emitPartial_closed hub
    have hlast := (lastSlot_atRunEnd s i).trans h
    rcases endRun_cases (atRunEnd s i) i with ⟨hnone, -⟩ | ⟨c, hc, -⟩ | ⟨n, rest, v, hc, hfree, hv, -, he⟩
    · rw [hnone] at hlast; cases hlast
    · obtain ⟨c', points, hstream, hslot⟩ := atRunEnd_stream s i
      rw [hstream] at hc
      rw [hb, show c' = some c from hc] at hslot
      cases hslot
    · obtain ⟨-, -, -, -, hdram, -⟩ := State.allocate_some hv
      obtain rfl : n = slot := by
        rw [lastSlot_of_none hc, hfree] at hlast
        exact Option.some.inj hlast
      have hmv : MemoryCanonical v := by
        unfold MemoryCanonical
        rwa [hdram]
      have hout := openEndBlock_sameOutside v i n
      rw [hdram, hspill] at hout
      rw [he]
      exact ⟨openEndBlock_endOfStream hmv i n, hout⟩

/-- R105: the end of a run judges its own group alone. -/
theorem closeRun_group {g : GroupId} (hg : g ≠ (s.stream i).cfg.group) : (s.closeRun i).group g = s.group g := by
  obtain ⟨c, points, hstream, -⟩ := atRunEnd_stream s i
  have hat : (atRunEnd s i).group g = s.group g := by
    have hcfg : ((s.setStream i { s.stream i with phase := .closing false, resync := none }).stream i).cfg.group =
        (s.stream i).cfg.group := by rw [State.setStream_stream_self]
    unfold atRunEnd State.group
    rw [State.emitPartial_groups]
    unfold State.judgeFor State.judge
    rw [hcfg]
    exact State.setGroup_group_other _ _ hg
  rw [closeRun_eq, ← hat]
  rcases endRun_cases (atRunEnd s i) i with ⟨-, h⟩ | ⟨b, -, h⟩ | ⟨n, rest, u, -, -, hu, -, h⟩ <;> rw [h]
  · rfl
  · unfold State.group
    rw [State.closeOpen_groups]
  · obtain ⟨-, -, -, -, -, -, -, -, -, hgroups⟩ := State.allocate_some hu
    rw [hstream] at hgroups
    rw [← hgroups g hg]
    unfold State.group
    rw [State.openEndBlock_groups]

end Sys2Proof.Machine
end

section
/-! PROOFS. CLOSE STREAM, and CLOSE GROUP member by member. -/

-- One theorem at a time: the stacks of a thread each would exceed the memory of the check.
set_option Elab.async false

namespace Sys2Proof.Machine

open Sys2Proof.Safety

variable {s : State} {d : Directive} {i : StreamId}

theorem verifiesBegun_append (n : Nat) (l m : List PendingOp) :
    verifiesBegun n (l ++ m) = verifiesBegun n l ++ verifiesBegun n m := List.map_append

theorem enterOp_ops (s : State) (d : Directive) (k : OpKind) :
    (s.enterOp d k).ops = s.ops ++ [⟨d.tag, wantsReply d, k, none⟩] := rfl

/-- R9: CLOSE STREAM of a RUNNING stream, with room in the list. -/
theorem exec_closeStream_running {sub : SubState} (hd : Carries s d 1) (hi : byteAt d.params 0 = BitVec.ofNat 8 i.val)
    (hphase : (s.stream i).phase = .running sub) (hroom : s.ops.length < 4) : exec (.closeStream d) s = .next
      { (s.enterOp d (.close i)).closeRun i with
        report := answeredDone ((s.enterOp d (.close i)).closeRun i).report 0x12 d .accepted [] } := by
  have hnot : ¬ s.opsFull = true := fun h => absurd (opsFull_iff.1 h) (by omega)
  have heffect : closeStreamEffect i d s = ((s.enterOp d (.close i)).closeRun i, plain .accepted) := by
    simp only [closeStreamEffect, hphase, if_neg hnot]
  rw [exec_closeStream hi, heffect, plain, directive_done hd (.inr rfl)]

end Sys2Proof.Machine

namespace Sys2Proof

open Machine Safety

/-- Settles O14: an ARMED stream is IDLE at once; a RUNNING one ends with its last block, or begins the END-slot wait. -/
theorem closeStreamEndsTheRun : Obligations.CloseStreamEndsTheRun := by
  intro s d i hd hi
  refine ⟨fun how hphase => ?_, fun sub hphase hroom => ?_⟩
  · have heffect : closeStreamEffect i d s = (s.enterIdle i false, plain .done) := by
      simp only [closeStreamEffect, hphase]
    refine ⟨_, by rw [exec_closeStream hi, heffect, plain, directive_done hd (.inl rfl)], ?_, rfl⟩
    exact List.length_map ..
  · let u := s.enterOp d (.close i)
    obtain ⟨h1, h2, h3, h4, h5, h6, h7⟩ := closeRun_stream u i
    have hops := closeRun_ops u i
    have hlastSlot : lastSlot u i = lastSlot s i := rfl
    refine ⟨_, (lastSlot s i).getD 0, exec_closeStream_running hd hi hphase hroom, h1, h2, h7, h3, h4, h5, h6, fun j hj => ?_,
      fun g hg => closeRun_group (s := u) hg, ?_, ?_, ?_⟩
    · exact (State.closeRun_stream_other u _ hj).trans (State.enterOp_stream s _ _ j)
    · show (u.closeRun i).ops.length = _
      rw [hops]
      cases lastSlot u i with
      | none => exact List.length_append
      | some n => exact (List.length_map _).trans List.length_append
    · by_cases hwait : (s.stream i).openBlock = none ∧ s.spill.freeList = []
      · rw [if_pos hwait]
        have hnone : lastSlot u i = none := lastSlot_eq_none.2 hwait
        obtain ⟨h8, h9⟩ := closeRun_wait hnone
        rw [hnone] at hops
        exact ⟨h8, h9, hops⟩
      · rw [if_neg hwait]
        obtain ⟨slot, hslot⟩ := Option.ne_none_iff_exists'.1 fun h => hwait (lastSlot_eq_none.1 h)
        obtain ⟨h8, h9, h10⟩ := closeRun_last (s := u) hslot
        rw [hlastSlot, hslot] at hops
        rw [hslot]
        refine ⟨hops.trans (verifiesBegun_append _ _ _), h10, fun b hb => ?_, fun hb => ⟨?_, ?_⟩, h8, h9,
          fun hm hfit => closeRun_memory (s := u) hslot hm hfit⟩
        · rw [lastSlot_of_some hb] at hslot
          exact (Option.some.inj hslot).symm
        · exact (lastSlot_of_none hb).symm.trans hslot
        · rw [lastSlot_of_none hb] at hslot
          obtain ⟨rest, hfree⟩ := List.head?_eq_some_iff.1 hslot
          exact closeRun_loss (s := u) hb hfree
    · have hrest : (u.closeRun i).rest = s.rest := State.closeRun_rest u i
      conv_lhs => rw [State.eq_of_rest hrest]

end Sys2Proof

namespace Sys2Proof.Machine

open Sys2Proof.Safety

variable {s : State} {d : Directive} {i : StreamId}

/-! ## CLOSE GROUP's act on one member (R18) -/

/-- R99: a pending operation after the block of a slot has closed. -/
def begunBy (slot : Nat) (o : PendingOp) : PendingOp :=
  match o.kind with
  | .verify i n reading => { o with kind := .verify i n (reading || n == slot) }
  | _ => o

theorem verifiesBegun_eq (slot : Nat) (ops : List PendingOp) : verifiesBegun slot ops = ops.map (begunBy slot) := by
  unfold verifiesBegun
  refine List.map_congr_left fun o _ => ?_
  obtain ⟨tag, reply, kind, ended⟩ := o
  cases kind <;> rfl

theorem closeMember_armed {how : Arming} (h : (s.stream i).phase = .armed how) : s.closeMember i = s.enterIdle i false := by
  simp only [State.closeMember, h]

theorem closeMember_running {sub : SubState} (h : (s.stream i).phase = .running sub) : s.closeMember i = s.closeRun i := by
  simp only [State.closeMember, h]

theorem closeMember_other (h : (∀ how, (s.stream i).phase ≠ .armed how) ∧ ∀ sub, (s.stream i).phase ≠ .running sub) :
    s.closeMember i = s := by
  unfold State.closeMember
  split
  · next e => exact absurd e (h.1 _)
  · next e => exact absurd e (h.2 _)
  · rfl

/-- R18: a member ARMED, a member RUNNING, and any other. -/
theorem closeMember_cases (s : State) (i : StreamId) :
    (∃ how, (s.stream i).phase = .armed how ∧ s.closeMember i = s.enterIdle i false) ∨
    (∃ sub, (s.stream i).phase = .running sub ∧ s.closeMember i = s.closeRun i) ∨
    ((∀ how, (s.stream i).phase ≠ .armed how) ∧ (∀ sub, (s.stream i).phase ≠ .running sub) ∧ s.closeMember i = s) := by
  by_cases ha : ∃ how, (s.stream i).phase = .armed how
  · obtain ⟨how, h⟩ := ha
    exact .inl ⟨how, h, closeMember_armed h⟩
  · by_cases hr : ∃ sub, (s.stream i).phase = .running sub
    · obtain ⟨sub, h⟩ := hr
      exact .inr (.inl ⟨sub, h, closeMember_running h⟩)
    · exact .inr (.inr ⟨not_exists.1 ha, not_exists.1 hr, closeMember_other ⟨not_exists.1 ha, not_exists.1 hr⟩⟩)

theorem closeMember_rest (s : State) (i : StreamId) : (s.closeMember i).rest = s.rest := by
  rcases closeMember_cases s i with ⟨_, -, h⟩ | ⟨_, -, h⟩ | ⟨-, -, h⟩ <;> rw [h]
  · exact State.enterIdle_rest s i false
  · exact State.closeRun_rest s i

theorem closeMember_stream_other {j : StreamId} (hj : j ≠ i) : (s.closeMember i).stream j = s.stream j := by
  rcases closeMember_cases s i with ⟨_, -, h⟩ | ⟨_, -, h⟩ | ⟨-, -, h⟩ <;> rw [h]
  · exact State.enterIdle_stream_other s _ _ hj
  · exact State.closeRun_stream_other s _ hj

/-- R18: the phase in which CLOSE GROUP leaves a member. -/
def phaseClosed : Phase → Phase
  | .armed _ => .idle
  | .running _ => .closing false
  | p => p

/-- R18: what CLOSE GROUP leaves of a member. -/
def ClosedFrom (x y : Machine.Stream) : Prop :=
  y.phase = phaseClosed x.phase ∧ y.cfg = x.cfg ∧ y.runNumber = x.runNumber ∧
    ∀ sub, x.phase = .running sub → y.window = none ∧ y.openBlock = none

theorem phaseClosed_other {p : Phase} (ha : ∀ how, p ≠ .armed how) (hr : ∀ sub, p ≠ .running sub) : phaseClosed p = p := by
  cases p with
  | armed how => exact absurd rfl (ha how)
  | running sub => exact absurd rfl (hr sub)
  | _ => rfl

theorem closeMember_stream (s : State) (i : StreamId) : ClosedFrom (s.stream i) ((s.closeMember i).stream i) := by
  rcases closeMember_cases s i with ⟨how, hp, h⟩ | ⟨sub, hp, h⟩ | ⟨ha, hr, h⟩ <;> rw [h]
  · have hself : (s.enterIdle i false).stream i = { s.stream i with phase := .idle } := State.setStream_stream_self s i _
    rw [hself]
    exact ⟨by rw [hp]; rfl, rfl, rfl, fun sub e => by rw [hp] at e; cases e⟩
  · obtain ⟨h1, h2, -, h4, -, h6, h7⟩ := closeRun_stream s i
    exact ⟨by rw [h1, hp]; rfl, h6, h4, fun _ _ => ⟨h2, h7⟩⟩
  · exact ⟨(phaseClosed_other ha hr).symm, rfl, rfl, fun sub e => absurd e (hr sub)⟩

/-- R85: the end of a run takes from the free list. -/
theorem closeRun_freeList {n : Nat} (h : n ∈ (s.closeRun i).spill.freeList) : n ∈ s.spill.freeList := by
  rw [closeRun_eq] at h
  rw [← atRunEnd_freeList s i]
  rcases endRun_cases (atRunEnd s i) i with ⟨-, e⟩ | ⟨b, -, e⟩ | ⟨m, rest, u, -, hfree, -, hrest, e⟩ <;> rw [e] at h
  · exact h
  · rwa [State.closeOpen_freeList] at h
  · rw [State.openEndBlock_freeList, hrest] at h
    rw [hfree]
    exact List.mem_cons_of_mem _ h

theorem closeMember_freeList {n : Nat} (h : n ∈ (s.closeMember i).spill.freeList) : n ∈ s.spill.freeList := by
  rcases closeMember_cases s i with ⟨_, -, e⟩ | ⟨_, -, e⟩ | ⟨-, -, e⟩ <;> rw [e] at h
  · exact h
  · exact closeRun_freeList h
  · exact h

/-- R18, R99: the members among whose open blocks one lies in the slot. -/
def ClosesIn (s : State) (l : List StreamId) (slot : Nat) : Prop :=
  ∃ m ∈ l, ∃ sub b, (s.stream m).phase = .running sub ∧ (s.stream m).openBlock = some b ∧ b.slot = slot

/-- R18: what the closing of the members `l` makes of the operations that stand in the list. -/
structure Tells (s : State) (l : List StreamId) (f : PendingOp → PendingOp) : Prop where
  tag : ∀ o, (f o).tag = o.tag
  reply : ∀ o, (f o).reply = o.reply
  close : ∀ o j, o.kind = .close j → f o = o
  groupClose : ∀ o g members waiting aborted, o.kind = .groupClose g members waiting aborted →
    (∀ j ∈ members, j ∈ l → ∀ how, (s.stream j).phase ≠ .armed how) → f o = o
  verify : ∀ o j slot reading, o.kind = .verify j slot reading → slot ∉ s.spill.freeList →
    ∃ begun, f o = { o with kind := .verify j slot begun } ∧ (begun = true ↔ reading = true ∨ ClosesIn s l slot)

theorem tells_nil (s : State) : Tells s [] id where
  tag _ := rfl
  reply _ := rfl
  close _ _ _ := rfl
  groupClose _ _ _ _ _ _ _ := rfl
  verify o j slot reading hk _ := by
    refine ⟨reading, by rw [← hk]; rfl, ?_⟩
    simp [ClosesIn]

theorem closesIn_single {slot : Nat} : ClosesIn s [i] slot ↔
    ∃ sub b, (s.stream i).phase = .running sub ∧ (s.stream i).openBlock = some b ∧ b.slot = slot := by
  simp [ClosesIn]

/-- An operation is told nothing. -/
theorem tells_id (hn : ∀ slot, slot ∉ s.spill.freeList → ¬ ClosesIn s [i] slot) :
    Tells s [i] id where
  tag _ := rfl
  reply _ := rfl
  close _ _ _ := rfl
  groupClose _ _ _ _ _ _ _ := rfl
  verify o j slot reading hk hslot := ⟨reading, by rw [← hk]; rfl, by simp [hn slot hslot]⟩

theorem sawIdle_groupClose {o : PendingOp} {g : GroupId} {members waiting : List StreamId} {aborted : Bool}
    (hk : o.kind = .groupClose g members waiting aborted) (hi : i ∉ members) (byAbort : Bool) : o.sawIdle i byAbort = o := by
  have hnot : members.contains i = false := by simpa using hi
  simp only [PendingOp.sawIdle, hk, hnot, Bool.false_and, Bool.false_eq_true, if_false]

theorem sawIdle_other {o : PendingOp} (h : ∀ g members waiting aborted, o.kind ≠ .groupClose g members waiting aborted)
    (byAbort : Bool) : o.sawIdle i byAbort = o := by
  unfold PendingOp.sawIdle
  split
  · next hk => exact absurd hk (h _ _ _ _)
  · rfl

theorem sawIdle_tag (o : PendingOp) (i : StreamId) (byAbort : Bool) :
    (o.sawIdle i byAbort).tag = o.tag ∧ (o.sawIdle i byAbort).reply = o.reply := by
  unfold PendingOp.sawIdle
  split
  · split <;> exact ⟨rfl, rfl⟩
  · exact ⟨rfl, rfl⟩

/-- R18: what the closing of one member makes of the operations. -/
theorem closeMember_tells (s : State) (i : StreamId) :
    ∃ f, (s.closeMember i).ops = s.ops.map f ∧ Tells s [i] f := by
  rcases closeMember_cases s i with ⟨how, hp, h⟩ | ⟨sub, hp, h⟩ | ⟨ha, hr, h⟩ <;> rw [h]
  · refine ⟨fun o => o.sawIdle i false, rfl, fun o => (sawIdle_tag o i false).1, fun o => (sawIdle_tag o i false).2,
      fun o j hk => sawIdle_other (by rw [hk]; exact nofun) false,
      fun o g members waiting aborted hk harmed => sawIdle_groupClose hk (fun hi => ?_) false,
      fun o j slot reading hk _ => ⟨reading, ?_, ?_⟩⟩
    · exact harmed i hi List.mem_cons_self how hp
    · rw [sawIdle_other (by rw [hk]; exact nofun) false, ← hk]
    · rw [closesIn_single, hp]
      simp
  · rw [closeRun_ops]
    cases hlast : lastSlot s i with
    | none =>
      refine ⟨id, by simp, tells_id fun slot _ hc => ?_⟩
      obtain ⟨_, b, -, hb, -⟩ := closesIn_single.1 hc
      rw [lastSlot_of_some hb] at hlast
      cases hlast
    | some n =>
      refine ⟨begunBy n, verifiesBegun_eq _ _, fun o => ?_, fun o => ?_, fun o j hk => ?_,
        fun o g members waiting aborted hk _ => ?_, fun o j slot reading hk hslot => ⟨reading || slot == n, ?_, ?_⟩⟩
      · unfold begunBy; split <;> rfl
      · unfold begunBy; split <;> rfl
      · simp only [begunBy, hk]
      · simp only [begunBy, hk]
      · simp only [begunBy, hk]
      · rw [Bool.or_eq_true, beq_iff_eq, closesIn_single]
        refine or_congr_right ⟨fun e => ?_, fun ⟨_, b, _, hb, e⟩ => ?_⟩
        · subst e
          cases hb : (s.stream i).openBlock with
          | none =>
            rw [lastSlot_of_none hb] at hlast
            exact absurd (List.mem_of_mem_head? hlast) hslot
          | some b =>
            rw [lastSlot_of_some hb] at hlast
            exact ⟨sub, b, hp, rfl, Option.some.inj hlast⟩
        · rw [lastSlot_of_some hb] at hlast
          rw [← e]
          exact Option.some.inj hlast
  · exact ⟨id, by simp, tells_id fun slot _ hc => (closesIn_single.1 hc).elim fun sub hc => hc.elim fun _ hc => hr sub hc.1⟩

/-- One member after another. -/
theorem tells_cons {l : List StreamId} {f g : PendingOp → PendingOp} (hi : i ∉ l) (hf : Tells s [i] f)
    (hg : Tells (s.closeMember i) l g) : Tells s (i :: l) (g ∘ f) where
  tag o := (hg.tag _).trans (hf.tag o)
  reply o := (hg.reply _).trans (hf.reply o)
  close o j hk := by
    show g (f o) = o
    rw [hf.close o j hk, hg.close o j hk]
  groupClose o gr members waiting aborted hk ha := by
    have hfo := hf.groupClose o gr members waiting aborted hk fun j hj hji =>
      ha j hj (List.mem_cons.2 (.inl (List.mem_singleton.1 hji)))
    show g (f o) = o
    rw [hfo]
    refine hg.groupClose o gr members waiting aborted hk fun j hj hjl => ?_
    have hne : j ≠ i := fun e => hi (e ▸ hjl)
    rw [closeMember_stream_other hne]
    exact ha j hj (List.mem_cons_of_mem _ hjl)
  verify o j slot reading hk hslot := by
    obtain ⟨begun, hfo, hbegun⟩ := hf.verify o j slot reading hk hslot
    obtain ⟨begun', hgo, hbegun'⟩ := hg.verify (f o) j slot begun (by rw [hfo]) fun h => hslot (closeMember_freeList h)
    refine ⟨begun', by show g (f o) = _; rw [hgo, hfo], ?_⟩
    rw [hbegun', hbegun, or_assoc]
    refine or_congr_right ?_
    have hsame : ∀ m ∈ l, (s.closeMember i).stream m = s.stream m := fun m hm => closeMember_stream_other fun e => hi (e ▸ hm)
    constructor
    · rintro (⟨m, hm, h⟩ | ⟨m, hm, h⟩)
      · exact ⟨m, List.mem_cons.2 (.inl (List.mem_singleton.1 hm)), h⟩
      · rw [hsame m hm] at h
        exact ⟨m, List.mem_cons_of_mem _ hm, h⟩
    · rintro ⟨m, hm, h⟩
      rcases List.mem_cons.1 hm with rfl | hm
      · exact .inl ⟨m, List.mem_cons_self, h⟩
      · exact .inr ⟨m, hm, by rw [hsame m hm]; exact h⟩

/-- R18: the closing of the members of a list. -/
theorem foldl_closeMember {l : List StreamId} (hl : l.Nodup) (s : State) :
    (l.foldl State.closeMember s).rest = s.rest ∧
    (∀ j, j ∉ l → (l.foldl State.closeMember s).stream j = s.stream j) ∧
    (∀ j ∈ l, ClosedFrom (s.stream j) ((l.foldl State.closeMember s).stream j)) ∧
    ∃ f, (l.foldl State.closeMember s).ops = s.ops.map f ∧ Tells s l f := by
  induction l generalizing s with
  | nil => exact ⟨rfl, fun _ _ => rfl, fun _ h => absurd h (List.not_mem_nil), id, (List.map_id _).symm, tells_nil s⟩
  | cons i l ih =>
    obtain ⟨hi, hl⟩ := List.nodup_cons.1 hl
    obtain ⟨hrest, hout, hin, g, hg, htells⟩ := ih hl (s.closeMember i)
    obtain ⟨f, hf, htold⟩ := closeMember_tells s i
    rw [List.foldl_cons]
    refine ⟨hrest.trans (closeMember_rest s i), fun j hj => ?_, fun j hj => ?_, g ∘ f, ?_, tells_cons hi htold htells⟩
    · have hne : j ≠ i := fun e => hj (e ▸ List.mem_cons_self)
      rw [hout j fun h => hj (List.mem_cons_of_mem _ h), closeMember_stream_other hne]
    · rcases List.mem_cons.1 hj with rfl | hj
      · rw [hout j hi]
        exact closeMember_stream s j
      · have hne : j ≠ i := fun e => hi (e ▸ hj)
        have h := hin j hj
        rwa [closeMember_stream_other hne] at h
    · rw [hg, hf, List.map_map]

/-! ## CLOSE GROUP (R18) -/

theorem mem_members {g : GroupId} {j : StreamId} : j ∈ s.members g ↔ (s.stream j).cfg.group = g := by
  simp [State.members, State.mem_streamIds]

theorem mem_closingMembers {g : GroupId} {j : StreamId} : j ∈ s.closingMembers g ↔ (s.stream j).cfg.group = g ∧
    ((∃ sub, (s.stream j).phase = .running sub) ∨ ∃ a, (s.stream j).phase = .closing a) := by
  unfold State.closingMembers
  rw [List.mem_filter, mem_members]
  refine and_congr_right fun _ => ?_
  cases (s.stream j).phase <;> simp

theorem streamIds_pairwise : streamIds.Pairwise (· < ·) := by decide

/-- R18: the state in which CLOSE GROUP meets the members: with its operation entered where it records a member. -/
def groupEntered (s : State) (g : GroupId) (d : Directive) : State :=
  if s.closingMembers g = [] then s
  else s.enterOp d (.groupClose g (s.closingMembers g) (s.closingMembers g)
    ((s.closingMembers g).any fun i => (s.stream i).phase == .closing true))

theorem exec_closeGroup_closes {g : GroupId} (hd : Carries s d 1) (hg : byteAt d.params 0 = BitVec.ofNat 8 g.val)
    (hroom : s.ops.length < 4) : ∃ v, exec (.closeGroup d) s = .next
      { (s.members g).foldl State.closeMember (groupEntered s g d) with
        report := answeredDone ((s.members g).foldl State.closeMember (groupEntered s g d)).report 0x13 d v [] } := by
  have hnot : ¬ s.opsFull = true := fun h => absurd (opsFull_iff.1 h) (by omega)
  rw [exec_closeGroup hg]
  by_cases hempty : s.closingMembers g = []
  · have heffect : closeGroupEffect g d s = ((s.members g).foldl State.closeMember (groupEntered s g d), plain .done) := by
      unfold closeGroupEffect groupEntered
      simp only [hempty, List.isEmpty_nil, if_true]
    exact ⟨.done, by rw [heffect, plain, directive_done hd (.inl rfl)]⟩
  · have hsome : (s.closingMembers g).isEmpty = false := by simpa using hempty
    have heffect : closeGroupEffect g d s =
        ((s.members g).foldl State.closeMember (groupEntered s g d), plain .accepted) := by
      unfold closeGroupEffect groupEntered
      simp only [hsome, Bool.false_eq_true, if_false, if_neg hnot, if_neg hempty]
    exact ⟨.accepted, by rw [heffect, plain, directive_done hd (.inr rfl)]⟩

theorem groupEntered_stream (s : State) (g : GroupId) (d : Directive) (j : StreamId) :
    (groupEntered s g d).stream j = s.stream j := by
  unfold groupEntered
  split
  · rfl
  · exact State.enterOp_stream s _ _ j

theorem groupEntered_freeList (s : State) (g : GroupId) (d : Directive) :
    (groupEntered s g d).spill.freeList = s.spill.freeList := by
  unfold groupEntered
  split <;> rfl

theorem groupEntered_rest (s : State) (g : GroupId) (d : Directive) : (groupEntered s g d).rest = s.rest := by
  unfold groupEntered
  split
  · rfl
  · exact State.enterOp_rest s _ _

end Sys2Proof.Machine

namespace Sys2Proof

open Machine Safety

/-- Settles O15: the members close one after another, each telling the operations that stand in the list. -/
theorem closeGroupClosesEveryMember : Obligations.CloseGroupClosesEveryMember := by
  intro s d g hd hg hroom
  obtain ⟨v, hexec⟩ := exec_closeGroup_closes hd hg hroom
  have hnodup : (s.members g).Nodup := nodup_streamIds.filter _
  obtain ⟨hrest, hout, hin, f, hops, htells⟩ := foldl_closeMember hnodup (groupEntered s g d)
  have hstream := groupEntered_stream s g d
  have hops_of : ∀ tail, (groupEntered s g d).ops = s.ops ++ tail → ∀ k (o : PendingOp), s.ops[k]? = some o →
      ((groupEntered s g d).ops.map f)[k]? = some (f o) := fun tail ht k o hk => by
    obtain ⟨hlt, -⟩ := List.getElem?_eq_some_iff.1 hk
    rw [List.getElem?_map, ht, List.getElem?_append_left hlt, hk]
    rfl
  have htail : ∃ tail, (groupEntered s g d).ops = s.ops ++ tail := by
    unfold groupEntered
    split
    · exact ⟨[], (List.append_nil _).symm⟩
    · exact ⟨_, rfl⟩
  refine ⟨_, hexec, fun j hj => ?_, fun j hj => ?_, fun j hj => ?_, fun hsome => ?_, fun k o hk => ?_, fun hnone => ?_, ?_⟩
  · obtain ⟨hphase, -⟩ := hin j (mem_members.2 hj)
    rw [hstream] at hphase
    refine hphase.trans ?_
    unfold phaseClosed
    cases (s.stream j).phase <;> rfl
  · obtain ⟨-, h⟩ := hin j (mem_members.2 hj)
    rwa [hstream] at h
  · exact (hout j fun h => hj (mem_members.1 h)).trans (hstream j)
  · obtain ⟨j, hj, ha, hidle⟩ := hsome
    have hne : s.closingMembers g ≠ [] := by
      refine List.ne_nil_of_mem (mem_closingMembers.2 ⟨hj, ?_⟩)
      cases hp : (s.stream j).phase with
      | idle => exact absurd hp hidle
      | armed how => exact absurd hp (ha how)
      | running sub => exact .inl ⟨sub, rfl⟩
      | closing a => exact .inr ⟨a, rfl⟩
    have hentered : (groupEntered s g d).ops = s.ops ++ [⟨d.tag, wantsReply d, .groupClose g (s.closingMembers g)
        (s.closingMembers g) ((s.closingMembers g).any fun i => (s.stream i).phase == .closing true), none⟩] := by
      unfold groupEntered
      rw [if_neg hne]
      rfl
    refine ⟨?_, s.closingMembers g, (s.closingMembers g).any fun i => (s.stream i).phase == .closing true, ?_, streamIds_pairwise.filter _ |>.filter _,
      fun j => mem_closingMembers, List.any_eq_true.trans ⟨?_, ?_⟩⟩
    · show ((s.members g).foldl State.closeMember (groupEntered s g d)).ops.length = _
      rw [hops, List.length_map, hentered, List.length_append]
      rfl
    · show ((s.members g).foldl State.closeMember (groupEntered s g d)).ops[s.ops.length]? = _
      rw [hops, List.getElem?_map, hentered, List.getElem?_append_right le_rfl, Nat.sub_self]
      refine congrArg some (htells.groupClose _ _ _ _ _ rfl fun j hj _ how hp => ?_)
      rw [hstream] at hp
      obtain ⟨-, ⟨sub, h⟩ | ⟨a, h⟩⟩ := mem_closingMembers.1 hj <;> rw [hp] at h <;> cases h
    · rintro ⟨j, hj, h⟩
      exact ⟨j, (mem_closingMembers.1 hj).1, beq_iff_eq.1 h⟩
    · rintro ⟨j, hj, h⟩
      exact ⟨j, mem_closingMembers.2 ⟨hj, .inr ⟨true, h⟩⟩, beq_iff_eq.2 h⟩
  · obtain ⟨tail, htail⟩ := htail
    have hk' := hops_of tail htail k o hk
    rw [← hops] at hk'
    refine ⟨f o, hk', htells.tag o, htells.reply o, fun j => htells.close o j, fun h members waiting aborted hkind ha =>
      htells.groupClose o h members waiting aborted hkind fun j hj hm how => ?_, fun j slot reading hkind hslot => ?_⟩
    · rw [hstream]
      exact ha j hj (mem_members.1 hm) how
    · obtain ⟨begun, hfo, hbegun⟩ := htells.verify o j slot reading hkind (by rw [groupEntered_freeList]; exact hslot)
      refine ⟨begun, hfo, hbegun.trans (or_congr_right ?_)⟩
      unfold ClosesIn
      constructor
      · rintro ⟨m, hm, sub, b, h⟩
        rw [hstream] at h
        exact ⟨m, sub, b, mem_members.1 hm, h⟩
      · rintro ⟨m, sub, b, hm, h⟩
        exact ⟨m, mem_members.2 hm, sub, b, by rw [hstream]; exact h⟩
  · have hempty : s.closingMembers g = [] := by
      refine List.eq_nil_iff_forall_not_mem.2 fun j hj => ?_
      obtain ⟨hgroup, hphase⟩ := mem_closingMembers.1 hj
      rcases hnone j hgroup with ⟨how, h⟩ | h <;> rcases hphase with ⟨sub, h'⟩ | ⟨a, h'⟩ <;> rw [h] at h' <;> cases h'
    show ((s.members g).foldl State.closeMember (groupEntered s g d)).ops.length = _
    rw [hops, List.length_map, groupEntered, if_pos hempty]
  · conv_lhs => rw [State.eq_of_rest (hrest.trans (groupEntered_rest s g d))]

end Sys2Proof
end

section
/-! PROOFS. The judgement after ABORT STREAM, in a state that holds two records under one slot number. -/

-- One theorem at a time: the stacks of a thread each would exceed the memory of the check.
set_option Elab.async false

namespace Sys2Proof.Machine

/-- Stream 0 RUNNING with slot 5 twice in its send queue, and two records under that number, the second of them of stream 1;
the over-timer of stream 1's group runs, though nobody of that group is RUNNING. -/
def heldTwice : State := { State.reset with
  receiver := ⟨true, none⟩
  streams := State.reset.streams.set 0 { State.reset.stream 0 with phase := .running .betweenSegments, sendQueue := [5, 5] }
  groups := State.reset.groups.set 1 { State.reset.group 1 with overTimer := .running 7 }
  spill := { State.reset.spill with
    freeList := []
    slots := [(5, ⟨.queued, 0, 0, false, none, none, none⟩), (5, ⟨.queued, 1, 0, false, none, none, none⟩)] } }

/-- ABORT STREAM of stream 0. -/
def abortFirst : Directive := ⟨0, 0, 1, [0]⟩

/-- The second freeing of slot 5 finds the record of stream 1, and stream 1's group is judged. -/
theorem heldTwice_judged : ((heldTwice.directive 0x14 abortFirst (lengthOk abortFirst 1)
    (abortStreamEffect 0 heldTwice)).group 1).overTimer = .stopped := by decide +kernel

theorem heldTwice_overTimer : (heldTwice.group 1).overTimer = .running 7 := by decide +kernel

end Sys2Proof.Machine

namespace Sys2Proof

open Machine Safety

/-- Refutes O46: ABORT STREAM's clause speaks of the aborted stream's group alone. In a state whose map holds two records
under one slot number, of two streams, and whose aborted stream holds that number twice, the second freeing judges the other
stream's group, and stops a timer there. -/
theorem not_timerExpiriesStepTheLevelAndStallTheLink : ¬ Obligations.TimerExpiriesStepTheLevelAndStallTheLink := by
  rintro ⟨-, -, hjudged, -⟩
  obtain ⟨-, -, -, hdirectives⟩ := hjudged heldTwice 0 _ _ rfl rfl
  obtain ⟨-, habort⟩ := hdirectives abortFirst .betweenSegments ⟨rfl, rfl, rfl⟩ rfl (by decide +kernel)
  obtain ⟨t, hexec, -, hgroups⟩ := habort (fun j hj => absurd hj List.not_mem_nil) (by decide +kernel)
  have ht : t = heldTwice.directive 0x14 abortFirst (lengthOk abortFirst 1) (abortStreamEffect 0 heldTwice) :=
    (Host.Outcome.next.inj ((exec_abortStream (i := 0) rfl).symm.trans hexec)).symm
  have hgroup : t.group 1 = heldTwice.group 1 := by
    have hcfg : (1 : GroupId) ≠ (heldTwice.stream 0).cfg.group := by decide +kernel
    calc t.group 1 = ({ t with groups := heldTwice.groups }.judge (heldTwice.stream 0).cfg.group).group 1 :=
          congrArg (fun gs => gs.get 1) hgroups
      _ = heldTwice.group 1 := State.setGroup_group_other _ _ hcfg
  have htimer := heldTwice_judged
  rw [← ht, hgroup, heldTwice_overTimer] at htimer
  cases htimer

end Sys2Proof
end

section
/-! PROOFS. The arbiter: the highest class, the rotation within it, and the grant. -/

-- One theorem at a time: the stacks of a thread each would exceed the memory of the check.
set_option Elab.async false

namespace Sys2Proof.Machine

open Sys2Proof.Safety

variable {s : State} {i j : StreamId} {c : Fin 4}

/-! ## The first of a list (R132) -/

/-- What a search finds comes first, in the list's own order, of all that it could have found. -/
theorem find?_first {α : Type} {R : α → α → Prop} {p : α → Bool} {l : List α} (hl : l.Pairwise R) {a : α}
    (h : l.find? p = some a) {b : α} (hb : b ∈ l) (hp : p b = true) : b = a ∨ R a b := by
  obtain ⟨-, before, after, rfl, hnone⟩ := List.find?_eq_some_iff_append.1 h
  rcases List.mem_append.1 hb with hb | hb
  · have hnot := hnone b hb
    rw [hp] at hnot
    cases hnot
  · rcases List.mem_cons.1 hb with rfl | hb
    · exact .inl rfl
    · exact .inr ((List.pairwise_cons.1 (List.pairwise_append.1 hl).2.1).1 b hb)

theorem mem_stepOrder (current : Option StreamId) (i : StreamId) : i ∈ State.stepOrder current := by
  revert current i
  decide

theorem stepOrder_none_pairwise : (State.stepOrder none).Pairwise (· < ·) := streamIds_pairwise

/-- R132: the pointer steps in the order of the distance from its current stream. -/
theorem stepOrder_some_pairwise (k : StreamId) :
    (State.stepOrder (some k)).Pairwise fun a b => turnDistance k a < turnDistance k b := by
  revert k
  decide

/-! ## The class and the stream (R131, R132) -/

theorem mem_queuedIn : i ∈ s.queuedIn c ↔ (s.stream i).sendQueue ≠ [] ∧ (s.stream i).cfg.priority = c := by
  simp [State.queuedIn, State.mem_streamIds]

theorem classes_pairwise : ([3, 2, 1, 0] : List (Fin 4)).Pairwise (· > ·) := by decide

/-- R132: of the classes with a queued block the highest is taken. -/
theorem highestClass_of_queued (h : ∃ i, (s.stream i).sendQueue ≠ []) : ∃ c, s.highestClass = some c ∧ s.queuedIn c ≠ [] ∧
    ∀ j, (s.stream j).sendQueue ≠ [] → (s.stream j).cfg.priority ≤ c := by
  have hall : ∀ c : Fin 4, c ∈ ([3, 2, 1, 0] : List (Fin 4)) := by decide
  have hsome : ∀ j, (s.stream j).sendQueue ≠ [] → (!(s.queuedIn (s.stream j).cfg.priority).isEmpty) = true := fun j hj => by
    have hmem : j ∈ s.queuedIn (s.stream j).cfg.priority := mem_queuedIn.2 ⟨hj, rfl⟩
    simpa using List.ne_nil_of_mem hmem
  obtain ⟨i, hi⟩ := h
  obtain ⟨c, hc⟩ := Option.isSome_iff_exists.1 (List.find?_isSome (p := fun c => !(s.queuedIn c).isEmpty).2
    ⟨_, hall _, hsome i hi⟩)
  refine ⟨c, hc, ?_, fun j hj => ?_⟩
  · have := List.find?_some hc
    simpa using this
  · rcases find?_first classes_pairwise hc (hall _) (hsome j hj) with h | h
    · exact le_of_eq h
    · exact le_of_lt h

/-- R132: whether the current stream of a class goes on. -/
def GoesOn (s : State) (c : Fin 4) (i : StreamId) : Prop :=
  (s.alt.pointers.get c).current = some i ∧ i ∈ s.queuedIn c ∧ (s.alt.pointers.get c).grants < (s.stream i).cfg.weight

theorem pick_goesOn (h : GoesOn s c i) :
    s.pick c = some (i, { s.alt.pointers.get c with grants := (s.alt.pointers.get c).grants + 1 }) := by
  obtain ⟨hcurrent, hqueued, hgrants⟩ := h
  have hkept : (s.alt.pointers.get c).current.filter (fun i => (s.queuedIn c).contains i &&
      (s.alt.pointers.get c).grants < (s.stream i).cfg.weight) = some i := by
    rw [hcurrent, Option.filter_some, if_pos]
    simp [hqueued, hgrants]
  simp only [State.pick, hkept]

theorem pick_turns (h : ∀ i, ¬ GoesOn s c i) :
    s.pick c = ((State.stepOrder (s.alt.pointers.get c).current).find? fun i => (s.queuedIn c).contains i).map
      fun i => (i, ⟨some i, 1⟩) := by
  have hkept : (s.alt.pointers.get c).current.filter (fun i => (s.queuedIn c).contains i &&
      (s.alt.pointers.get c).grants < (s.stream i).cfg.weight) = none := by
    cases hcurrent : (s.alt.pointers.get c).current with
    | none => rfl
    | some i =>
      rw [Option.filter_some, if_neg]
      intro hcond
      rw [Bool.and_eq_true, List.contains_iff_mem, decide_eq_true_eq] at hcond
      exact h i ⟨hcurrent, hcond.1, hcond.2⟩
  simp only [State.pick, hkept]

/-- R132: the stream that is granted in its class, and the pointer after the grant. -/
structure Picked (s : State) (c : Fin 4) (i : StreamId) (p : Pointer) : Prop where
  queued : i ∈ s.queuedIn c
  current : p.current = some i
  goesOn : ∀ j, GoesOn s c j → i = j ∧ p.grants = (s.alt.pointers.get c).grants + 1
  turns : (∀ j, ¬ GoesOn s c j) → p = ⟨some i, 1⟩ ∧ ∀ j ∈ s.queuedIn c,
    ((s.alt.pointers.get c).current = none → i ≤ j) ∧
      ∀ k, (s.alt.pointers.get c).current = some k → turnDistance k i ≤ turnDistance k j

theorem pick_of_queued (h : s.queuedIn c ≠ []) : ∃ i p, s.pick c = some (i, p) ∧ Picked s c i p := by
  by_cases hgoes : ∃ i, GoesOn s c i
  · obtain ⟨i, hi⟩ := hgoes
    refine ⟨i, _, pick_goesOn hi, hi.2.1, hi.1, fun j hj => ⟨?_, rfl⟩, fun hnone => absurd hi (hnone i)⟩
    exact Option.some.inj (hi.1.symm.trans hj.1)
  · obtain ⟨j, hj⟩ := List.exists_mem_of_ne_nil _ h
    have hcontains : ∀ {k}, k ∈ s.queuedIn c ↔ (s.queuedIn c).contains k = true := List.contains_iff_mem.symm
    obtain ⟨i, hi⟩ := Option.isSome_iff_exists.1 (List.find?_isSome.2
      ⟨j, mem_stepOrder (s.alt.pointers.get c).current j, hcontains.1 hj⟩)
    have hpick := pick_turns (not_exists.1 hgoes)
    rw [hi] at hpick
    refine ⟨i, ⟨some i, 1⟩, hpick, hcontains.2 (List.find?_some hi), rfl, fun k hk => absurd ⟨k, hk⟩ hgoes,
      fun _ => ⟨rfl, fun k hk => ⟨fun hnone => ?_, fun m hm => ?_⟩⟩⟩
    · rw [hnone] at hi
      exact (find?_first stepOrder_none_pairwise hi (mem_stepOrder none k) (hcontains.1 hk)).elim (fun e => le_of_eq e.symm)
        le_of_lt
    · rw [hm] at hi
      exact (find?_first (stepOrder_some_pairwise m) hi (mem_stepOrder (some m) k) (hcontains.1 hk)).elim
        (fun e => by rw [e]) le_of_lt

/-! ## The grant (R88, R131) -/

theorem grantTo_eq {p : Pointer} {slot : Nat} {rest : List Nat} (h : (s.stream i).sendQueue = slot :: rest) :
    s.grantTo c i p = let u := (s.setStream i { s.stream i with sendQueue := rest }).changeRecord slot fun r =>
        { r with place := .staged }
      u.setAlt { u.alt with staged := some ⟨slot, .reading, []⟩, pointers := u.alt.pointers.set c p } := by
  simp only [State.grantTo, h]

/-- R83: the change of a record is a change of the records alone. -/
theorem changeRecord_eq (s : State) (n : Nat) (f : SlotRecord → SlotRecord) :
    s.changeRecord n f = { s with spill := { s.spill with slots := (s.changeRecord n f).spill.slots } } := by
  unfold State.changeRecord
  split <;> rfl

end Sys2Proof.Machine

namespace Sys2Proof

open Machine Safety

/-- Settles O40: the highest class, its current stream or the next in the rotation, and that stream's front block. -/
theorem arbiterGrantsTheHighestClass : Obligations.ArbiterGrantsTheHighestClass := by
  intro s hstaged hcredits hlink hqueued
  obtain ⟨c, hclass, hne, hhighest⟩ := highestClass_of_queued hqueued
  obtain ⟨i, p, hpick, hpicked⟩ := pick_of_queued hne
  obtain ⟨hqueue, rfl⟩ := mem_queuedIn.1 hpicked.queued
  obtain ⟨slot, rest, hslot⟩ := List.exists_cons_of_ne_nil hqueue
  have hmay : s.mayGrant = true := by
    simp [State.mayGrant, hstaged, hcredits, linkUsable_iff.2 hlink]
  have hexec : exec .arbiterGrant s = .next (s.grantTo (s.stream i).cfg.priority i p) := by
    simp only [exec, execArbiterGrant, hmay, Bool.not_true, Bool.false_eq_true, if_false, hclass, hpick]
  have hpointers : (s.grantTo (s.stream i).cfg.priority i p).alt.pointers = s.alt.pointers.set (s.stream i).cfg.priority p := by
    rw [grantTo_eq hslot]
    simp
  have hself : (s.grantTo (s.stream i).cfg.priority i p).alt.pointers.get (s.stream i).cfg.priority = p := by
    rw [hpointers]
    exact Vector.getElem_set_self _
  refine ⟨_, i, slot, rest, hexec, hslot, hhighest, ?_, fun j hj => ?_, ?_, ?_, fun c' hc => ?_,
    fun j hcurrent hj hclass hgrants => ?_, fun hstops => ?_, ?_, fun r hr => ?_, fun a ha => ?_⟩
  · rw [grantTo_eq hslot]
    simp
  · rw [grantTo_eq hslot]
    simp only [State.setAlt_stream, State.changeRecord_stream]
    exact State.setStream_stream_other _ _ hj
  · rw [hself, hpicked.current]
  · rw [hpointers, grantTo_eq hslot]
    simp
  · rw [hpointers]
    exact Vector.getElem_set_ne _ _ fun e => hc (Fin.ext e.symm)
  · rw [hself]
    exact hpicked.goesOn j ⟨hcurrent, mem_queuedIn.2 ⟨hj, hclass⟩, hgrants⟩
  · have hnone : ∀ j, ¬ GoesOn s (s.stream i).cfg.priority j := fun j ⟨hcurrent, hj, hgrants⟩ => by
      obtain ⟨hqueue, hclass⟩ := mem_queuedIn.1 hj
      rcases hstops j hcurrent with h | h | h
      · exact hqueue h
      · exact h hclass
      · omega
    rw [hself]
    obtain ⟨hp, hfirst⟩ := hpicked.turns hnone
    exact ⟨hp, fun j hj hclass => hfirst j (mem_queuedIn.2 ⟨hj, hclass⟩)⟩
  · conv_lhs => rw [grantTo_eq hslot]
    conv_rhs => rw [grantTo_eq hslot]
    dsimp only
    rw [changeRecord_eq]
    rfl
  · have hrecord : (s.setStream i { s.stream i with sendQueue := rest }).slotRecord slot = some r := hr
    rw [grantTo_eq hslot]
    show State.slotRecord _ slot = _
    dsimp only
    rw [State.setAlt_slotRecord, State.changeRecord_slotRecord, if_pos rfl, hrecord]
    rfl
  · rw [grantTo_eq hslot]
    show State.slotRecord _ a = _
    dsimp only
    rw [State.setAlt_slotRecord, State.changeRecord_slotRecord, if_neg ha]
    rfl

end Sys2Proof
end

section
/-! PROOFS. DRAM reads with findings (R92), and the end of a verify read. -/

-- One theorem at a time: the stacks of a thread each would exceed the memory of the check.
set_option Elab.async false

namespace Sys2Proof.Machine

open Sys2Proof.Safety

variable {s : State} {slot length : Nat} {checks : List LineCheck}

/-! ## What a read finds on a line (R92) -/

/-- No line of the slot stands uncorrectable, within the slot's 1,024. -/
theorem standingFlips_none (h : NoneStands s slot) {line : Nat} (hline : line < 1024) : s.standingFlips slot line = none := by
  have hfind : s.spill.badLines.find? (fun x => x.1 == lineNumber slot line) = none := by
    refine List.find?_eq_none.2 fun x hx heq => h x hx ?_
    rw [beq_iff_eq.1 heq]
    unfold lineNumber
    omega
  unfold State.standingFlips
  rw [hfind]
  rfl

/-- R92: with at most one finding to a line, what is found on a line is its finding. -/
theorem lineFinding_eq_some (hnodup : (checks.map LineCheck.line).Nodup) {line : Nat} {f : LineFinding} :
    lineFinding none checks line = some f ↔ ⟨line, f⟩ ∈ checks := by
  have hfound : lineFinding none checks line = (checks.find? fun c => c.line == line).map LineCheck.finding := by
    unfold lineFinding
    cases h : (checks.find? fun c => c.line == line).map LineCheck.finding with
    | none => rfl
    | some g => cases g <;> rfl
  rw [hfound, Option.map_eq_some_iff]
  constructor
  · rintro ⟨c, hc, rfl⟩
    have hline : (c.line == line) = true := List.find?_some (p := fun c : LineCheck => c.line == line) hc
    rw [← beq_iff_eq.1 hline]
    exact List.mem_of_find?_eq_some hc
  · intro h
    cases hc : checks.find? fun c => c.line == line with
    | none => exact absurd (List.find?_eq_none.1 hc _ h) (by simp)
    | some c =>
      refine ⟨c, rfl, ?_⟩
      have hline : (c.line == line) = true := List.find?_some (p := fun c : LineCheck => c.line == line) hc
      have hsame : c = ⟨line, f⟩ :=
        List.inj_on_of_nodup_map hnodup (List.mem_of_find?_eq_some hc) h (beq_iff_eq.1 hline)
      rw [hsame]

/-! ## The read's result (R92) -/

/-- R92: what a read finds on each of its lines. -/
def foundOn (s : State) (slot : Nat) (checks : List LineCheck) (line : Nat) : Option LineFinding :=
  lineFinding (s.standingFlips slot line) checks line

/-- R92: a line of a slot as a read takes it. -/
def lineAsRead (s : State) (slot length : Nat) (checks : List LineCheck) (line : Nat) : List Byte :=
  let stored := ((s.storedBytes slot (lineCount length * 64)).drop (line * 64)).take 64
  match foundOn s slot checks line with
  | some (.uncorrectable f) => List.zipWith (fun a b => a ^^^ b) stored (flipBytes f)
  | _ => stored

/-- R92: the difference of a line found uncorrectable. -/
def uncorrectableOf : Option LineFinding → Option (BitVec 512)
  | some (.uncorrectable f) => some f
  | _ => none

theorem uncorrectableOf_eq_some {f : Option LineFinding} {flips : BitVec 512} :
    uncorrectableOf f = some flips ↔ f = some (.uncorrectable flips) := by
  unfold uncorrectableOf
  split <;> simp_all

theorem readBlock_bytes (s : State) (slot length : Nat) (checks : List LineCheck) :
    (s.readBlock slot length checks).bytes =
      ((List.range (lineCount length)).map (lineAsRead s slot length checks)).flatten.take length := rfl

theorem readBlock_corrected (s : State) (slot length : Nat) (checks : List LineCheck) :
    (s.readBlock slot length checks).corrected =
      ((List.range (lineCount length)).filter fun l => foundOn s slot checks l == some .corrected).length := rfl

theorem readBlock_bad (s : State) (slot length : Nat) (checks : List LineCheck) :
    (s.readBlock slot length checks).bad = (List.range (lineCount length)).filterMap fun l =>
      (uncorrectableOf (foundOn s slot checks l)).map fun f => (l, f) := by
  show (List.range (lineCount length)).filterMap _ = _
  refine List.filterMap_congr fun l _ => ?_
  show (match foundOn s slot checks l with | some (.uncorrectable f) => some (l, f) | _ => none) = _
  cases foundOn s slot checks l with
  | none => rfl
  | some f => cases f <;> rfl

section
variable (hnone : NoneStands s slot) (hfit : FindingsFit checks (lineCount length))
include hnone hfit

theorem foundOn_eq_some {line : Nat} (hline : line < lineCount length) {f : LineFinding} :
    foundOn s slot checks line = some f ↔ ⟨line, f⟩ ∈ checks := by
  unfold foundOn
  rw [standingFlips_none hnone (Nat.lt_of_lt_of_le hline hfit.1), lineFinding_eq_some hfit.2.1]

/-- R92: the uncorrectable lines of a read are those found so. -/
theorem mem_readBlock_bad {x : Nat × BitVec 512} :
    x ∈ (s.readBlock slot length checks).bad ↔ ⟨x.1, .uncorrectable x.2⟩ ∈ checks := by
  rw [readBlock_bad, List.mem_filterMap]
  constructor
  · rintro ⟨l, hl, h⟩
    obtain ⟨f, hf, rfl⟩ := Option.map_eq_some_iff.1 h
    exact (foundOn_eq_some hnone hfit (List.mem_range.1 hl)).1 (uncorrectableOf_eq_some.1 hf)
  · intro h
    have hline := hfit.2.2 _ h
    refine ⟨x.1, List.mem_range.2 hline, Option.map_eq_some_iff.2 ⟨x.2, ?_, rfl⟩⟩
    exact uncorrectableOf_eq_some.2 ((foundOn_eq_some hnone hfit hline).2 h)

/-- R92: a kind of finding is counted line by line as it is found. -/
theorem length_found (p : LineFinding → Bool) :
    ((List.range (lineCount length)).filter fun l => (foundOn s slot checks l).any p).length =
      (checks.filter fun c => p c.finding).length := by
  rw [← List.length_map (f := LineCheck.line) (as := checks.filter fun c => p c.finding)]
  refine List.Perm.length_eq ((List.perm_ext_iff_of_nodup (List.nodup_range.filter _)
    (hfit.2.1.sublist (List.filter_sublist.map _))).2 fun l => ?_)
  rw [List.mem_filter, List.mem_map, List.mem_range, Option.any_eq_true]
  constructor
  · rintro ⟨hl, f, hf, hp⟩
    exact ⟨⟨l, f⟩, List.mem_filter.2 ⟨(foundOn_eq_some hnone hfit hl).1 hf, hp⟩, rfl⟩
  · rintro ⟨c, hc, rfl⟩
    obtain ⟨hmem, hp⟩ := List.mem_filter.1 hc
    have hl := hfit.2.2 c hmem
    exact ⟨hl, c.finding, (foundOn_eq_some hnone hfit hl).2 hmem, hp⟩

theorem readBlock_corrected_eq : (s.readBlock slot length checks).corrected = correctedIn checks := by
  have h := length_found hnone hfit (fun f => f == .corrected)
  have hcorrected : ∀ l, (foundOn s slot checks l == some .corrected) =
      (foundOn s slot checks l).any (fun f => f == .corrected) := fun l => by
    cases foundOn s slot checks l <;> rfl
  rw [readBlock_corrected]
  simp only [hcorrected, h, correctedIn]
  rfl

theorem readBlock_bad_length : (s.readBlock slot length checks).bad.length = uncorrectableIn checks := by
  have h := length_found hnone hfit (fun f => f != .corrected)
  have hbad : ∀ l, ((uncorrectableOf (foundOn s slot checks l)).map fun f => (l, f)).isSome =
      (foundOn s slot checks l).any (fun f => f != .corrected) := fun l => by
    cases foundOn s slot checks l with
    | none => rfl
    | some f => cases f <;> rfl
  have hkeep : uncorrectableIn checks = (checks.filter fun c => c.finding != .corrected).length := by
    unfold uncorrectableIn
    congr 2
    funext c
    cases c.finding <;> rfl
  rw [readBlock_bad, List.length_filterMap_eq_countP, List.countP_eq_length_filter, hkeep, ← h]
  simp only [hbad]

/-- R92: a read's effect on the state: its findings are counted, and its uncorrectable lines stand. -/
theorem noteRead_eq : s.noteRead slot (s.readBlock slot length checks) = { s with
    counters := eccCounted s.counters checks
    spill := { s.spill with badLines :=
      (s.readBlock slot length checks).bad.map (fun x => (slot * 1024 + x.1, x.2)) ++ s.spill.badLines } } := by
  have hkept : s.spill.badLines.filter (fun x => !((s.readBlock slot length checks).bad.any
      fun y => lineNumber slot y.1 == x.1)) = s.spill.badLines := by
    refine List.filter_eq_self.2 fun x hx => ?_
    rw [Bool.not_eq_true', List.any_eq_false]
    intro y hy heq
    have hline := Nat.lt_of_lt_of_le (hfit.2.2 _ ((mem_readBlock_bad hnone hfit).1 hy)) hfit.1
    refine hnone x hx ?_
    rw [← beq_iff_eq.1 heq]
    show (slot * 1024 + y.1) / 1024 = slot
    dsimp only at hline
    omega
  have hcount : ∀ c n, satAdd c n = bumpedBy c n := fun c n => by
    unfold satAdd bumpedBy
    rw [Nat.min_comm, show 2 ^ 32 - 1 = 0xFFFFFFFF from rfl]
  unfold State.noteRead State.countEcc
  simp only [State.setCounters_spill, hkept, hcount, readBlock_corrected_eq hnone hfit, readBlock_bad_length hnone hfit]
  rfl

/-- Log entry 5: after a read that writes nothing back, its uncorrectable lines stand with those of before. -/
theorem standAfter_of_read {t : State} (ht : t.spill.badLines =
    (s.readBlock slot length checks).bad.map (fun x => (slot * 1024 + x.1, x.2)) ++ s.spill.badLines) :
    StandAfter s t slot checks 0 := by
  intro x
  rw [ht, List.mem_append, List.mem_map, or_comm]
  refine or_congr Iff.rfl ⟨?_, ?_⟩
  · rintro ⟨y, hy, rfl⟩
    exact ⟨y.1, y.2, (mem_readBlock_bad hnone hfit).1 hy, Nat.zero_le _, rfl⟩
  · rintro ⟨line, flips, hc, -, rfl⟩
    exact ⟨(line, flips), (mem_readBlock_bad (x := (line, flips)) hnone hfit).2 hc, rfl⟩

/-- R92: where no line was uncorrectable, the read counts its corrected lines and no more. -/
theorem noteRead_corrected (h : uncorrectableIn checks = 0) :
    s.noteRead slot (s.readBlock slot length checks) = { s with counters := eccCounted s.counters checks } := by
  have hbad : (s.readBlock slot length checks).bad = [] :=
    List.length_eq_zero_iff.1 ((readBlock_bad_length hnone hfit).trans h)
  rw [noteRead_eq hnone hfit, hbad]
  rfl

/-- R92: the bytes of a read without uncorrectable lines are those stored. -/
theorem readBlock_bytes_stored (h : uncorrectableIn checks = 0) :
    (s.readBlock slot length checks).bytes = s.spill.dram.readAll (slot * 65536) length := by
  have hbad : (s.readBlock slot length checks).bad = [] :=
    List.length_eq_zero_iff.1 ((readBlock_bad_length hnone hfit).trans h)
  have hclean : ∀ l ∈ List.range (lineCount length), lineAsRead s slot length checks l =
      ((s.storedBytes slot (lineCount length * 64)).drop (l * 64)).take 64 := fun l hl => by
    have hnot : ∀ f, foundOn s slot checks l ≠ some (.uncorrectable f) := fun f hf => by
      have hmem := (mem_readBlock_bad (x := (l, f)) hnone hfit).2
        ((foundOn_eq_some hnone hfit (List.mem_range.1 hl)).1 hf)
      rw [hbad] at hmem
      cases hmem
    unfold lineAsRead
    dsimp only
    split
    · next f hf => exact absurd hf (hnot f)
    · rfl
  rw [readBlock_bytes, List.map_congr_left hclean, State.flatten_chunks _ _ (by simp [State.storedBytes])]
  unfold State.storedBytes slotAddress
  rw [Memory.take_readAll _ _ (by unfold lineCount Config.lineBytes; omega)]
  rfl

end

/-! ## Settling one operation (R158) -/

/-- R158, R163: the completion that an operation gives as it leaves the list, where its reply flag is set. -/
def completionOf (o : PendingOp) : Option Answer :=
  match o.ended with
  | some e => if o.reply then some (o.completion e) else none
  | none => none

theorem settleOps_foldl (s : State) : s.settleOps =
    (s.ops.filterMap completionOf).foldl State.offer (s.setOps (s.ops.filter fun o => o.ended.isNone)) := rfl

/-- R158, R163: the operation that has ended leaves the list, and its completion is offered where its reply flag is set. -/
theorem settleOps_single {before rest : List PendingOp} {o : PendingOp} {e : OpEnd} (hops : s.ops = before ++ o :: rest)
    (hended : o.ended = some e) (hothers : ∀ p ∈ before ++ rest, p.ended = none) : s.settleOps = { s with
      ops := before ++ rest
      report := if o.reply = true then admitted s.report (o.completion e).marked else s.report } := by
  have hnone : ∀ l : List PendingOp, (∀ p ∈ l, p.ended = none) → (l.filter fun p => p.ended.isNone) = l ∧
      l.filterMap completionOf = [] := by
    intro l hl
    refine ⟨List.filter_eq_self.2 fun p hp => by rw [hl p hp]; rfl, List.filterMap_eq_nil_iff.2 fun p hp => ?_⟩
    unfold completionOf
    rw [hl p hp]
  obtain ⟨hb1, hb2⟩ := hnone before fun p hp => hothers p (List.mem_append_left _ hp)
  obtain ⟨hr1, hr2⟩ := hnone rest fun p hp => hothers p (List.mem_append_right _ hp)
  have hout : (o.ended.isNone) = false := by rw [hended]; rfl
  have hgives : completionOf o = if o.reply then some (o.completion e) else none := by
    unfold completionOf
    rw [hended]
  rw [settleOps_foldl, hops, List.filter_append, List.filter_cons_of_neg (by simp [hout]), hb1, hr1,
    List.filterMap_append, hb2, List.nil_append]
  by_cases hreply : o.reply = true
  · rw [List.filterMap_cons_some (b := o.completion e) (by rw [hgives, if_pos hreply]), hr2, if_pos hreply,
      List.foldl_cons, List.foldl_nil, State.offer_eq]
    rfl
  · rw [List.filterMap_cons_none (by rw [hgives, if_neg hreply]), hr2, if_neg hreply]
    rfl

/-! ## The end of a verify read (R100) -/

theorem modify_at_length {α : Type} (before rest : List α) (x : α) (f : α → α) :
    (before ++ x :: rest).modify before.length f = before ++ f x :: rest := by
  induction before with
  | nil => simp
  | cons y before ih => simp [ih]

theorem exec_verifyReadEnd {before rest : List PendingOp} {tag : BitVec 16} {reply : Bool} {i : StreamId} {r : SlotRecord}
    (hops : s.ops = before ++ ⟨tag, reply, .verify i slot true, none⟩ :: rest) (hr : s.spill.slots.find slot = some r)
    (hlength : r.length = some length) : exec (.verifyReadEnd before.length checks) s =
      .next (s.finishVerify before.length slot length checks) := by
  have hop : s.ops[before.length]? = some ⟨tag, reply, .verify i slot true, none⟩ := by rw [hops]; simp
  have hrecord : s.slotRecord slot = some r := hr
  have hread : (s.slotRecord slot).bind SlotRecord.length = some length := by rw [hrecord]; exact hlength
  show execVerifyReadEnd before.length checks s = _
  unfold execVerifyReadEnd
  rw [hop]
  dsimp only [Option.map_some]
  rw [hread]

/-- R100: without an uncorrectable line the outcome is what the two CRCs say. -/
theorem verifyOutcome_clean {read : ReadResult} (h : read.bad = []) : verifyOutcome read =
    if imageHeaderCrc read.bytes = storedHeaderCrc read.bytes ∧ imagePayloadCrc read.bytes = storedPayloadCrc read.bytes then
      ⟨.isMatch, false, false⟩
    else ⟨.mismatch, decide (imageHeaderCrc read.bytes ≠ storedHeaderCrc read.bytes),
      decide (imagePayloadCrc read.bytes ≠ storedPayloadCrc read.bytes)⟩ := by
  unfold verifyOutcome State.headerChecks State.payloadChecks
  rw [h]
  by_cases hheader : imageHeaderCrc read.bytes = storedHeaderCrc read.bytes <;>
    by_cases hpayload : imagePayloadCrc read.bytes = storedPayloadCrc read.bytes <;> simp [hheader, hpayload]

/-- R100: the operation that the read was for leaves the list with the read's outcome. -/
theorem finishVerify_eq {before rest : List PendingOp} {o : PendingOp} {noted : State}
    (hnoted : s.noteRead slot (s.readBlock slot length checks) = noted) (hops : noted.ops = before ++ o :: rest)
    (hothers : ∀ p ∈ before ++ rest, p.ended = none) : s.finishVerify before.length slot length checks = { noted with
      ops := before ++ rest
      report := if o.reply = true then
        admitted noted.report (o.completion (verifyOutcome (s.readBlock slot length checks))).marked
        else noted.report } := by
  have hmodify : noted.ops.modify before.length
      (fun p => { p with ended := some (verifyOutcome (s.readBlock slot length checks)) }) =
      before ++ { o with ended := some (verifyOutcome (s.readBlock slot length checks)) } :: rest := by
    rw [hops, modify_at_length]
  unfold State.finishVerify
  dsimp only
  rw [hnoted, hmodify]
  exact settleOps_single (o := { o with ended := some (verifyOutcome (s.readBlock slot length checks)) }) rfl rfl hothers

end Sys2Proof.Machine

namespace Sys2Proof

open Machine Safety

/-- Settles O44: with one finding to a line at most, what the read counts and leaves standing are its findings, and its bytes
are those stored where none is uncorrectable. -/
theorem verifyReadEndCompares : Obligations.VerifyReadEndCompares := by
  intro s tag reply i slot length r before rest image checks hops hothers hr hlength hnone hfit himage
  rw [exec_verifyReadEnd hops hr hlength]
  constructor
  · intro hclean
    have hnoted := noteRead_corrected hnone hfit hclean
    have hbytes := readBlock_bytes_stored hnone hfit hclean
    have hbad : (s.readBlock slot length checks).bad = [] :=
      List.length_eq_zero_iff.1 ((readBlock_bad_length hnone hfit).trans hclean)
    rw [finishVerify_eq hnoted hops hothers]
    subst himage
    have hverdict := verifyOutcome_clean hbad
    rw [hbytes] at hverdict
    generalize s.spill.dram.readAll (slot * 65536) length = image at hverdict
    cases reply with
    | false => rfl
    | true =>
      rw [hverdict]
      by_cases hchecks : imageHeaderCrc image = storedHeaderCrc image ∧ imagePayloadCrc image = storedPayloadCrc image
      · simp only [if_pos hchecks]
        rfl
      · simp only [if_neg hchecks]
        rfl
  · intro hbad
    have hsome : (s.readBlock slot length checks).bad ≠ [] := fun h => by
      rw [← readBlock_bad_length hnone hfit, h] at hbad
      exact absurd hbad (by simp)
    have hdamaged : verifyOutcome (s.readBlock slot length checks) = ⟨.damaged, false, false⟩ := by
      unfold verifyOutcome
      dsimp only
      rw [if_pos (by simpa using hsome)]
    refine ⟨_, rfl, ?_, ?_⟩
    · rw [finishVerify_eq (noteRead_eq hnone hfit) hops hothers]
      exact standAfter_of_read hnone hfit rfl
    · rw [finishVerify_eq (noteRead_eq hnone hfit) hops hothers, hdamaged]
      rfl

end Sys2Proof
end

section
/-! PROOFS. Slots go free: what the freeing of a slot and the commit of a block leave alone, and what the freeing of several
slots amounts to where no stream waits for an END slot. -/

-- One theorem at a time: the stacks of a thread each would exceed the memory of the check.
set_option Elab.async false

namespace Sys2Proof.Machine

open Sys2Proof.Safety

variable {s t u : State} {i j : StreamId} {n : Nat} {r : SlotRecord}

/-! ## What the freeing of a slot leaves alone -/

/-- What the freeing of slots leaves alone of the other blocks, with the events that wait. The checker's counter stands for
the counters that no abandoned read raises. -/
structure Frees (s t : State) : Prop where
  layout : t.layout = s.layout := by simp
  settings : t.settings = s.settings := by simp
  receiver : t.receiver = s.receiver := by simp
  checkFail : t.counters.checkFail = s.counters.checkFail := by simp
  events : ∀ e ∈ s.report.events, e ∈ t.report.events := by simp

namespace Frees

theorem refl (s : State) : Frees s s := {}

theorem trans (h : Frees s t) (k : Frees t u) : Frees s u where
  layout := k.layout.trans h.layout
  settings := k.settings.trans h.settings
  receiver := k.receiver.trans h.receiver
  checkFail := k.checkFail.trans h.checkFail
  events e he := k.events e (h.events e he)

theorem of_grows (h : Grows s t) : Frees s t where
  layout := congrArg (·.1) h.1
  receiver := congrArg (·.2.1) h.1
  checkFail := congrArg (fun x => x.2.2.1.checkFail) h.1
  settings := congrArg (·.2.2.2.1) h.1
  events := h.2.1

end Frees

theorem frees_abandonRead (s : State) (n : Nat) : Frees s (s.abandonRead n) where
  checkFail := rfl

theorem frees_verifiesGone (s : State) (n : Nat) : Frees s (s.verifiesGone n) where
  checkFail := s.abandonVerifies_induction (fun t => t.counters.checkFail = s.counters.checkFail) n (fun _ h => h) rfl

theorem grows_openCarrying (s : State) (i : StreamId) (slot n : Nat) (timed : Bool) :
    Grows s (s.openCarrying i slot n timed) := by
  unfold State.openCarrying
  dsimp only
  refine grows_trans _ _ _ ?_ (grows_openIn _ i slot n _ timed)
  refine grows_trans _ _ _ ?_ (grows_setStream _ i _)
  split
  · exact grows_trans _ _ _ (grows_setStream s i _) (grows_raise _ _)
  · exact grows_refl s

theorem grows_openEndBlock (s : State) (i : StreamId) (slot : Nat) : Grows s (s.openEndBlock i slot) :=
  grows_trans _ _ _ (grows_openCarrying s i slot _ false) (grows_closeOpen _ _ _ _)

@[simp] theorem placeFreed_alt (s : State) (n : Nat) : (s.placeFreed n).alt = s.alt := by
  unfold State.placeFreed
  split <;> simp

@[simp] theorem freeSlot_alt (s : State) (n : Nat) : (s.freeSlot n).alt = s.alt := by
  unfold State.freeSlot
  split <;> simp

theorem frees_placeFreed (s : State) (n : Nat) : Frees s (s.placeFreed n) := by
  unfold State.placeFreed
  split
  · exact {}
  · exact Frees.trans {} (.of_grows (grows_openEndBlock _ _ n))

theorem frees_freeSlot (s : State) (n : Nat) : Frees s (s.freeSlot n) := by
  unfold State.freeSlot
  split
  · exact .refl s
  · exact ((frees_verifiesGone s n).trans {}).trans (frees_placeFreed _ n)

theorem frees_reportCommit (s : State) (r : SlotRecord) : Frees s (s.reportCommit r) := {}

/-! ## Commits leave the rest of the transmitter alone (R128) -/

theorem commitHead_cons {b : SentBlock} {rest : List SentBlock} (ho : s.alt.outstanding = b :: rest)
    (hr : s.slotRecord b.slot = some r) : s.commitHead =
      ((s.setAlt { s.alt with outstanding := rest }).reportCommit r).freeSlot b.slot := by
  have hlift : (s.setAlt { s.alt with outstanding := rest }).slotRecord b.slot = some r := hr
  unfold State.commitHead
  rw [ho]
  dsimp only
  rw [hlift]

theorem commitHead_alt (s : State) : s.commitHead.alt = { s.alt with outstanding := s.alt.outstanding.tail } := by
  unfold State.commitHead
  split
  · next h => rw [h]; exact congrArg (fun o => { s.alt with outstanding := o }) h
  · next b rest h =>
    rw [h]
    dsimp only
    split <;> simp

theorem frees_commitHead (s : State) : Frees s s.commitHead := by
  unfold State.commitHead
  split
  · exact .refl s
  · next b rest h =>
    dsimp only
    split
    · exact (Frees.trans {} (frees_reportCommit _ _)).trans (frees_freeSlot _ _)
    · exact Frees.trans {} (frees_freeSlot _ _)

theorem commitMany_succ (s : State) (n : Nat) : s.commitMany (n + 1) = (s.commitMany n).commitHead := rfl

theorem commitMany_alt (s : State) (n : Nat) :
    (s.commitMany n).alt = { s.alt with outstanding := s.alt.outstanding.drop n } := by
  induction n with
  | zero => rfl
  | succ n ih => rw [commitMany_succ, commitHead_alt, ih, List.tail_drop]

theorem frees_commitMany (s : State) (n : Nat) : Frees s (s.commitMany n) := by
  induction n with
  | zero => exact .refl s
  | succ n ih => rw [commitMany_succ]; exact ih.trans (frees_commitHead _)

theorem frees_settleOps (s : State) : Frees s s.settleOps where
  layout := by rw [settleOps_eq]
  settings := by rw [settleOps_eq]
  receiver := by rw [settleOps_eq]
  checkFail := by rw [settleOps_eq]

theorem acceptCommit_alt (s : State) (k : Nat) : (s.acceptCommit k).alt = { s.alt with
    outstanding := s.alt.outstanding.drop (k + 1)
    commitTimer := if (s.alt.outstanding.drop (k + 1)).isEmpty then .stopped else .running s.alt.commitTimeout
    linkState := if s.alt.linkState = .stalled then .up else s.alt.linkState } := by
  unfold State.acceptCommit
  dsimp only
  rw [State.setAlt_alt, commitMany_alt]
  rfl

theorem frees_acceptCommit (s : State) (k : Nat) : Frees s (s.acceptCommit k) :=
  (frees_commitMany s (k + 1)).trans ⟨rfl, rfl, rfl, rfl, fun _ h => h⟩

/-! ## One slot goes free where no stream waits (R86) -/

/-- R86, R101: a held slot has gone free, verifies of it have ended, and its stream holds one slot less. -/
structure FreedOne (s t : State) (n : Nat) (r : SlotRecord) : Prop where
  freeList : t.spill.freeList = s.spill.freeList ++ [n]
  endWaits : t.spill.endWaits = []
  dram : t.spill.dram = s.spill.dram
  slots : t.spill.slots = s.spill.slots.erase n
  report : t.report = s.report
  others : ∀ j, j ≠ r.stream → t.stream j = s.stream j
  occupancy : (t.stream r.stream).occupancy = (s.stream r.stream).occupancy - 1
  sendQueue : (t.stream r.stream).sendQueue = (s.stream r.stream).sendQueue
  ops : ∀ o ∈ t.ops, (o.kind.verifiesSlot n = true → o.ended.isSome = true) ∧
    ∃ p ∈ s.ops, (∀ m, o.kind.verifiesSlot m = p.kind.verifiesSlot m) ∧ (p.ended.isSome = true → o.ended.isSome = true)

theorem endIf_kind (p : OpKind → Bool) (e : OpEnd) (o : PendingOp) : (o.endIf p e).kind = o.kind := by
  unfold PendingOp.endIf
  split <;> rfl

theorem endIf_ended (p : OpKind → Bool) (e : OpEnd) (o : PendingOp) :
    (o.endIf p e).ended.isSome = (o.ended.isSome || p o.kind) := by
  unfold PendingOp.endIf
  split
  · next h => simp_all
  · next h => cases ho : o.ended <;> simp_all

theorem sawIdle_verifiesSlot (o : PendingOp) (b : Bool) (m : Nat) :
    (o.sawIdle i b).kind.verifiesSlot m = o.kind.verifiesSlot m := by
  unfold PendingOp.sawIdle
  split
  · next h =>
    split
    · rw [h]; rfl
    · rfl
  · rfl

theorem sawIdle_ended (o : PendingOp) (b : Bool) (h : o.ended.isSome = true) : (o.sawIdle i b).ended.isSome = true := by
  unfold PendingOp.sawIdle
  split
  · rw [if_neg (by cases ho : o.ended <;> simp_all)]
    exact h
  · exact h

theorem freeSlot_ops (hr : s.slotRecord n = some r) (hw : s.spill.endWaits = []) :
    (s.freeSlot n).ops = s.ops.map fun o => o.endIf (OpKind.verifiesSlot n) ⟨.gone, false, false⟩ := by
  unfold State.freeSlot
  rw [hr]
  dsimp only
  unfold State.placeFreed
  rw [show (((s.verifiesGone n).occupancyDown r.stream).setSpill _).spill.endWaits = [] by simpa using hw]
  simp [State.verifiesGone, State.endOps]

theorem freedOne_freeSlot (hr : s.slotRecord n = some r) (hw : s.spill.endWaits = []) : FreedOne s (s.freeSlot n) n r := by
  obtain ⟨hfree, hwaits, hdram, hslots, -, hreport, hothers, hself, -⟩ := State.freeSlot_spec hr hw
  refine ⟨hfree, hwaits, hdram, hslots, hreport, hothers, by rw [hself], by rw [hself], fun o ho => ?_⟩
  rw [freeSlot_ops hr hw, List.mem_map] at ho
  obtain ⟨p, hp, rfl⟩ := ho
  rw [endIf_kind, endIf_ended]
  exact ⟨fun h => by rw [h, Bool.or_true], p, hp, fun _ => rfl, fun h => by rw [h, Bool.true_or]⟩

/-! ## Several slots go free -/

/-- A key has one record at most. -/
def SlotMap.Once (m : SlotMap) (k : Nat) : Prop := (m.erase k).find k = none

theorem SlotMap.once_of_nodup {m : SlotMap} (h : (m.map Prod.fst).Nodup) (k : Nat) : m.Once k :=
  SlotMap.find_erase_self h k

theorem SlotMap.erase_comm (m : SlotMap) {k l : Nat} (h : k ≠ l) : (m.erase k).erase l = (m.erase l).erase k := by
  induction m with
  | nil => rfl
  | cons x rest ih =>
    obtain ⟨a, q⟩ := x
    by_cases hk : a = k
    · simp [SlotMap.erase, hk, h]
    · by_cases hl : a = l
      · simp [SlotMap.erase, hl, Ne.symm h]
      · simp [SlotMap.erase, hk, hl, ih]

theorem SlotMap.Once.erase {m : SlotMap} {k l : Nat} (h : m.Once k) (hne : k ≠ l) : (m.erase l).Once k := by
  unfold SlotMap.Once
  rw [SlotMap.erase_comm m (Ne.symm hne), SlotMap.find_erase_other _ hne]
  exact h

theorem SlotMap.once_cons {rest : SlotMap} {a k : Nat} {q : SlotRecord} :
    SlotMap.Once ((a, q) :: rest) k ↔ if a = k then rest.find k = none else rest.Once k := by
  unfold SlotMap.Once
  by_cases h : a = k <;> simp [SlotMap.erase, SlotMap.find, h]

theorem SlotMap.Once.put {m : SlotMap} {k l : Nat} {q : SlotRecord} (h : m.Once k) (hne : k ≠ l) : (m.put l q).Once k := by
  induction m with
  | nil => exact SlotMap.once_cons.2 (by rw [if_neg (Ne.symm hne)]; rfl)
  | cons x rest ih =>
    obtain ⟨a, p⟩ := x
    have hrest := SlotMap.once_cons.1 h
    unfold SlotMap.put
    split
    · rw [SlotMap.once_cons]
      by_cases ha : a = k
      · rw [if_pos ha] at hrest ⊢
        rw [SlotMap.find_put, if_neg hne]
        exact hrest
      · rw [if_neg ha] at hrest ⊢
        exact ih hrest
    · split
      · next hal =>
        rw [SlotMap.once_cons, if_neg (Ne.symm hne)]
        rwa [if_neg (hal ▸ Ne.symm hne)] at hrest
      · rw [SlotMap.once_cons, if_neg (Ne.symm hne)]
        exact h

/-- R86: the slots `gone`, in that order, have gone free. -/
structure Freed (s t : State) (gone : List Nat) : Prop where
  freeList : t.spill.freeList = s.spill.freeList ++ gone
  endWaits : t.spill.endWaits = []
  dram : t.spill.dram = s.spill.dram
  report : t.report = s.report
  records : ∀ m, m ∉ gone → t.slotRecord m = s.slotRecord m
  once : ∀ m, m ∉ gone → s.spill.slots.Once m → t.spill.slots.Once m
  cleared : ∀ m ∈ gone, s.spill.slots.Once m → t.slotRecord m = none
  others : ∀ i, (∀ n ∈ gone, ∀ r, s.slotRecord n = some r → r.stream ≠ i) → t.stream i = s.stream i
  occupancy : ∀ i, (t.stream i).occupancy =
    (s.stream i).occupancy - (gone.filter fun n => (s.slotRecord n).any fun r => r.stream == i).length
  sendQueue : ∀ i, (t.stream i).sendQueue = (s.stream i).sendQueue
  ops : ∀ n ∈ gone, ∀ o ∈ t.ops, o.kind.verifiesSlot n = true → o.ended.isSome = true

theorem freed_nil (hw : s.spill.endWaits = []) : Freed s s [] where
  freeList := (List.append_nil _).symm
  endWaits := hw
  dram := rfl
  report := rfl
  records _ _ := rfl
  once _ _ h := h
  cleared m hm := by cases hm
  others _ _ := rfl
  occupancy i := by simp
  sendQueue _ := rfl
  ops n hn := by cases hn

theorem Freed.next {gone : List Nat} (h : Freed s t gone) (hn : n ∉ gone) (hr : s.slotRecord n = some r)
    (hu : FreedOne t u n r) : Freed s u (gone ++ [n]) where
  freeList := by rw [hu.freeList, h.freeList, List.append_assoc]
  endWaits := hu.endWaits
  dram := hu.dram.trans h.dram
  report := hu.report.trans h.report
  records m hm := by
    rw [List.mem_append, List.mem_singleton, not_or] at hm
    rw [← h.records m hm.1]
    unfold State.slotRecord
    rw [hu.slots, SlotMap.find_erase_other _ hm.2]
  once m hm hs := by
    rw [List.mem_append, List.mem_singleton, not_or] at hm
    rw [hu.slots]
    exact (h.once m hm.1 hs).erase hm.2
  cleared m hm hs := by
    unfold State.slotRecord
    rw [hu.slots]
    by_cases hmn : m = n
    · rw [hmn] at hs ⊢
      exact h.once n hn hs
    · have hgone : m ∈ gone := by simpa [hmn] using hm
      rw [SlotMap.find_erase_other _ hmn]
      exact h.cleared m hgone hs
  others i hi := by
    rw [hu.others i fun e => hi n (by simp) r hr e.symm]
    exact h.others i fun m hm => hi m (List.mem_append_left _ hm)
  occupancy i := by
    rw [List.filter_append, List.length_append, ← Nat.sub_sub, ← h.occupancy]
    by_cases hi : i = r.stream
    · rw [hi, hu.occupancy]
      simp [hr]
    · rw [hu.others i hi]
      simp [hr, Ne.symm hi]
  sendQueue i := by
    by_cases hi : i = r.stream
    · rw [hi, hu.sendQueue, h.sendQueue]
    · rw [hu.others i hi, h.sendQueue]
  ops m hm o ho hv := by
    obtain ⟨hended, p, hp, hsame, hkeeps⟩ := hu.ops o ho
    rcases List.mem_append.1 hm with hm | hm
    · exact hkeeps (h.ops m hm p hp (hsame m ▸ hv))
    · exact hended (List.mem_singleton.1 hm ▸ hv)

/-- R86: a run of steps that each free one held slot frees their slots. -/
theorem freed_foldl (step : State → Nat → State) (hstep : ∀ t n r, t.slotRecord n = some r → t.spill.endWaits = [] →
      FreedOne t (step t n) n r) {l gone : List Nat} (h : Freed s t gone) (hnodup : (gone ++ l).Nodup)
    (hheld : ∀ n ∈ l, Held s n) : Freed s (l.foldl step t) (gone ++ l) := by
  induction l generalizing t gone with
  | nil => rwa [List.append_nil]
  | cons n l ih =>
    obtain ⟨r, hr⟩ := Option.isSome_iff_exists.1 (hheld n List.mem_cons_self)
    have hn : n ∉ gone := fun hmem =>
      List.disjoint_of_nodup_append hnodup hmem List.mem_cons_self
    have hrecord : t.slotRecord n = some r := (h.records n hn).trans hr
    have happend : gone ++ n :: l = (gone ++ [n]) ++ l := by simp
    rw [List.foldl_cons, happend]
    exact ih (h.next hn hr (hstep t n r hrecord h.endWaits)) (happend ▸ hnodup)
      fun m hm => hheld m (List.mem_cons_of_mem _ hm)

end Sys2Proof.Machine
end

section
/-! PROOFS. The loopback checker (R138). -/

-- One theorem at a time: the stacks of a thread each would exceed the memory of the check.
set_option Elab.async false

namespace Sys2Proof.Machine

open Sys2Proof.Safety

variable {s : State}

/-! ## What a block's header names (R171) -/

section
variable (h : BlockHeader) (gap : Option GapSection) (payload : List Byte)

theorem byteAt_blockImage {front back : List Byte} {b : Byte} (hbytes : h.fieldBytes = front ++ b :: back) :
    byteAt (blockImage h gap payload) front.length = b := by
  unfold byteAt blockImage BlockHeader.bytes
  rw [hbytes]
  simp

theorem imageStream_blockImage : State.imageStream (blockImage h gap payload) = h.stream := by
  have hbyte : byteAt (blockImage h gap payload) 0 = BitVec.ofNat 8 h.stream.val :=
    byteAt_blockImage (front := []) h gap payload (by unfold BlockHeader.fieldBytes; rw [leBytes_one]; rfl)
  unfold State.imageStream
  rw [hbyte]
  apply Fin.ext
  have := h.stream.isLt
  simp [Fin.ofNat]

theorem imageRun_blockImage : State.imageRun (blockImage h gap payload) = h.run := by
  have hbyte : byteAt (blockImage h gap payload) 1 = BitVec.ofNat 8 h.run.toNat :=
    byteAt_blockImage (front := leBytes 1 h.stream.val) h gap payload (by
      unfold BlockHeader.fieldBytes
      rw [leBytes_one h.run.toNat]
      simp only [List.append_assoc, List.cons_append]
      rfl)
  rw [show State.imageRun _ = _ from hbyte, BitVec.ofNat_toNat, BitVec.setWidth_eq]

/-- The header's bytes before the stream sequence. -/
def beforeSequence (h : BlockHeader) : List Byte :=
  leBytes 1 h.stream.val ++ leBytes 1 h.run.toNat ++ leBytes 1 h.source ++ [h.mode.code, h.signedness.code]
    ++ leBytes 1 h.level ++ leBytes 1 h.mode.pointSize ++ leBytes 7 h.firstIndex ++ leBytes 2 h.flags.toNat
    ++ leBytes 4 h.segment.toNat

theorem imageSequence_blockImage : State.imageSequence (blockImage h gap payload) = h.sequence := by
  have hfield := field_leBytes (beforeSequence h) (leBytes 2 (h.factor - 1) ++ (leBytes 2 h.pointCount ++
    (leBytes 8 h.startTime ++ (leBytes 4 h.period ++ ((h.notes.toList.map fun w => leBytes 4 w.toNat).flatten ++
    (leBytes 4 h.payloadCrc.toNat ++ (leBytes 4 h.headerCrc.toNat ++ (gapBytes gap ++ payload)))))))) 4 h.sequence.toNat
  have hlength : (beforeSequence h).length = 20 := by simp [beforeSequence]
  rw [hlength] at hfield
  have himage : blockImage h gap payload = beforeSequence h ++ (leBytes 4 h.sequence.toNat ++ (leBytes 2 (h.factor - 1) ++
      (leBytes 2 h.pointCount ++ (leBytes 8 h.startTime ++ (leBytes 4 h.period ++
      ((h.notes.toList.map fun w => leBytes 4 w.toNat).flatten ++ (leBytes 4 h.payloadCrc.toNat ++
      (leBytes 4 h.headerCrc.toNat ++ (gapBytes gap ++ payload))))))))) := by
    unfold blockImage BlockHeader.bytes BlockHeader.fieldBytes beforeSequence
    simp only [List.append_assoc]
  unfold State.imageSequence
  rw [himage, hfield, ofNat_leBytes_four]

end

/-! ## The check (R138) -/

theorem relation_oldest {first : SentBlock} {sent : List SentBlock} {t : Transmitter}
    (h : t.outstanding = first :: sent) : t.relation first.link = .outstanding 0 := by
  unfold Transmitter.relation Transmitter.oldest
  rw [h]
  simp

theorem passesCheck_eq (t : Transmitter) (image : List Byte) : State.passesCheck t image =
    (decide (imageHeaderCrc image = storedHeaderCrc image) && decide (imagePayloadCrc image = storedPayloadCrc image) &&
      decide (State.imageSequence image =
        State.expectedSequence (t.checkRecords.get (State.imageStream image)) (State.imageRun image))) := rfl

theorem checkedRecords_eq (t : Transmitter) (image : List Byte) : State.checkedRecords t image =
    if imageHeaderCrc image = storedHeaderCrc image then
      t.checkRecords.set (State.imageStream image) (some ⟨State.imageRun image, State.imageSequence image⟩)
    else t.checkRecords := by
  unfold State.checkedRecords State.headerChecks
  simp only [beq_iff_eq]

/-- R138: a failure is counted, and CHECK_FAIL is raised where it is enabled. -/
theorem checkFailed_frees (s : State) :
    (State.checkFailed s).alt = s.alt ∧ (State.checkFailed s).layout = s.layout ∧
    (State.checkFailed s).settings = s.settings ∧ (State.checkFailed s).receiver = s.receiver ∧
    (State.checkFailed s).counters.checkFail = satAdd s.counters.checkFail 1 ∧
    (s.settings.linkMask.getLsbD 4 = true → EventPair.link .checkFail ∈ (State.checkFailed s).report.events) := by
  refine ⟨?_, ?_, ?_, ?_, ?_, fun hmask => ?_⟩
  iterate 5 simp [State.checkFailed]
  unfold State.checkFailed
  rw [raise_report]
  have henabled : (s.setCounters { s.counters with checkFail := satAdd s.counters.checkFail 1 }).enabled
      (.link .checkFail) = true := hmask
  rw [henabled]
  exact mem_raisedIn _ _

/-- R138: the commit of a check's block, with its credit. -/
theorem checkCommit_spec {first : SentBlock} {sent : List SentBlock} (h : s.alt.outstanding = first :: sent) :
    Frees s (s.checkCommit first.link) ∧ (s.checkCommit first.link).alt = { s.alt with
      outstanding := sent
      credits := min (s.alt.credits + 1) (64 - sent.length)
      commitTimer := if sent = [] then .stopped else .running s.alt.commitTimeout
      linkState := if s.alt.linkState = .stalled then .up else s.alt.linkState } := by
  have hcommit : s.checkCommit first.link =
      ((s.acceptCommit 0).setAlt ((s.acceptCommit 0).alt.addCredits 1)).settleOps := by
    unfold State.checkCommit
    rw [relation_oldest h]
  rw [hcommit]
  constructor
  · have hcredit : Frees (s.acceptCommit 0) ((s.acceptCommit 0).setAlt ((s.acceptCommit 0).alt.addCredits 1)) :=
      ⟨rfl, rfl, rfl, rfl, fun _ h => h⟩
    exact ((frees_acceptCommit s 0).trans hcredit).trans (frees_settleOps _)
  · rw [settleOps_eq]
    show (s.acceptCommit 0).alt.addCredits 1 = _
    rw [acceptCommit_alt, h]
    unfold Transmitter.addCredits
    simp only [List.drop_succ_cons, List.drop_zero, List.isEmpty_iff]
    rfl

end Sys2Proof.Machine

namespace Sys2Proof

open Machine Safety

/-- Settles O43: the judgement acts on the checker's own fields, the commit on the others. -/
theorem checkDoneJudgesAndCommits : Obligations.CheckDoneJudgesAndCommits := by
  refine ⟨fun run => ⟨rfl, fun c => ⟨fun h => if_neg h, fun h => if_pos h⟩⟩,
    fun h gap payload => ⟨imageStream_blockImage h gap payload, imageRun_blockImage h gap payload,
      imageSequence_blockImage h gap payload⟩,
    fun s x rest first sent good hcheck hsent hlink hgood => ?_⟩
  let u := s.setAlt { s.alt with checking := rest, checkRecords := State.checkedRecords s.alt x.bytes }
  let v := if good then u else u.checkFailed
  have hexec : exec .checkDone s = .next (v.checkCommit first.link) := by
    show execCheckDone s = _
    unfold execCheckDone
    rw [hcheck]
    dsimp only
    rw [passesCheck_eq, ← hgood, ← hlink]
  obtain ⟨halt, hlayout, hsettings, hreceiver, hfail, hevent⟩ := checkFailed_frees u
  have hvalt : v.alt = u.alt := by cases good <;> [exact halt; rfl]
  have hvsent : v.alt.outstanding = first :: sent := by rw [hvalt]; exact hsent
  obtain ⟨hfrees, hcommit⟩ := checkCommit_spec hvsent
  rw [hvalt] at hcommit
  refine ⟨_, hexec, (congrArg Transmitter.checking hcommit).trans rfl, (congrArg Transmitter.outstanding hcommit).trans rfl,
    (congrArg Transmitter.credits hcommit).trans rfl, ?_, (congrArg Transmitter.commitTimer hcommit).trans rfl, ?_, fun hbad hmask => ?_,
    hfrees.layout.trans ?_, hfrees.settings.trans ?_, hfrees.receiver.trans ?_⟩
  · rw [hcommit]
    exact checkedRecords_eq _ _
  · rw [hfrees.checkFail]
    cases good with
    | true => rfl
    | false =>
      show u.checkFailed.counters.checkFail = _
      rw [hfail, satAdd_one]
      by_cases hfull : s.counters.checkFail = 0xFFFFFFFF#32
      · exact (if_pos hfull).trans ((if_pos (.inr hfull)).trans hfull).symm
      · exact (if_neg hfull).trans (if_neg (by simp [hfull])).symm
  · refine hfrees.events _ ?_
    subst hbad
    exact hevent hmask
  · cases good <;> [exact hlayout; rfl]
  · cases good <;> [exact hsettings; rfl]
  · cases good <;> [exact hreceiver; rfl]

end Sys2Proof
end

section
/-! PROOFS. Commits (R128): the blocks up to a link sequence, and a single block, with the wait for an END slot, the run's end
and the completions it can bring. -/

-- One theorem at a time: the stacks of a thread each would exceed the memory of the check.
set_option Elab.async false

namespace Sys2Proof.Machine

open Sys2Proof.Safety

variable {s : State} {n : BitVec 32} {k slot : Nat} {r : SlotRecord}

theorem relation_outstanding {t : Transmitter} (hk : (n - t.oldest).toNat = k) (hlt : k < t.outstanding.length) :
    t.relation n = .outstanding k := by
  simp [-BitVec.toNat_sub, Transmitter.relation, hk, hlt]

theorem exec_commit (hsync : s.alt.archiveSync = true) (hloop : s.settings.loopback = false)
    (hrel : s.alt.relation n = .outstanding k) : exec (.commit n) s = .next (s.acceptCommit k).settleOps := by
  have htakes := takesInbound_iff.2 ⟨hsync, hloop⟩
  show execCommit n s = _
  unfold execCommit
  rw [if_neg (by simp [htakes]), hrel]

/-! ## The report of a commit to the stream table (R10, R128) -/

/-- R10: the commit of a block ends its stream's run. -/
def EndsRun (s : State) (r : SlotRecord) : Prop :=
  r.aborted = false ∧ (s.stream r.stream).phase = .closing false ∧ r.stream ∉ s.spill.endWaits ∧
    (s.stream r.stream).openBlock = none ∧ (s.stream r.stream).counts.committed + 1 = (s.stream r.stream).nextSeq

/-- R5: the state with one more block of a stream committed. -/
def countedCommit (s : State) (i : StreamId) : State :=
  s.setStream i { s.stream i with counts := { (s.stream i).counts with committed := (s.stream i).counts.committed + 1 } }

theorem reportCommit_of_aborted (h : r.aborted = true) : s.reportCommit r = s := if_pos h

theorem reportCommit_of_ends (h : EndsRun s r) : s.reportCommit r =
    ((countedCommit s r.stream).enterIdle r.stream false).endOps (OpKind.closes r.stream) ⟨.done, false, false⟩ := by
  obtain ⟨haborted, hphase, hwaits, hopen, hlast⟩ := h
  unfold State.reportCommit State.testRunEnd
  dsimp only
  rw [if_neg (by simp [haborted]), if_pos]
  · rfl
  · have hcommitted : ((s.stream r.stream).counts.committed + 1#32) = (s.stream r.stream).nextSeq := hlast
    simp [hphase, hwaits, hopen, hcommitted]

theorem reportCommit_of_not (haborted : r.aborted = false) (h : ¬ EndsRun s r) :
    s.reportCommit r = countedCommit s r.stream := by
  unfold State.reportCommit State.testRunEnd
  dsimp only
  rw [if_neg (by simp [haborted]), if_neg]
  · rfl
  · refine fun hends => h ⟨haborted, ?_⟩
    simpa [and_assoc] using hends

/-- R5, R10: what the report of a commit leaves of the stream's context. -/
theorem reportCommit_stream (s : State) (r : SlotRecord) : ∃ phase, (s.reportCommit r).stream r.stream =
    { s.stream r.stream with
      phase := phase
      counts := { (s.stream r.stream).counts with
        committed := (s.stream r.stream).counts.committed + if r.aborted = true then 0 else 1 } } ∧
    (EndsRun s r → phase = .idle) ∧ (¬ EndsRun s r → phase = (s.stream r.stream).phase) := by
  cases haborted : r.aborted with
  | true =>
    have hnot : ¬ EndsRun s r := fun h => by simp [h.1] at haborted
    rw [reportCommit_of_aborted haborted]
    exact ⟨_, by simp, fun h => absurd h hnot, fun _ => rfl⟩
  | false =>
    by_cases hends : EndsRun s r
    · rw [reportCommit_of_ends hends]
      refine ⟨.idle, ?_, fun _ => rfl, fun h => absurd hends h⟩
      simp [State.enterIdle, countedCommit]
    · rw [reportCommit_of_not haborted hends]
      refine ⟨(s.stream r.stream).phase, ?_, fun h => absurd h hends, fun _ => rfl⟩
      simp [countedCommit]

theorem reportCommit_ops (s : State) (r : SlotRecord) : (s.reportCommit r).ops = s.ops ∨
    (s.reportCommit r).ops = (s.ops.map fun o => o.sawIdle r.stream false).map
      fun o => o.endIf (OpKind.closes r.stream) ⟨.done, false, false⟩ := by
  cases haborted : r.aborted with
  | true => exact .inl (by rw [reportCommit_of_aborted haborted])
  | false =>
    by_cases hends : EndsRun s r
    · rw [reportCommit_of_ends hends]
      exact .inr rfl
    · rw [reportCommit_of_not haborted hends]
      exact .inl rfl

/-! ## The commit of one entry where no stream waits (R128) -/

/-- R128: the state in which the slot of the entry at the head goes free. -/
def reported (s : State) (rest : List SentBlock) (r : SlotRecord) : State :=
  (s.setAlt { s.alt with outstanding := rest }).reportCommit r

theorem reported_spill (s : State) (rest : List SentBlock) (r : SlotRecord) : (reported s rest r).spill = s.spill := by
  have hcommit : ∀ u : State, (u.reportCommit r).spill = u.spill := fun u => by
    cases haborted : r.aborted with
    | true => rw [reportCommit_of_aborted haborted]
    | false =>
      by_cases hends : EndsRun u r
      · rw [reportCommit_of_ends hends]; rfl
      · rw [reportCommit_of_not haborted hends]; rfl
  exact hcommit _

theorem freedOne_commitHead {b : SentBlock} {rest : List SentBlock} (ho : s.alt.outstanding = b :: rest)
    (hr : s.slotRecord b.slot = some r) (hw : s.spill.endWaits = []) : FreedOne s s.commitHead b.slot r := by
  have hspill := reported_spill s rest r
  have hrecord : (reported s rest r).slotRecord b.slot = some r := by
    unfold State.slotRecord
    rw [hspill]
    exact hr
  have hone := freedOne_freeSlot hrecord (by rw [hspill]; exact hw)
  have hreport : (reported s rest r).report = s.report := State.reportCommit_report _ _
  obtain ⟨phase, hself, -, -⟩ := reportCommit_stream (s.setAlt { s.alt with outstanding := rest }) r
  have hcommit : s.commitHead = (reported s rest r).freeSlot b.slot := commitHead_cons ho hr
  rw [hcommit]
  refine ⟨by rw [← hspill]; exact hone.freeList, hone.endWaits, by rw [← hspill]; exact hone.dram,
    by rw [← hspill]; exact hone.slots, hone.report.trans hreport, fun j hj => ?_, ?_, ?_, fun o hmem => ?_⟩
  · exact (hone.others j hj).trans (State.reportCommit_stream_other _ _ hj)
  · have hsame := congrArg (fun x : Machine.Stream => x.occupancy - 1) hself
    exact hone.occupancy.trans hsame
  · have hsame := congrArg Machine.Stream.sendQueue hself
    exact hone.sendQueue.trans hsame
  · obtain ⟨hended, p, hp, hsame, hkeeps⟩ := hone.ops o hmem
    refine ⟨hended, ?_⟩
    rcases reportCommit_ops (s.setAlt { s.alt with outstanding := rest }) r with hops | hops
    · exact ⟨p, hops ▸ hp, hsame, hkeeps⟩
    · have hmapped : p ∈ (reported s rest r).ops := hp
      rw [show (reported s rest r).ops = _ from hops, List.map_map, List.mem_map] at hmapped
      obtain ⟨q, hq, rfl⟩ := hmapped
      refine ⟨q, hq, fun m => (hsame m).trans ?_, fun h => hkeeps ?_⟩
      · show (PendingOp.endIf _ _ _).kind.verifiesSlot m = _
        rw [endIf_kind, sawIdle_verifiesSlot]
      · show (PendingOp.endIf _ _ _).ended.isSome = true
        rw [endIf_ended, sawIdle_ended _ _ h, Bool.true_or]

/-! ## The commit of several entries (R128) -/

/-- The slots of a stream's blocks without the aborted mark. -/
def unmarkedOf (s : State) (i : StreamId) (gone : List Nat) : List Nat :=
  gone.filter fun a => (s.slotRecord a).any fun r => r.stream == i && !r.aborted

/-- R128: the first entries of the outstanding list are committed, one by one. -/
theorem commitMany_spec (hw : s.spill.endWaits = [])
    (hnodup : (s.alt.outstanding.map SentBlock.slot).take k |>.Nodup)
    (hheld : ∀ a ∈ (s.alt.outstanding.map SentBlock.slot).take k, Held s a) (hk : k ≤ s.alt.outstanding.length) :
    Freed s (s.commitMany k) ((s.alt.outstanding.map SentBlock.slot).take k) ∧
    ∀ i, ((s.commitMany k).stream i).counts.committed = (s.stream i).counts.committed +
      BitVec.ofNat 32 (unmarkedOf s i ((s.alt.outstanding.map SentBlock.slot).take k)).length := by
  induction k with
  | zero => exact ⟨freed_nil hw, fun i => by simp [unmarkedOf, State.commitMany, Nat.repeat]⟩
  | succ k ih =>
    have hlt : k < (s.alt.outstanding.map SentBlock.slot).length := by simpa using hk
    have htake : (s.alt.outstanding.map SentBlock.slot).take (k + 1) =
        (s.alt.outstanding.map SentBlock.slot).take k ++ [(s.alt.outstanding.map SentBlock.slot)[k]] :=
      List.take_succ_eq_append_getElem hlt
    have hslot : (s.alt.outstanding.map SentBlock.slot)[k] = (s.alt.outstanding[k]'hk).slot := List.getElem_map _
    rw [hslot] at htake
    rw [htake] at hnodup hheld ⊢
    obtain ⟨hfreed, hcount⟩ := ih (List.nodup_append.1 hnodup).1 (fun a ha => hheld a (List.mem_append_left _ ha))
      (Nat.le_of_succ_le hk)
    obtain ⟨r, hr⟩ := Option.isSome_iff_exists.1 (hheld _ (List.mem_append_right _ List.mem_cons_self))
    have hfresh : (s.alt.outstanding[k]'hk).slot ∉ (s.alt.outstanding.map SentBlock.slot).take k := fun hmem =>
      List.disjoint_of_nodup_append hnodup hmem List.mem_cons_self
    have hrecord : (s.commitMany k).slotRecord (s.alt.outstanding[k]'hk).slot = some r :=
      (hfreed.records _ hfresh).trans hr
    have hhead : (s.commitMany k).alt.outstanding = s.alt.outstanding[k]'hk :: s.alt.outstanding.drop (k + 1) := by
      rw [commitMany_alt]
      exact List.drop_eq_getElem_cons hk
    refine ⟨hfreed.next hfresh hr (freedOne_commitHead hhead hrecord hfreed.endWaits), fun i => ?_⟩
    obtain ⟨-, -, -, -, -, -, -, hcommitted, -⟩ := State.commitHead_spec hhead hrecord hfreed.endWaits
    have hlast : (s.slotRecord (s.alt.outstanding[k]'hk).slot) = some r := hr
    rw [commitMany_succ, hcommitted, hcount]
    unfold unmarkedOf
    rw [List.filter_append, List.length_append, BitVec.ofNat_add, BitVec.add_assoc]
    congr 2
    by_cases hi : r.stream = i ∧ r.aborted = false
    · rw [if_pos hi]
      simp [hlast, hi.1, hi.2]
    · rw [if_neg hi]
      have hout : [(s.alt.outstanding[k]'hk).slot].filter
          (fun a => (s.slotRecord a).any fun r => r.stream == i && !r.aborted) = [] :=
        List.filter_eq_nil_iff.2 fun a ha => by
          rw [List.mem_singleton.1 ha, hlast]
          simpa using hi
      rw [hout]
      rfl

/-! ## The hand-over to an END-slot wait (R76, R86) -/

/-- R86: where a stream waits for an END slot, a slot that goes free becomes the slot of its END block. -/
theorem freeSlot_waiting {j : StreamId} {waits : List StreamId} (hr : s.slotRecord slot = some r)
    (hw : s.spill.endWaits = j :: waits) : ∃ v : State, s.freeSlot slot = v.openEndBlock j slot ∧ v.spill.endWaits = waits ∧
      v.spill.freeList = s.spill.freeList ∧ v.spill.dram = s.spill.dram ∧
      (∃ q : SlotRecord, v.slotRecord slot = some q ∧ q.stream = j) ∧
      (∀ k, { v.stream k with occupancy := (s.stream k).occupancy } = s.stream k) ∧
      (j ≠ r.stream → (v.stream j).occupancy = (s.stream j).occupancy + 1) := by
  let u := ((s.verifiesGone slot).occupancyDown r.stream).setSpill
    { ((s.verifiesGone slot).occupancyDown r.stream).spill with
      slots := ((s.verifiesGone slot).occupancyDown r.stream).spill.slots.erase slot }
  have hu : s.freeSlot slot = u.placeFreed slot := by
    unfold State.freeSlot
    rw [hr]
  have huw : u.spill.endWaits = j :: waits := by simpa [u] using hw
  have hdown : ∀ k, u.stream k = if k = r.stream then { s.stream r.stream with
      occupancy := (s.stream r.stream).occupancy - 1 } else s.stream k := fun k => by
    show ((s.verifiesGone slot).occupancyDown r.stream).stream k = _
    unfold State.occupancyDown
    rw [State.judgeFor_stream, State.setStream_stream, State.verifiesGone_stream, State.verifiesGone_stream]
  have hup : ∀ (w : State) k, (w.occupancyUp j).stream k = if k = j then { w.stream j with
      occupancy := (w.stream j).occupancy + 1 } else w.stream k := fun w k => by
    unfold State.occupancyUp
    rw [State.judgeFor_stream, State.setStream_stream]
  refine ⟨((u.setSpill { u.spill with endWaits := waits }).putRecord slot (u.newRecord j)).occupancyUp j, ?_, ?_, ?_, ?_,
    ⟨u.newRecord j, ?_, rfl⟩, fun k => ?_, fun hj => ?_⟩
  · rw [hu]
    unfold State.placeFreed
    rw [huw]
  · simp
  · simp [u]
  · simp [u]
  · rw [State.occupancyUp_slotRecord, State.putRecord_slotRecord, if_pos rfl]
  · rw [hup]
    simp only [State.putRecord_stream, State.setSpill_stream, hdown]
    by_cases hkj : k = j <;> by_cases hkr : k = r.stream <;> simp_all
  · rw [hup, if_pos rfl]
    simp only [State.putRecord_stream, State.setSpill_stream, hdown, if_neg hj]

/-- R76: the record of the slot in which an END block has opened and closed. -/
theorem openEndBlock_record {i : StreamId} {q : SlotRecord} (hq : s.slotRecord slot = some q) :
    ∃ p : SlotRecord, (s.openEndBlock i slot).slotRecord slot = some p ∧ p.stream = q.stream ∧ p.place = .queued ∧
      p.sequence = some (s.stream i).nextSeq := by
  have hopened : (s.openCarrying i slot (s.stream i).endIndex false).slotRecord slot =
      some { q with sequence := some (s.stream i).nextSeq } := by
    unfold State.openCarrying
    dsimp only
    rw [openIn_record (q := q)]
    · cases hlossy : (s.stream i).lossy <;> simp [State.leaveLossy]
    · cases hlossy : (s.stream i).lossy <;> simpa [hlossy] using hq
  exact ⟨_, closeOpen_record (openCarrying_openBlock _ _ _ _ _) _ _ hopened, rfl, rfl, rfl⟩

/-! ## The commit of a single entry (R128) -/

theorem acceptCommit_zero (s : State) : s.acceptCommit 0 = s.commitHead.setAlt s.commitHead.alt.accepted := rfl

theorem reported_stream (s : State) (sent : List SentBlock) (r : SlotRecord) (k : StreamId) : ∃ phase committed,
    (reported s sent r).stream k = { s.stream k with
      phase := phase, counts := { (s.stream k).counts with committed := committed } } := by
  by_cases hk : k = r.stream
  · subst hk
    obtain ⟨phase, h, -, -⟩ := reportCommit_stream (s.setAlt { s.alt with outstanding := sent }) r
    exact ⟨phase, _, h⟩
  · exact ⟨_, _, State.reportCommit_stream_other _ _ hk⟩

theorem reported_record {b : SentBlock} (sent : List SentBlock) (hr : s.slotRecord b.slot = some r) : (reported s sent r).slotRecord b.slot = some r := by
  unfold State.slotRecord
  rw [reported_spill]
  exact hr

section
variable {sent : List SentBlock} {b : SentBlock} (ho : s.alt.outstanding = b :: sent) (hr : s.slotRecord b.slot = some r)
include ho hr

theorem commitHead_eq : s.commitHead = (reported s sent r).freeSlot b.slot := commitHead_cons ho hr

/-- R86, R128: the slot of a committed block goes to the END-slot wait that began first. -/
theorem commitHead_waiting {j : StreamId} {waits : List StreamId} (hw : s.spill.endWaits = j :: waits) :
    s.commitHead.spill.endWaits = waits ∧ s.commitHead.spill.freeList = s.spill.freeList ∧
    (s.commitHead.stream j).sendQueue = (s.stream j).sendQueue ++ [b.slot] ∧
    (s.commitHead.stream j).counts.closed = (s.stream j).counts.closed + 1 ∧
    (s.commitHead.stream j).openBlock = none ∧
    (j ≠ r.stream → (s.commitHead.stream j).occupancy = (s.stream j).occupancy + 1) ∧
    (∃ q, s.commitHead.spill.slots.find b.slot = some q ∧ q.stream = j ∧ q.place = .queued ∧
      q.sequence = some (s.stream j).nextSeq) ∧
    SameOutside b.slot s.spill.dram s.commitHead.spill.dram := by
  have hspill := reported_spill s sent r
  obtain ⟨v, hfree, hwaits, hlist, hdram, ⟨q, hq, hqj⟩, hstream, hocc⟩ :=
    freeSlot_waiting (reported_record sent hr) (by rw [hspill]; exact hw)
  obtain ⟨phase, committed, hsame⟩ := reported_stream s sent r j
  have hj := hstream j
  rw [hsame] at hj
  obtain ⟨prev, hend⟩ := openEndBlock_stream v j b.slot
  obtain ⟨p, hp, hpstream, hplace, hseq⟩ := openEndBlock_record (i := j) hq
  have hkept := congrArg (fun x : Machine.Stream => (x.nextSeq, x.sendQueue, x.counts.closed)) hj
  simp only [Prod.mk.injEq] at hkept
  obtain ⟨hnext, hqueue, hclosed⟩ := hkept
  rw [commitHead_eq ho hr, hfree, hend]
  refine ⟨(State.openEndBlock_endWaits _ _ _).trans hwaits, ?_, congrArg (· ++ [b.slot]) hqueue,
    congrArg (· + 1) hclosed, rfl, fun hne => ?_, ⟨p, hp, hpstream.trans hqj, hplace, hnext ▸ hseq⟩, ?_⟩
  · rw [State.openEndBlock_freeList, hlist, hspill]
  · have hup := hocc hne
    rw [hsame] at hup
    exact hup
  · have houtside := openEndBlock_sameOutside v j b.slot
    rw [hdram, hspill] at houtside
    exact houtside

/-- R10: a stream's phase after the commit of a block of it. -/
theorem commitHead_phase : (s.commitHead.stream r.stream).phase = ((reported s sent r).stream r.stream).phase := by
  rw [commitHead_eq ho hr, State.freeSlot_stream_phase]

theorem commitHead_ops (hw : s.spill.endWaits = []) : s.commitHead.ops =
    (reported s sent r).ops.map fun o => o.endIf (OpKind.verifiesSlot b.slot) ⟨.gone, false, false⟩ := by
  rw [commitHead_eq ho hr]
  exact freeSlot_ops (reported_record sent hr) (by rw [reported_spill]; exact hw)

/-- R158: the only operation, where the commit has ended it, gives the one completion. -/
theorem acceptCommit_completes (hw : s.spill.endWaits = []) {o : PendingOp} {e : OpEnd}
    (hops : s.commitHead.ops = [o]) (hended : o.ended = some e) (hreply : o.reply = true) :
    (s.acceptCommit 0).settleOps.ops = [] ∧
    (s.acceptCommit 0).settleOps.report = admitted s.report (o.completion e).marked := by
  have hreport : s.commitHead.report = s.report := (freedOne_commitHead ho hr hw).report
  have hsettled := settleOps_single (s := s.acceptCommit 0) (before := []) (rest := []) hops hended (by simp)
  rw [hsettled, if_pos hreply]
  exact ⟨rfl, congrArg (fun x => admitted x (o.completion e).marked) hreport⟩

end

end Sys2Proof.Machine

namespace Sys2Proof

open Machine Safety

/-- Settles O37: several entries by induction along the list; a single one by the report of its commit and the freeing of
its slot. -/
theorem commitFreesTheBlocksUpToItsSequence : Obligations.CommitFreesTheBlocksUpToItsSequence := by
  refine ⟨fun s n k gone hsync hloop hk hlt hgone => ?_, fun s n slot sent r hsync hloop ho hr => ?_⟩
  · have hfrees := (frees_acceptCommit s k).trans (frees_settleOps _)
    refine ⟨_, exec_commit hsync hloop (relation_outstanding hk hlt), ?_, hfrees.layout, hfrees.settings, hfrees.receiver,
      fun hnodup hheld hw hkeys => ?_⟩
    · rw [settleOps_eq]
      show (s.acceptCommit k).alt = _
      rw [acceptCommit_alt]
      have hempty : ((s.alt.outstanding.drop (k + 1)).isEmpty = true) ↔ s.alt.outstanding.length = k + 1 := by
        rw [List.isEmpty_iff, List.drop_eq_nil_iff]
        omega
      simp only [hempty]
    · rw [List.map_take] at hgone
      subst hgone
      obtain ⟨hfreed, hcount⟩ := commitMany_spec hw hnodup hheld hlt
      refine ⟨?_, fun a ha hheldAfter => ?_, ?_, fun i hi => ?_, fun i => ?_, fun i => ?_, ?_⟩
      · rw [State.settleOps_spill]
        exact hfreed.freeList
      · unfold Held at hheldAfter
        rw [State.settleOps_spill] at hheldAfter
        have hnone : (s.commitMany (k + 1)).spill.slots.find a = none := hfreed.cleared a ha (SlotMap.once_of_nodup hkeys a)
        have hsame : (s.acceptCommit k).spill = (s.commitMany (k + 1)).spill := rfl
        rw [hsame, hnone] at hheldAfter
        cases hheldAfter
      · rw [State.settleOps_spill]
        exact hfreed.dram
      · rw [State.settleOps_stream]
        exact hfreed.others i hi
      · rw [State.settleOps_stream]
        exact hcount i
      · rw [State.settleOps_stream]
        exact hfreed.occupancy i
      · rw [State.settleOps_events]
        exact congrArg ReportUnit.events hfreed.report
  · have hrecord : s.slotRecord (SentBlock.slot ⟨n, slot⟩) = some r := hr
    refine ⟨_, exec_commit hsync hloop (relation_oldest ho), ?_, fun j waits hw => ?_,
      fun hw haborted hphase hopen hlast => ?_, fun hphase hnot => ?_, fun hw tag i reading hops => ?_⟩
    · rw [settleOps_eq]
      show (s.acceptCommit 0).alt.outstanding = sent
      rw [acceptCommit_alt, ho]
      rfl
    · rw [State.settleOps_spill, State.settleOps_stream]
      exact commitHead_waiting ho hrecord hw
    · have hends : EndsRun (s.setAlt { s.alt with outstanding := sent }) r :=
        ⟨haborted, hphase, by simp [hw], hopen, hlast⟩
      have hreported : (reported s sent r).ops = (s.ops.map fun o => o.sawIdle r.stream false).map
          fun o => o.endIf (OpKind.closes r.stream) ⟨.done, false, false⟩ := by
        unfold reported
        rw [reportCommit_of_ends hends]
        rfl
      have hcommit := commitHead_ops ho hrecord hw
      rw [hreported] at hcommit
      refine ⟨?_, fun tag hops => ?_, fun tag g members aborted hops hmem => ?_⟩
      · rw [State.settleOps_stream]
        show (s.commitHead.stream r.stream).phase = .idle
        rw [commitHead_phase ho hrecord]
        obtain ⟨phase, hstream, hidle, -⟩ := reportCommit_stream (s.setAlt { s.alt with outstanding := sent }) r
        exact (congrArg Machine.Stream.phase hstream).trans (hidle hends)
      · rw [hops] at hcommit
        refine acceptCommit_completes ho hrecord hw (o := ⟨tag, true, .close r.stream, some ⟨.done, false, false⟩⟩)
          (hcommit.trans ?_) rfl rfl
        simp [PendingOp.sawIdle, PendingOp.endIf, OpKind.closes]
      · rw [hops] at hcommit
        refine acceptCommit_completes ho hrecord hw (o := ⟨tag, true, .groupClose g members [] aborted,
          some ⟨if aborted then .aborted else .done, false, false⟩⟩) (hcommit.trans ?_) rfl rfl
        simp [PendingOp.sawIdle, PendingOp.endIf, hmem]
    · have hnotEnds : ¬ EndsRun (s.setAlt { s.alt with outstanding := sent }) r := fun h =>
        hnot.elim (fun haborted => by simp [h.1] at haborted) fun hlast => hlast h.2.2.2.2
      rw [State.settleOps_stream]
      show (s.commitHead.stream r.stream).phase = .closing false
      rw [commitHead_phase ho hrecord]
      obtain ⟨phase, hstream, -, hkept⟩ := reportCommit_stream (s.setAlt { s.alt with outstanding := sent }) r
      exact (congrArg Machine.Stream.phase hstream).trans ((hkept hnotEnds).trans hphase)
    · have hcommit := commitHead_ops ho hrecord hw
      have hreported : (reported s sent r).ops = [⟨tag, true, .verify i slot reading, none⟩] := by
        rcases reportCommit_ops (s.setAlt { s.alt with outstanding := sent }) r with h | h
        · exact h.trans hops
        · refine h.trans ?_
          rw [State.setAlt_ops, hops]
          simp [PendingOp.sawIdle, PendingOp.endIf, OpKind.closes]
      rw [hreported] at hcommit
      refine acceptCommit_completes ho hrecord hw (o := ⟨tag, true, .verify i slot reading, some ⟨.gone, false, false⟩⟩)
        (hcommit.trans ?_) rfl rfl
      simp [PendingOp.endIf, OpKind.verifiesSlot]

end Sys2Proof
end

section
/-! PROOFS. Returns (R130): what a return leaves alone, how its unmarked blocks stand at the fronts of their queues, and how
its marked blocks go free. -/

-- One theorem at a time: the stacks of a thread each would exceed the memory of the check.
set_option Elab.async false

namespace Sys2Proof.Machine

open Sys2Proof.Safety

variable {s t u w : State} {i : StreamId} {n m : Nat} {r : SlotRecord} {l gone : List Nat} {sending : Option Nat}

/-! ## The send that is abandoned and the block that is dropped -/

theorem abandonSend_alt (s : State) : s.abandonSend.alt = { s.alt with sending := none } := by
  unfold State.abandonSend
  split
  · next h => exact (congrArg (fun o => { s.alt with sending := o }) h)
  · dsimp only
    split <;> rfl

theorem dropStaged_alt (s : State) : s.dropStaged.alt = { s.alt with staged := none } := by
  unfold State.dropStaged
  split
  · next h => exact (congrArg (fun o => { s.alt with staged := o }) h)
  · dsimp only
    split <;> rfl

/-- R93, R130: what the transmitter gives up is of itself and the traces alone. -/
theorem abandonSend_same (s : State) : Frees s s.abandonSend ∧ s.abandonSend.spill = s.spill ∧
    s.abandonSend.streams = s.streams ∧ s.abandonSend.groups = s.groups ∧ s.abandonSend.ops = s.ops ∧
    s.abandonSend.report = s.report := by
  unfold State.abandonSend
  split
  · exact ⟨.refl s, rfl, rfl, rfl, rfl, rfl⟩
  · dsimp only
    split <;> exact ⟨⟨rfl, rfl, rfl, rfl, fun _ h => h⟩, rfl, rfl, rfl, rfl, rfl⟩

theorem dropStaged_same (s : State) : Frees s s.dropStaged ∧ s.dropStaged.spill = s.spill ∧
    s.dropStaged.streams = s.streams ∧ s.dropStaged.groups = s.groups ∧ s.dropStaged.ops = s.ops ∧
    s.dropStaged.report = s.report := by
  unfold State.dropStaged
  split
  · exact ⟨.refl s, rfl, rfl, rfl, rfl, rfl⟩
  · dsimp only
    split <;> exact ⟨⟨rfl, rfl, rfl, rfl, fun _ h => h⟩, rfl, rfl, rfl, rfl, rfl⟩

/-- R130: the state in which a return begins to place its blocks: the transmitter is empty. -/
def emptied (s : State) : State :=
  s.abandonSend.dropStaged.setAlt { s.abandonSend.dropStaged.alt with outstanding := [] }

theorem emptied_alt (s : State) : (emptied s).alt = { s.alt with outstanding := [], staged := none, sending := none } := by
  unfold emptied
  rw [State.setAlt_alt, dropStaged_alt, abandonSend_alt]

theorem emptied_same (s : State) : Frees s (emptied s) ∧ (emptied s).spill = s.spill ∧ (emptied s).streams = s.streams ∧
    (emptied s).groups = s.groups ∧ (emptied s).ops = s.ops ∧ (emptied s).report = s.report := by
  obtain ⟨h1, h2, h3, h4, h5, h6⟩ := abandonSend_same s
  obtain ⟨k1, k2, k3, k4, k5, k6⟩ := dropStaged_same s.abandonSend
  exact ⟨(h1.trans k1).trans ⟨rfl, rfl, rfl, rfl, fun _ h => h⟩, k2.trans h2, k3.trans h3, k4.trans h4, k5.trans h5,
    k6.trans h6⟩

/-! ## The blocks without the mark (R88) -/

/-- R88, R130: the record of a block that returns. -/
def SlotRecord.returned (r : SlotRecord) : SlotRecord := if r.aborted then r else { r with place := .queued }

@[simp] theorem SlotRecord.returned_aborted (r : SlotRecord) : r.returned.aborted = r.aborted := by
  unfold SlotRecord.returned
  split <;> rfl

@[simp] theorem SlotRecord.returned_stream (r : SlotRecord) : r.returned.stream = r.stream := by
  unfold SlotRecord.returned
  split <;> rfl

theorem SlotRecord.returned_idem (r : SlotRecord) : r.returned.returned = r.returned := by
  cases h : r.aborted <;> simp [SlotRecord.returned, h]

theorem requeue_slotRecord (s : State) (n m : Nat) :
    (s.requeue n).slotRecord m = if m = n then (s.slotRecord n).map SlotRecord.returned else s.slotRecord m := by
  unfold State.requeue
  split
  · next h => split <;> simp_all
  · next r h =>
    split
    · next ha => split <;> simp_all [SlotRecord.returned]
    · next ha =>
      rw [State.putRecord_slotRecord, State.setStream_slotRecord]
      split <;> simp_all [SlotRecord.returned]

theorem requeue_once (s : State) (h : s.abortedIn m = true) (hm : s.spill.slots.Once m) :
    (s.requeue n).spill.slots.Once m := by
  unfold State.requeue
  split
  · exact hm
  · next r hr =>
    split
    · exact hm
    · next ha =>
      refine SlotMap.Once.put hm fun e => ha ?_
      subst e
      unfold State.abortedIn at h
      rw [hr] at h
      exact h

/-- R88: whether a block returns to the queue of a stream. -/
def returnsTo (s : State) (i : StreamId) (n : Nat) : Bool := (s.slotRecord n).any fun r => r.stream == i && !r.aborted

theorem requeue_stream (s : State) (n : Nat) (i : StreamId) : (s.requeue n).stream i = { s.stream i with
    sendQueue := [n].filter (returnsTo s i) ++ (s.stream i).sendQueue } := by
  unfold State.requeue
  split
  · next h => simp [returnsTo, h]
  · next r h =>
    split
    · next ha => simp [returnsTo, h, ha]
    · next ha =>
      dsimp only
      rw [State.putRecord_stream, State.setStream_stream]
      by_cases hi : i = r.stream
      · subst hi
        simp [returnsTo, h, ha]
      · simp [returnsTo, h, hi, Ne.symm hi]

theorem requeue_same (s : State) (n : Nat) : Frees s (s.requeue n) ∧ (s.requeue n).alt = s.alt ∧
    (s.requeue n).groups = s.groups ∧ (s.requeue n).ops = s.ops ∧ (s.requeue n).report = s.report ∧
    (s.requeue n).spill.freeList = s.spill.freeList ∧ (s.requeue n).spill.endWaits = s.spill.endWaits ∧
    (s.requeue n).spill.dram = s.spill.dram := by
  unfold State.requeue
  split
  · exact ⟨.refl s, rfl, rfl, rfl, rfl, rfl, rfl, rfl⟩
  · split <;> exact ⟨⟨rfl, rfl, rfl, rfl, fun _ h => h⟩, rfl, rfl, rfl, rfl, rfl, rfl, rfl⟩

/-- R130: the state with the blocks of a list back in their queues. -/
def requeuedAll (l : List Nat) (s : State) : State := l.reverse.foldl State.requeue s

theorem requeuedAll_cons (n : Nat) (l : List Nat) (s : State) : requeuedAll (n :: l) s = (requeuedAll l s).requeue n := by
  unfold requeuedAll
  rw [List.reverse_cons, List.foldl_append]
  rfl

theorem requeuedAll_slotRecord (l : List Nat) (s : State) (m : Nat) : (requeuedAll l s).slotRecord m =
    if m ∈ l then (s.slotRecord m).map SlotRecord.returned else s.slotRecord m := by
  induction l with
  | nil => rfl
  | cons n l ih =>
    rw [requeuedAll_cons, requeue_slotRecord]
    by_cases hmn : m = n
    · subst hmn
      rw [if_pos rfl, ih, if_pos List.mem_cons_self]
      split
      · cases s.slotRecord m <;> simp [SlotRecord.returned_idem]
      · rfl
    · rw [if_neg hmn, ih]
      simp [hmn]

theorem requeuedAll_abortedIn (l : List Nat) (s : State) : (requeuedAll l s).abortedIn = s.abortedIn :=
  State.foldl_requeue_abortedIn _

theorem requeuedAll_once (l : List Nat) (h : s.abortedIn m = true) (hm : s.spill.slots.Once m) :
    (requeuedAll l s).spill.slots.Once m := by
  induction l with
  | nil => exact hm
  | cons n l ih =>
    rw [requeuedAll_cons]
    exact requeue_once _ (by rw [requeuedAll_abortedIn]; exact h) ih

theorem requeuedAll_stream (l : List Nat) (s : State) (i : StreamId) : (requeuedAll l s).stream i = { s.stream i with
    sendQueue := l.filter (returnsTo s i) ++ (s.stream i).sendQueue } := by
  induction l with
  | nil => rfl
  | cons n l ih =>
    have hsame : returnsTo (requeuedAll l s) i n = returnsTo s i n := by
      unfold returnsTo
      rw [requeuedAll_slotRecord]
      split
      · cases s.slotRecord n <;> simp
      · rfl
    have hone : [n].filter (returnsTo (requeuedAll l s) i) = [n].filter (returnsTo s i) :=
      List.filter_congr fun a ha => by rw [List.mem_singleton.1 ha, hsame]
    rw [requeuedAll_cons, requeue_stream, ih, hone, ← List.append_assoc, ← List.filter_append]
    rfl

theorem requeuedAll_same (l : List Nat) (s : State) : Frees s (requeuedAll l s) ∧ (requeuedAll l s).alt = s.alt ∧
    (requeuedAll l s).groups = s.groups ∧ (requeuedAll l s).ops = s.ops ∧ (requeuedAll l s).report = s.report ∧
    (requeuedAll l s).spill.freeList = s.spill.freeList ∧ (requeuedAll l s).spill.endWaits = s.spill.endWaits ∧
    (requeuedAll l s).spill.dram = s.spill.dram := by
  induction l with
  | nil => exact ⟨.refl s, rfl, rfl, rfl, rfl, rfl, rfl, rfl⟩
  | cons n l ih =>
    obtain ⟨h1, h2, h3, h4, h5, h6, h7, h8⟩ := ih
    obtain ⟨k1, k2, k3, k4, k5, k6, k7, k8⟩ := requeue_same (requeuedAll l s) n
    rw [requeuedAll_cons]
    exact ⟨h1.trans k1, k2.trans h2, k3.trans h3, k4.trans h4, k5.trans h5, k6.trans h6, k7.trans h7, k8.trans h8⟩

/-! ## The blocks with the mark (R13, R86) -/

theorem freeIfAborted_of_not (h : s.abortedIn n = false) : s.freeIfAborted sending n = s := by
  unfold State.abortedIn at h
  unfold State.freeIfAborted
  split
  · rfl
  · next r hr =>
    rw [hr] at h
    rw [if_neg (by simpa using h)]

theorem freeIfAborted_of_aborted (hr : s.slotRecord n = some r) (ha : r.aborted = true) : s.freeIfAborted sending n =
    if sending = some n ∧ (s.stream r.stream).phase = .closing true then (s.freeSlot n).enterIdle r.stream true
    else s.freeSlot n := by
  unfold State.freeIfAborted
  rw [hr]
  dsimp only
  rw [if_pos ha, State.freeSlot_stream_phase]
  by_cases h : sending = some n ∧ (s.stream r.stream).phase = .closing true
  · rw [if_pos h, if_pos (by simp [h.1, h.2])]
  · rw [if_neg h, if_neg (by simpa using h)]

theorem freeIfAborted_alt (s : State) (sending : Option Nat) (n : Nat) : (s.freeIfAborted sending n).alt = s.alt := by
  unfold State.freeIfAborted
  split
  · rfl
  · split
    · dsimp only
      split <;> simp
    · rfl

theorem frees_freeIfAborted (s : State) (sending : Option Nat) (n : Nat) : Frees s (s.freeIfAborted sending n) := by
  unfold State.freeIfAborted
  split
  · exact .refl s
  · split
    · dsimp only
      split
      · exact (frees_freeSlot s n).trans ⟨rfl, rfl, rfl, rfl, fun _ h => h⟩
      · exact frees_freeSlot s n
    · exact .refl s

/-- R13: the phase of a stream after the freeing of a block with the mark, which may have stood in SENDING. -/
def phaseAfter (s : State) (sending : Option Nat) (n : Nat) (i : StreamId) : Phase :=
  if sending = some n ∧ (s.slotRecord n).any (fun r => r.stream == i && r.aborted) = true ∧
    (s.stream i).phase = .closing true then .idle else (s.stream i).phase

theorem freedOne_freeIfAborted (hr : s.slotRecord n = some r) (ha : r.aborted = true) (hw : s.spill.endWaits = []) :
    FreedOne s (s.freeIfAborted sending n) n r := by
  have hone := freedOne_freeSlot hr hw
  rw [freeIfAborted_of_aborted hr ha]
  split
  · refine ⟨hone.freeList, hone.endWaits, hone.dram, hone.slots, hone.report, fun j hj => ?_, ?_, ?_, fun o ho => ?_⟩
    · rw [State.enterIdle_stream_other _ _ _ hj]
      exact hone.others j hj
    · refine Eq.trans ?_ hone.occupancy
      simp [State.enterIdle]
    · refine Eq.trans ?_ hone.sendQueue
      simp [State.enterIdle]
    · obtain ⟨p, hp, rfl⟩ := List.mem_map.1 ho
      obtain ⟨hended, q, hq, hsame, hkeeps⟩ := hone.ops p hp
      refine ⟨fun hv => sawIdle_ended _ _ (hended ?_), q, hq, fun m => ?_, fun h => sawIdle_ended _ _ (hkeeps h)⟩
      · rwa [sawIdle_verifiesSlot] at hv
      · rw [sawIdle_verifiesSlot, hsame]
  · exact hone

theorem freeIfAborted_stream (hw : s.spill.endWaits = []) (i : StreamId) : ∃ occupancy,
    (s.freeIfAborted sending n).stream i =
      { s.stream i with phase := phaseAfter s sending n i, occupancy := occupancy } := by
  cases hr : s.slotRecord n with
  | none =>
    rw [freeIfAborted_of_not (by simp [State.abortedIn, hr])]
    exact ⟨(s.stream i).occupancy, by simp [phaseAfter, hr]⟩
  | some r =>
    cases ha : r.aborted with
    | false =>
      rw [freeIfAborted_of_not (by simp [State.abortedIn, hr, ha])]
      exact ⟨(s.stream i).occupancy, by simp [phaseAfter, hr, ha]⟩
    | true =>
      obtain ⟨-, -, -, -, -, -, hothers, hself, -⟩ := State.freeSlot_spec hr hw
      rw [freeIfAborted_of_aborted hr ha]
      by_cases hi : i = r.stream
      · subst hi
        split
        · next h => exact ⟨(s.stream r.stream).occupancy - 1, by simp [State.enterIdle, hself, phaseAfter, hr, ha, h]⟩
        · next h =>
          refine ⟨(s.stream r.stream).occupancy - 1, ?_⟩
          rw [hself]
          have hphase : phaseAfter s sending n r.stream = (s.stream r.stream).phase :=
            if_neg fun hall => h ⟨hall.1, hall.2.2⟩
          rw [hphase]
      · have hphase : phaseAfter s sending n i = (s.stream i).phase := if_neg fun hall => by
          simp [hr, Ne.symm hi] at hall
        rw [hphase]
        refine ⟨(s.stream i).occupancy, ?_⟩
        split
        · rw [State.enterIdle_stream_other _ _ _ hi, hothers i hi]
        · rw [hothers i hi]

/-- R13: the block in SENDING is one of a list, carries the mark, and belongs to a stream that is ABORTING. -/
def EndsAbort (s : State) (sending : Option Nat) (l : List Nat) (i : StreamId) : Prop :=
  ∃ n ∈ l, sending = some n ∧ (s.slotRecord n).any (fun r => r.stream == i && r.aborted) = true

/-- R86, R130: the marked blocks of a list go free, in its order. -/
theorem freed_freeIfAborted (h : Freed s t gone) (hnodup : (gone ++ l).Nodup) :
    Freed s (l.foldl (State.freeIfAborted sending) t) (gone ++ l.filter s.abortedIn) ∧
    ∀ i, ∃ phase occupancy, (l.foldl (State.freeIfAborted sending) t).stream i =
        { t.stream i with phase := phase, occupancy := occupancy } ∧
      (EndsAbort s sending l i → (t.stream i).phase = .closing true → phase = .idle) ∧
      (¬ EndsAbort s sending l i ∨ (t.stream i).phase ≠ .closing true → phase = (t.stream i).phase) := by
  induction l generalizing t gone with
  | nil =>
    rw [List.filter_nil, List.append_nil]
    exact ⟨h, fun i => ⟨_, _, rfl, fun ⟨_, hn, _⟩ => absurd hn List.not_mem_nil, fun _ => rfl⟩⟩
  | cons n l ih =>
    have hn : n ∉ gone := fun hmem => List.disjoint_of_nodup_append hnodup hmem List.mem_cons_self
    have hnl : n ∉ l := (List.nodup_cons.1 (List.nodup_append.1 hnodup).2.1).1
    have hrecord := h.records n hn
    have hstep : Freed s (t.freeIfAborted sending n) (gone ++ [n].filter s.abortedIn) := by
      cases ha : s.abortedIn n with
      | false =>
        have hat : t.abortedIn n = false := by
          unfold State.abortedIn at ha ⊢
          rwa [hrecord]
        rw [freeIfAborted_of_not hat]
        simpa [ha] using h
      | true =>
        have hmarked := ha
        unfold State.abortedIn at hmarked
        obtain ⟨r, hr, hra⟩ := (Option.any_eq_true _ _).1 hmarked
        have hone := freedOne_freeIfAborted (sending := sending) (hrecord.trans hr) hra h.endWaits
        simpa [ha] using h.next hn hr hone
    have hnodup' : ((gone ++ [n].filter s.abortedIn) ++ l).Nodup := by
      refine hnodup.sublist ?_
      rw [List.append_assoc]
      exact (List.Sublist.refl gone).append (List.filter_sublist.append (List.Sublist.refl l))
    obtain ⟨hfreed, hstreams⟩ := ih hstep hnodup'
    rw [List.foldl_cons]
    refine ⟨by rwa [List.append_assoc, ← List.filter_append] at hfreed, fun i => ?_⟩
    obtain ⟨occ, hone⟩ := freeIfAborted_stream (sending := sending) (n := n) h.endWaits i
    obtain ⟨phase, occupancy, hall, hidle, hkept⟩ := hstreams i
    rw [hone] at hall hidle hkept
    refine ⟨phase, occupancy, hall, ?_, ?_⟩
    · rintro ⟨m, hm, hsend, hmark⟩ hclosing
      rcases List.mem_cons.1 hm with rfl | hm
      · have hphase : phaseAfter t sending m i = .idle := if_pos ⟨hsend, by rw [hrecord]; exact hmark, hclosing⟩
        rw [← hphase]
        exact hkept (.inr (by rw [show Stream.phase _ = _ from hphase]; exact nofun))
      · have hphase : phaseAfter t sending n i = (t.stream i).phase := if_neg fun hall => by
          rw [hsend, Option.some.injEq] at hall
          exact hnl (hall.1 ▸ hm)
        exact hidle ⟨m, hm, hsend, hmark⟩ (hphase.trans hclosing)
    · intro hor
      have hphase : phaseAfter t sending n i = (t.stream i).phase := if_neg fun hall =>
        hor.elim (fun hnot => hnot ⟨n, List.mem_cons_self, hall.1, by rw [← hrecord]; exact hall.2.1⟩)
          fun hne => hne hall.2.2
      refine (hkept (hor.imp ?_ ?_)).trans hphase
      · exact fun hnot ⟨m, hm, h⟩ => hnot ⟨m, List.mem_cons_of_mem _ hm, h⟩
      · exact fun hne => by rw [show Stream.phase _ = _ from hphase]; exact hne

end Sys2Proof.Machine
end

section
/-! PROOFS. LINK_DOWN and REWIND (R123, R129): a return as a whole. -/

-- One theorem at a time: the stacks of a thread each would exceed the memory of the check.
set_option Elab.async false

namespace Sys2Proof.Machine

open Sys2Proof.Safety

variable {s t : State} {i : StreamId} {n : Nat} {r : SlotRecord} {l : List Nat} {sending : Option Nat}

/-! ## What a return leaves alone -/

/-- R130: the slot of the block in SENDING. -/
def sendingSlot (s : State) : Option Nat := s.alt.sending.map SendingBlock.slot

/-- R130: the state in which the unmarked blocks have returned, and the marked ones go free. -/
def requeuedBlocks (s : State) : State := requeuedAll s.heldByLink (emptied s)

theorem returnAll_eq (s : State) :
    s.returnAll = s.heldByLink.foldl (State.freeIfAborted (sendingSlot s)) (requeuedBlocks s) := rfl

theorem foldl_freeIfAborted_alt (l : List Nat) (s : State) : (l.foldl (State.freeIfAborted sending) s).alt = s.alt := by
  induction l generalizing s with
  | nil => rfl
  | cons n l ih => rw [List.foldl_cons, ih, freeIfAborted_alt]

theorem frees_foldl_freeIfAborted (l : List Nat) (s : State) : Frees s (l.foldl (State.freeIfAborted sending) s) := by
  induction l generalizing s with
  | nil => exact .refl s
  | cons n l ih => exact (frees_freeIfAborted s sending n).trans (ih _)

theorem foldl_freeIfAborted_of_not (h : ∀ n ∈ l, s.abortedIn n = false) : l.foldl (State.freeIfAborted sending) s = s := by
  induction l with
  | nil => rfl
  | cons n l ih =>
    rw [List.foldl_cons, freeIfAborted_of_not (h n List.mem_cons_self)]
    exact ih fun m hm => h m (List.mem_cons_of_mem _ hm)

theorem returnAll_alt (s : State) : s.returnAll.alt =
    { s.alt with outstanding := [], staged := none, sending := none } := by
  rw [returnAll_eq, foldl_freeIfAborted_alt]
  exact (requeuedAll_same _ _).2.1.trans (emptied_alt s)

theorem frees_returnAll (s : State) : Frees s s.returnAll :=
  ((emptied_same s).1.trans (requeuedAll_same _ _).1).trans (frees_foldl_freeIfAborted _ _)

/-! ## What the blocks' return leaves before the marked ones go free -/

theorem emptied_slotRecord (s : State) (n : Nat) : (emptied s).slotRecord n = s.slotRecord n := by
  unfold State.slotRecord
  rw [(emptied_same s).2.1]

theorem emptied_stream (s : State) (i : StreamId) : (emptied s).stream i = s.stream i := by
  unfold State.stream
  rw [(emptied_same s).2.2.1]

theorem requeuedBlocks_slotRecord (s : State) (n : Nat) : (requeuedBlocks s).slotRecord n =
    if n ∈ s.heldByLink then (s.slotRecord n).map SlotRecord.returned else s.slotRecord n := by
  unfold requeuedBlocks
  rw [requeuedAll_slotRecord, emptied_slotRecord]

theorem requeuedBlocks_any (s : State) (n : Nat) (p : SlotRecord → Bool) (hp : ∀ r, p r.returned = p r) :
    ((requeuedBlocks s).slotRecord n).any p = (s.slotRecord n).any p := by
  rw [requeuedBlocks_slotRecord]
  split
  · cases s.slotRecord n <;> simp [hp]
  · rfl

theorem requeuedBlocks_abortedIn (s : State) : (requeuedBlocks s).abortedIn = s.abortedIn :=
  funext fun n => requeuedBlocks_any s n _ SlotRecord.returned_aborted

theorem requeuedBlocks_stream (s : State) (i : StreamId) : (requeuedBlocks s).stream i = { s.stream i with
    sendQueue := s.heldByLink.filter (returnsTo s i) ++ (s.stream i).sendQueue } := by
  have hsame : returnsTo (emptied s) i = returnsTo s i := by
    funext n
    unfold returnsTo
    rw [emptied_slotRecord]
  unfold requeuedBlocks
  rw [requeuedAll_stream, emptied_stream, hsame]

theorem requeuedBlocks_same (s : State) : (requeuedBlocks s).groups = s.groups ∧ (requeuedBlocks s).report = s.report ∧
    (requeuedBlocks s).spill.freeList = s.spill.freeList ∧ (requeuedBlocks s).spill.endWaits = s.spill.endWaits ∧
    (requeuedBlocks s).spill.dram = s.spill.dram := by
  obtain ⟨-, hspill, -, hgroups, -, hreport⟩ := emptied_same s
  obtain ⟨-, -, h1, -, h2, h3, h4, h5⟩ := requeuedAll_same s.heldByLink (emptied s)
  rw [hspill] at h3 h4 h5
  exact ⟨h1.trans hgroups, h2.trans hreport, h3, h4, h5⟩

theorem requeuedBlocks_once (ha : s.abortedIn n = true) (h : s.spill.slots.Once n) :
    (requeuedBlocks s).spill.slots.Once n := by
  refine requeuedAll_once _ ?_ ?_
  · unfold State.abortedIn at ha ⊢
    rwa [emptied_slotRecord]
  · rwa [(emptied_same s).2.1]

/-! ## The return as a whole -/

theorem endsAbort_iff : EndsAbort (requeuedBlocks s) (sendingSlot s) s.heldByLink i ↔
    ∃ b r, s.alt.sending = some b ∧ s.slotRecord b.slot = some r ∧ r.aborted = true ∧ r.stream = i := by
  have hany : ∀ n, ((requeuedBlocks s).slotRecord n).any (fun r => r.stream == i && r.aborted) =
      (s.slotRecord n).any fun r => r.stream == i && r.aborted := fun n =>
    requeuedBlocks_any s n _ fun r => by rw [SlotRecord.returned_stream, SlotRecord.returned_aborted]
  unfold EndsAbort sendingSlot
  simp only [hany, Option.map_eq_some_iff, Option.any_eq_true, Bool.and_eq_true, beq_iff_eq]
  constructor
  · rintro ⟨n, -, ⟨b, hb, rfl⟩, r, hr, hi, ha⟩
    exact ⟨b, r, hb, hr, ha, hi⟩
  · rintro ⟨b, r, hb, hr, ha, hi⟩
    refine ⟨b.slot, ?_, ⟨b, hb, rfl⟩, r, hr, hi, ha⟩
    rw [State.heldByLink_eq, hb]
    simp

section
variable (hnodup : s.heldByLink.Nodup) (hw : s.spill.endWaits = [])
include hnodup hw

theorem freed_returnAll : Freed (requeuedBlocks s) s.returnAll (s.heldByLink.filter s.abortedIn) := by
  have hwaits : (requeuedBlocks s).spill.endWaits = [] := (requeuedBlocks_same s).2.2.2.1.trans hw
  have h := (freed_freeIfAborted (l := s.heldByLink) (sending := sendingSlot s) (freed_nil hwaits) hnodup).1
  rwa [requeuedBlocks_abortedIn] at h

/-- R13, R130: a stream after a return: its queue takes its unmarked blocks, and ABORT of it may be over. -/
theorem returnAll_stream (i : StreamId) : ∃ phase, s.returnAll.stream i = { s.stream i with
      phase := phase
      sendQueue := s.heldByLink.filter (returnsTo s i) ++ (s.stream i).sendQueue
      occupancy := (s.stream i).occupancy -
        (s.heldByLink.filter fun n => (s.slotRecord n).any fun r => r.stream == i && r.aborted).length } ∧
    ((∃ b r, s.alt.sending = some b ∧ s.slotRecord b.slot = some r ∧ r.aborted = true ∧ r.stream = i) →
      (s.stream i).phase = .closing true → phase = .idle) ∧
    (((s.stream i).phase ≠ .closing true ∨ ∀ b r, s.alt.sending = some b → s.slotRecord b.slot = some r →
      r.aborted = true → r.stream ≠ i) → phase = (s.stream i).phase) := by
  have hwaits : (requeuedBlocks s).spill.endWaits = [] := (requeuedBlocks_same s).2.2.2.1.trans hw
  obtain ⟨phase, occupancy, hstream, hidle, hkept⟩ :=
    (freed_freeIfAborted (l := s.heldByLink) (sending := sendingSlot s) (freed_nil hwaits) hnodup).2 i
  have hocc := (freed_returnAll hnodup hw).occupancy i
  rw [List.filter_filter] at hocc
  have hcount : (s.heldByLink.filter fun n => ((requeuedBlocks s).slotRecord n).any (fun r => r.stream == i) && s.abortedIn n) =
      s.heldByLink.filter fun n => (s.slotRecord n).any fun r => r.stream == i && r.aborted := by
    refine List.filter_congr fun n _ => ?_
    rw [requeuedBlocks_any s n _ fun r => by rw [SlotRecord.returned_stream]]
    unfold State.abortedIn
    cases s.slotRecord n <;> rfl
  rw [hcount] at hocc
  rw [requeuedBlocks_stream] at hstream hidle hkept hocc
  rw [endsAbort_iff] at hidle hkept
  have hreturn : s.returnAll.stream i = _ := hstream
  have hoccupancy := congrArg Machine.Stream.occupancy hreturn
  rw [hocc] at hoccupancy
  refine ⟨phase, hreturn.trans ?_, hidle, fun hor => hkept (hor.symm.imp ?_ id)⟩
  · rw [← show _ = occupancy from hoccupancy]
  · rintro hnone ⟨b, r, hb, hr, ha, hi⟩
    exact hnone b r hb hr ha hi

theorem returnAll_records (hn : n ∈ s.heldByLink) (hr : s.slotRecord n = some r) :
    (r.aborted = false → s.returnAll.slotRecord n = some { r with place := .queued }) ∧
    (r.aborted = true → s.spill.slots.Once n → s.returnAll.slotRecord n = none) := by
  have hfreed := freed_returnAll hnodup hw
  have hmark : s.abortedIn n = r.aborted := by
    unfold State.abortedIn
    rw [hr]
    rfl
  constructor
  · intro ha
    rw [hfreed.records n fun hmem => by simp [hmark, ha] at hmem, requeuedBlocks_slotRecord, if_pos hn, hr]
    simp [SlotRecord.returned, ha]
  · intro ha honce
    exact hfreed.cleared n (List.mem_filter.2 ⟨hn, hmark.trans ha⟩) (requeuedBlocks_once (hmark.trans ha) honce)

theorem returnAll_slotRecord_other (hn : n ∉ s.heldByLink) : s.returnAll.slotRecord n = s.slotRecord n := by
  rw [(freed_returnAll hnodup hw).records n fun h => hn (List.mem_filter.1 h).1, requeuedBlocks_slotRecord, if_neg hn]

end

/-! ## A return, with the settling of what it has ended -/

/-- R130: what stands after a return, from the state in which it began. -/
theorem returnedFrom_of {free : List Nat} (hnodup : s.heldByLink.Nodup) (hw : s.spill.endWaits = [])
    (honce : ∀ n ∈ s.heldByLink, s.spill.slots.Once n) (hfree : s.spill.freeList = free) {u : State}
    (hspill : u.spill = s.returnAll.spill) (hstream : ∀ i, u.stream i = s.returnAll.stream i)
    (hops : ∀ o ∈ u.ops, o ∈ s.returnAll.ops ∧ o.ended = none) : ReturnedFrom s u s.heldByLink free := by
  have hfreed := freed_returnAll hnodup hw
  obtain ⟨-, -, hlist, -, hdram⟩ := requeuedBlocks_same s
  refine ⟨?_, ?_, ?_, fun i => ?_, fun n hn r hr => ?_⟩
  · rw [hspill, hfreed.freeList, hlist, hfree]
    rfl
  · rw [hspill]
    exact hfreed.endWaits
  · rw [hspill]
    exact hfreed.dram.trans hdram
  · obtain ⟨phase, hreturn, -⟩ := returnAll_stream hnodup hw i
    rw [hstream, hreturn]
    rfl
  · obtain ⟨hkept, hgone⟩ := returnAll_records hnodup hw hn hr
    refine ⟨fun ha => ?_, fun ha => ⟨?_, fun o ho i reading hk => ?_⟩⟩
    · rw [hspill]
      exact hkept ha
    · unfold Held
      rw [hspill]
      have hnone : s.returnAll.spill.slots.find n = none := hgone ha (honce n hn)
      rw [hnone]
      exact nofun
    · obtain ⟨hmem, hnone⟩ := hops o ho
      have hmarked : n ∈ s.heldByLink.filter s.abortedIn := List.mem_filter.2 ⟨hn, by
        unfold State.abortedIn State.slotRecord
        rw [hr]
        exact ha⟩
      have hended := hfreed.ops n hmarked o hmem (by rw [hk]; simp [OpKind.verifiesSlot])
      rw [hnone] at hended
      cases hended

/-- R158: what stands in the list after the settling has not ended. -/
theorem mem_settleOps_ops {o : PendingOp} (h : o ∈ s.settleOps.ops) : o ∈ s.ops ∧ o.ended = none := by
  have hops : s.settleOps.ops = s.ops.filter fun o => o.ended.isNone := by
    rw [settleOps_foldl]
    have hfold : ∀ (l : List Answer) (u : State), (l.foldl State.offer u).ops = u.ops := fun l => by
      induction l with
      | nil => exact fun _ => rfl
      | cons e l ih => exact fun u => by rw [List.foldl_cons, ih, State.offer_eq]
    rw [hfold]
    rfl
  rw [hops, List.mem_filter] at h
  exact ⟨h.1, Option.isNone_iff_eq_none.1 h.2⟩

/-! ## LINK_DOWN (R123) -/

/-- R123: the state in which a lost link's blocks return. -/
def linkLost (s : State) : State := s.setAlt { s.alt with archiveSync := false, linkState := .down, credits := 0 }

/-- R123: the state after a lost link's return. -/
def afterLoss (s : State) : State :=
  (((linkLost s).returnAll.setAlt { (linkLost s).returnAll.alt with commitTimer := .stopped }).setCounters
    s.counters).raise (.link .linkDown)

theorem exec_linkDown (hloop : s.settings.loopback = false) (hstate : s.alt.linkState ≠ .down) :
    exec .linkDown s = .next (afterLoss s).settleOps := by
  show execLinkDown s = _
  unfold execLinkDown
  dsimp only
  rw [if_neg (by simp [hloop, hstate])]
  rfl

theorem afterLoss_spill (s : State) : (afterLoss s).spill = (linkLost s).returnAll.spill := by
  unfold afterLoss
  rw [State.raise_eq]
  rfl

theorem afterLoss_stream (s : State) (i : StreamId) : (afterLoss s).stream i = (linkLost s).returnAll.stream i :=
  State.raise_stream _ _ _

/-! ## REWIND (R129) -/

/-- R129: the state after an accepted REWIND, its operations not yet settled. -/
def afterRewind (s : State) (k : Nat) : State :=
  let u := (s.commitMany k).returnAll
  let u := u.setAlt (u.alt.addCredits 0)
  u.setAlt u.alt.accepted

theorem exec_rewind {n : BitVec 32} (hsync : s.alt.archiveSync = true) (hloop : s.settings.loopback = false)
    (hn : (n - s.alt.oldest).toNat ≤ s.alt.outstanding.length) :
    exec (.rewind n) s = .next (afterRewind s (n - s.alt.oldest).toNat).settleOps := by
  have htakes := takesInbound_iff.2 ⟨hsync, hloop⟩
  show execRewind n s = _
  unfold execRewind
  rw [if_neg (by simp [htakes])]
  rcases Nat.lt_or_eq_of_le hn with hlt | heq
  · rw [relation_outstanding rfl hlt]
    rfl
  · rw [Transmitter.relation_next heq, heq]
    rfl

theorem afterRewind_alt (s : State) (k : Nat) : (afterRewind s k).alt = { s.alt with
    outstanding := [], staged := none, sending := none, credits := min s.alt.credits 64, commitTimer := .stopped
    linkState := if s.alt.linkState = .stalled then .up else s.alt.linkState } := by
  unfold afterRewind
  dsimp only
  rw [State.setAlt_alt, State.setAlt_alt, returnAll_alt, commitMany_alt]
  rfl

theorem frees_afterRewind (s : State) (k : Nat) : Frees s (afterRewind s k) :=
  ((frees_commitMany s k).trans (frees_returnAll _)).trans ⟨rfl, rfl, rfl, rfl, fun _ h => h⟩

theorem heldByLink_commitMany {k : Nat} (hk : k ≤ s.alt.outstanding.length) :
    (s.commitMany k).heldByLink = s.heldByLink.drop k := by
  rw [State.heldByLink_eq, State.heldByLink_eq, commitMany_alt, List.append_assoc, List.append_assoc,
    List.drop_append_of_le_length (by simpa using hk), List.map_drop]

/-- R129: the slots that REWIND commits come first of those the link holds. -/
theorem heldByLink_take {k : Nat} (hk : k ≤ s.alt.outstanding.length) :
    s.heldByLink.take k = (s.alt.outstanding.map SentBlock.slot).take k := by
  rw [State.heldByLink_eq, List.append_assoc, List.take_append_of_le_length (by simpa using hk)]

theorem commitHead_aborting (h : (s.stream i).phase = .closing true) : (s.commitHead.stream i).phase = .closing true := by
  unfold State.commitHead
  split
  · exact h
  · next b rest ho =>
    dsimp only
    rw [State.freeSlot_stream_phase]
    split
    · next r hr =>
      by_cases hi : i = r.stream
      · subst hi
        obtain ⟨phase, hstream, -, hkept⟩ := reportCommit_stream (s.setAlt { s.alt with outstanding := rest }) r
        have hphase : phase = .closing true := (hkept fun hends => by
          have hclosing : (s.stream r.stream).phase = .closing false := hends.2.1
          rw [h] at hclosing
          cases hclosing).trans h
        exact (congrArg Machine.Stream.phase hstream).trans hphase
      · rw [State.reportCommit_stream_other _ _ hi]
        exact h
    · exact h

theorem commitMany_aborting (k : Nat) (h : (s.stream i).phase = .closing true) :
    ((s.commitMany k).stream i).phase = .closing true := by
  induction k with
  | zero => exact h
  | succ k ih => exact commitHead_aborting ih

end Sys2Proof.Machine

namespace Sys2Proof

open Machine Safety

/-- Settles O36: without marked blocks the freeing is idle; with them the return's parts follow one by one. -/
theorem linkDownReturnsEveryBlock : Obligations.LinkDownReturnsEveryBlock := by
  intro s
  refine ⟨fun hor => ?_, fun hloop hstate => ⟨_, exec_linkDown hloop hstate, ?_, ?_, ?_, ?_, ?_, fun hmask => ?_,
    fun hmarks => ?_, fun hnodup hheld hw hkeys => ⟨?_, fun i hsend hphase => ?_, fun i hor => ?_, fun i => ?_⟩⟩⟩
  · show execLinkDown s = _
    unfold execLinkDown
    dsimp only
    rw [if_pos (by simpa using hor)]
    rfl
  · rw [settleOps_eq]
    show (afterLoss s).alt = _
    unfold afterLoss
    rw [State.raise_alt, State.setCounters_alt, State.setAlt_alt, returnAll_alt]
    rfl
  · rw [(frees_settleOps _).layout]
    exact (State.raise_layout _ _).trans (frees_returnAll (linkLost s)).layout
  · rw [(frees_settleOps _).settings]
    exact (State.raise_settings _ _).trans (frees_returnAll (linkLost s)).settings
  · rw [(frees_settleOps _).receiver]
    exact (State.raise_receiver _ _).trans (frees_returnAll (linkLost s)).receiver
  · rw [settleOps_eq]
    exact State.raise_counters _ _
  · rw [State.settleOps_events]
    unfold afterLoss
    rw [raise_report]
    have henabled : (((linkLost s).returnAll.setAlt { (linkLost s).returnAll.alt with commitTimer := .stopped }).setCounters
        s.counters).enabled (.link .linkDown) = true := by
      show (linkLost s).returnAll.settings.linkMask.getLsbD 1 = true
      rw [(frees_returnAll (linkLost s)).settings]
      exact hmask
    rw [henabled]
    exact mem_raisedIn _ _
  · have hreturn : (linkLost s).returnAll = requeuedBlocks (linkLost s) := by
      rw [returnAll_eq]
      refine foldl_freeIfAborted_of_not fun n hn => ?_
      obtain ⟨r, hr, ha⟩ := hmarks n hn
      rw [requeuedBlocks_abortedIn]
      show (s.spill.slots.find n).any _ = false
      rw [hr]
      exact ha
    obtain ⟨hgroups, -, hlist, hwaits, hdram⟩ := requeuedBlocks_same (linkLost s)
    have hspill := afterLoss_spill s
    rw [hreturn] at hspill
    refine ⟨fun i => ?_, ?_, ?_, ?_, ?_⟩
    · rw [State.settleOps_stream, afterLoss_stream, hreturn, requeuedBlocks_stream]
      have hqueue : (linkLost s).heldByLink.filter (returnsTo (linkLost s) i) =
          s.heldByLink.filter fun n => (s.spill.slots.find n).any fun r => r.stream == i := by
        refine List.filter_congr fun n hn => ?_
        obtain ⟨r, hr, ha⟩ := hmarks n hn
        show (s.spill.slots.find n).any _ = _
        rw [hr]
        simp [ha]
      rw [hqueue]
      rfl
    · rw [State.settleOps_spill, hspill]
      exact hlist
    · rw [State.settleOps_spill, hspill]
      exact hwaits
    · rw [State.settleOps_spill, hspill]
      exact hdram
    · rw [settleOps_eq]
      show (afterLoss s).groups = s.groups
      unfold afterLoss
      rw [State.raise_groups, hreturn]
      exact hgroups
  · exact returnedFrom_of (s := linkLost s) hnodup hw (fun n _ => SlotMap.once_of_nodup hkeys n) rfl
      ((State.settleOps_spill _).trans (afterLoss_spill s))
      (fun i => (State.settleOps_stream _ _).trans (afterLoss_stream s i))
      fun o ho => by
        obtain ⟨hmem, hnone⟩ := mem_settleOps_ops ho
        unfold afterLoss at hmem
        rw [State.raise_ops] at hmem
        exact ⟨hmem, hnone⟩
  · obtain ⟨phase, hstream, hidle, -⟩ := returnAll_stream (s := linkLost s) hnodup hw i
    rw [State.settleOps_stream, afterLoss_stream, hstream]
    exact hidle hsend hphase
  · obtain ⟨phase, hstream, -, hkept⟩ := returnAll_stream (s := linkLost s) hnodup hw i
    rw [State.settleOps_stream, afterLoss_stream, hstream]
    exact hkept hor
  · obtain ⟨phase, hstream, -⟩ := returnAll_stream (s := linkLost s) hnodup hw i
    rw [State.settleOps_stream, afterLoss_stream, hstream]
    rfl

/-- Settles O38: the commits of the entries below, then the return of what the link still holds. -/
theorem rewindEmptiesTheTransmitter : Obligations.RewindEmptiesTheTransmitter := by
  intro s n hsync hloop hn
  have hfrees := (frees_afterRewind s (n - s.alt.oldest).toNat).trans (frees_settleOps _)
  refine ⟨_, exec_rewind hsync hloop hn, ?_, hfrees.layout, hfrees.settings, hfrees.receiver,
    fun gone back hgone hback hnodup hheld hw hkeys => ?_⟩
  · rw [settleOps_eq]
    exact afterRewind_alt _ _
  · generalize (n - s.alt.oldest).toNat = k at *
    have hlink := heldByLink_commitMany hn
    rw [← hback] at hlink
    have hsplit : s.heldByLink = gone ++ back := by rw [hgone, hback, ← heldByLink_take hn, List.take_append_drop]
    rw [hsplit] at hnodup hheld
    obtain ⟨hnodupGone, hnodupBack, -⟩ := List.nodup_append.1 hnodup
    obtain ⟨hfreed, hcount⟩ := commitMany_spec hw (hgone ▸ hnodupGone)
      (fun a ha => hheld a (List.mem_append_left _ (hgone ▸ ha))) hn
    rw [← hgone] at hfreed hcount
    have hapart : ∀ a ∈ back, a ∉ gone := fun a ha hg => List.disjoint_of_nodup_append hnodup hg ha
    have hrecord : ∀ a ∈ back, (s.commitMany k).slotRecord a = s.slotRecord a := fun a ha =>
      hfreed.records a (hapart a ha)
    have hnodup' : (s.commitMany k).heldByLink.Nodup := hlink ▸ hnodupBack
    have hspill : (afterRewind s k).settleOps.spill = (s.commitMany k).returnAll.spill := State.settleOps_spill _
    have hstream : ∀ i, (afterRewind s k).settleOps.stream i = (s.commitMany k).returnAll.stream i := fun i =>
      State.settleOps_stream _ i
    have hreturned := returnedFrom_of hnodup' hfreed.endWaits
      (fun a ha => hfreed.once a (hapart a (hlink ▸ ha)) (SlotMap.once_of_nodup hkeys a)) hfreed.freeList hspill hstream
      fun o ho => mem_settleOps_ops (s := afterRewind s k) ho
    rw [hlink] at hreturned
    refine ⟨?_, fun a ha => ?_, fun b r hb hr haborted hphase => ?_, fun i => ?_⟩
    · obtain ⟨hfree, hwaits, hdram, hqueue, hrecords⟩ := hreturned
      refine ⟨hfree.trans ?_, hwaits, hdram.trans hfreed.dram, fun i => (hqueue i).trans ?_, fun a ha r hr => ?_⟩
      · exact congrArg (_ ++ ·) (List.filter_congr fun a ha => congrArg (Option.any _) (hrecord a ha))
      · rw [hfreed.sendQueue]
        exact congrArg (· ++ _) (List.filter_congr fun a ha => congrArg (Option.any _) (hrecord a ha))
      · exact hrecords a ha r ((hrecord a ha).trans hr)
    · have hout : a ∉ (s.commitMany k).heldByLink := hlink ▸ fun hb => hapart a hb ha
      have hnone : (s.commitMany k).returnAll.spill.slots.find a = none :=
        (returnAll_slotRecord_other hnodup' hfreed.endWaits hout).trans
          (hfreed.cleared a ha (SlotMap.once_of_nodup hkeys a))
      unfold Held
      rw [hspill, hnone]
      exact nofun
    · obtain ⟨phase, hreturn, hidle, -⟩ := returnAll_stream hnodup' hfreed.endWaits r.stream
      rw [hstream, hreturn]
      have hsend : (s.commitMany k).alt.sending = some b := by
        rw [commitMany_alt]
        exact hb
      have hmem : b.slot ∈ back := by
        rw [← hlink, State.heldByLink_eq, hsend]
        simp
      exact hidle ⟨b, r, hsend, (hrecord _ hmem).trans hr, haborted, rfl⟩ (commitMany_aborting k hphase)
    · obtain ⟨phase, hreturn, -⟩ := returnAll_stream hnodup' hfreed.endWaits i
      rw [hstream, hreturn]
      exact hcount i

end Sys2Proof
end

section
/-! PROOFS. ABORT STREAM (R12). -/

-- One theorem at a time: the stacks of a thread each would exceed the memory of the check.
set_option Elab.async false

namespace Sys2Proof.Machine

open Sys2Proof.Safety

variable {s : State} {i j : StreamId} {n : Nat} {r : SlotRecord}

/-! ## What the freeing of slots leaves of a stream that does not wait -/

theorem freeSlot_stream_free (hi : i ∉ s.spill.endWaits) (n : Nat) : i ∉ (s.freeSlot n).spill.endWaits ∧
    ∃ occupancy, (s.freeSlot n).stream i = { s.stream i with occupancy := occupancy } := by
  cases hr : s.slotRecord n with
  | none =>
    have hsame : s.freeSlot n = s := by
      unfold State.freeSlot
      rw [hr]
    rw [hsame]
    exact ⟨hi, (s.stream i).occupancy, rfl⟩
  | some r =>
    cases hw : s.spill.endWaits with
    | nil =>
      obtain ⟨-, hwaits, -, -, -, -, hothers, hself, -⟩ := State.freeSlot_spec hr hw
      rw [hwaits]
      refine ⟨List.not_mem_nil, ?_⟩
      by_cases h : i = r.stream
      · subst h
        exact ⟨_, hself⟩
      · exact ⟨(s.stream i).occupancy, hothers i h⟩
    | cons j waits =>
      rw [hw, List.mem_cons, not_or] at hi
      obtain ⟨v, hv, hwaits, -, -, -, hstream, -⟩ := freeSlot_waiting hr hw
      rw [hv, State.openEndBlock_endWaits, hwaits, State.openEndBlock_stream_other _ _ _ hi.1]
      refine ⟨hi.2, (v.stream i).occupancy, ?_⟩
      rw [← hstream i]

theorem foldl_freeSlot_stream_free (hi : i ∉ s.spill.endWaits) (l : List Nat) :
    ∃ occupancy, (l.foldl State.freeSlot s).stream i = { s.stream i with occupancy := occupancy } := by
  induction l generalizing s with
  | nil => exact ⟨(s.stream i).occupancy, rfl⟩
  | cons n l ih =>
    obtain ⟨hfree, occ, hone⟩ := freeSlot_stream_free hi n
    obtain ⟨occupancy, hall⟩ := ih hfree
    rw [List.foldl_cons, hall, hone]
    exact ⟨occupancy, rfl⟩

theorem foldl_freeSlot_alt (l : List Nat) (s : State) : (l.foldl State.freeSlot s).alt = s.alt := by
  induction l generalizing s with
  | nil => rfl
  | cons n l ih => rw [List.foldl_cons, ih, freeSlot_alt]

theorem frees_foldl_freeSlot (l : List Nat) (s : State) : Frees s (l.foldl State.freeSlot s) := by
  induction l generalizing s with
  | nil => exact .refl s
  | cons n l ih => exact (frees_freeSlot s n).trans (ih _)

/-! ## The operations of a stream, once they have ended -/

/-- R12: the operations that ABORT of a stream ends have ended. -/
def OwnEnded (i : StreamId) (ops : List PendingOp) : Prop :=
  ∀ o ∈ ops, o.kind.belongsTo i = true → o.ended.isSome = true

theorem ownEnded_map {ops : List PendingOp} {f : PendingOp → PendingOp} (h : OwnEnded i ops)
    (hkind : ∀ o, (f o).kind.belongsTo i = o.kind.belongsTo i)
    (hended : ∀ o, o.ended.isSome = true → (f o).ended.isSome = true) : OwnEnded i (ops.map f) := by
  intro o ho hb
  obtain ⟨p, hp, rfl⟩ := List.mem_map.1 ho
  exact hended p (h p hp ((hkind p).symm.trans hb))

theorem ownEnded_endIf {ops : List PendingOp} (h : OwnEnded i ops) (p : OpKind → Bool) (e : OpEnd) :
    OwnEnded i (ops.map fun o => o.endIf p e) :=
  ownEnded_map h (fun o => by rw [endIf_kind]) fun o ho => by rw [endIf_ended, ho, Bool.true_or]

theorem ownEnded_sawIdle {ops : List PendingOp} (h : OwnEnded i ops) (b : Bool) :
    OwnEnded i (ops.map fun o => o.sawIdle j b) := by
  refine ownEnded_map h (fun o => ?_) fun o ho => sawIdle_ended o b ho
  unfold PendingOp.sawIdle
  split
  · next hk =>
    split
    · rw [hk]; rfl
    · rfl
  · rfl

theorem ownEnded_verifiesBegun {ops : List PendingOp} (h : OwnEnded i ops) (n : Nat) : OwnEnded i (verifiesBegun n ops) := by
  refine ownEnded_map h (fun o => ?_) fun o ho => ?_
  · cases hk : o.kind <;> simp [OpKind.belongsTo, hk]
  · cases hk : o.kind <;> exact ho

theorem ownEnded_freeSlot (h : OwnEnded i s.ops) (n : Nat) : OwnEnded i (s.freeSlot n).ops := by
  unfold State.freeSlot
  split
  · exact h
  · dsimp only
    have hgone := ownEnded_endIf h (OpKind.verifiesSlot n) ⟨.gone, false, false⟩
    have hops : (s.verifiesGone n).ops = s.ops.map fun o => o.endIf (OpKind.verifiesSlot n) ⟨.gone, false, false⟩ := by
      simp [State.verifiesGone, State.endOps]
    rw [← hops] at hgone
    unfold State.placeFreed
    split
    · exact hgone
    · rw [openEndBlock_ops]
      exact ownEnded_verifiesBegun hgone n

theorem ownEnded_foldl_freeSlot (l : List Nat) (h : OwnEnded i s.ops) : OwnEnded i (l.foldl State.freeSlot s).ops := by
  induction l generalizing s with
  | nil => exact h
  | cons n l ih => exact ih (ownEnded_freeSlot h n)

/-- R100, R158: an operation that has ended stays as it is while slots go free. -/
theorem foldl_freeSlot_ops {o : PendingOp} {e : OpEnd} (hops : s.ops = [o]) (hended : o.ended = some e)
    (l : List Nat) (hw : s.spill.endWaits = []) : (l.foldl State.freeSlot s).ops = [o] := by
  induction l generalizing s with
  | nil => exact hops
  | cons n l ih =>
    cases hr : s.slotRecord n with
    | none =>
      have hsame : s.freeSlot n = s := by
        unfold State.freeSlot
        rw [hr]
      rw [List.foldl_cons, hsame]
      exact ih hops hw
    | some r =>
      refine ih ?_ (freedOne_freeSlot hr hw).endWaits
      rw [freeSlot_ops hr hw, hops]
      simp [PendingOp.endIf, hended]

/-! ## ABORT of a RUNNING or CLOSING stream -/

theorem abortOps_ops (s : State) (i : StreamId) :
    (s.abortOps i).ops = s.ops.map fun o => o.endIf (OpKind.belongsTo i) ⟨.aborted, false, false⟩ := by
  have hreads := State.foldl_abandonRead_induction (s := s) (fun t => t.ops) (fun t n => t.abandonRead_ops n)
  unfold State.abortOps State.endOps
  dsimp only
  rw [hreads]
  rfl

theorem abortOps_frees (s : State) (i : StreamId) : Frees s (s.abortOps i) ∧ (s.abortOps i).report = s.report := by
  have hreads := State.foldl_abandonRead_induction (s := s)
    (fun t => (t.layout, t.settings, t.receiver, t.counters.checkFail, t.report)) (fun _ _ => rfl)
  unfold State.abortOps State.endOps
  simp only [Prod.mk.injEq] at hreads
  dsimp only
  obtain ⟨h1, h2, h3, h4, h5⟩ := hreads _
  exact ⟨⟨h1, h2, h3, h4, fun _ h => h5 ▸ h⟩, h5⟩

/-- R12: the operations have ended, and STAGED has dropped a block of the stream. -/
def abortDropped (s : State) (i : StreamId) : State :=
  if (s.stagedFor i).isEmpty then s.abortOps i else (s.abortOps i).dropStaged

theorem abortDropped_same (s : State) (i : StreamId) : Frees s (abortDropped s i) ∧
    (abortDropped s i).alt = { s.alt with staged := if s.stagedFor i = [] then s.alt.staged else none } ∧
    (abortDropped s i).spill = s.spill ∧ (∀ j, (abortDropped s i).stream j = s.stream j) ∧
    (abortDropped s i).ops = s.ops.map (fun o => o.endIf (OpKind.belongsTo i) ⟨.aborted, false, false⟩) ∧
    (abortDropped s i).report = s.report := by
  obtain ⟨hfrees, hreport⟩ := abortOps_frees s i
  unfold abortDropped
  by_cases h : s.stagedFor i = []
  · rw [if_pos (by simp [h]), if_pos h]
    exact ⟨hfrees, State.abortOps_alt, State.abortOps_spill, fun j => State.abortOps_stream, abortOps_ops s i, hreport⟩
  · rw [if_neg (by simpa using h), if_neg h]
    obtain ⟨k1, k2, k3, k4, k5, k6⟩ := dropStaged_same (s.abortOps i)
    refine ⟨hfrees.trans k1, ?_, k2.trans State.abortOps_spill, fun j => ?_, k5.trans (abortOps_ops s i), k6.trans hreport⟩
    · rw [dropStaged_alt, State.abortOps_alt]
    · rw [State.dropStaged_stream, State.abortOps_stream]

theorem abortHeld_eq (s : State) (i : StreamId) : s.abortHeld i =
    ((((abortDropped s i).setSpill { (abortDropped s i).spill with
      endWaits := (abortDropped s i).spill.endWaits.filter fun j => j != i }).setStream i
      { (s.stream i).dropped with phase := .closing true }).judgeFor i).markAborted i := by
  have hsame : (abortDropped s i).stream i = s.stream i := (abortDropped_same s i).2.2.2.1 i
  rw [← hsame]
  unfold State.abortHeld abortDropped
  dsimp only
  rw [State.stagedFor_abortOps]
  rfl

/-- R12: what ABORT of a stream leaves before its slots go free. -/
theorem abortHeld_same (s : State) (i : StreamId) : Frees s (s.abortHeld i) ∧
    (s.abortHeld i).alt = { s.alt with staged := if s.stagedFor i = [] then s.alt.staged else none } ∧
    (s.abortHeld i).stream i = { (s.stream i).dropped with phase := .closing true } ∧
    (∀ j, j ≠ i → (s.abortHeld i).stream j = s.stream j) ∧
    (s.abortHeld i).ops = s.ops.map (fun o => o.endIf (OpKind.belongsTo i) ⟨.aborted, false, false⟩) ∧
    (s.abortHeld i).report = s.report ∧
    (s.abortHeld i).spill.freeList = s.spill.freeList ∧ (s.abortHeld i).spill.dram = s.spill.dram ∧
    (s.abortHeld i).spill.endWaits = (s.spill.endWaits.filter fun j => j != i) ∧
    (s.abortHeld i).spill.slots.map Prod.fst = s.spill.slots.map Prod.fst ∧
    ∀ n, (s.abortHeld i).slotRecord n = (s.slotRecord n).map fun r =>
      if r.stream = i ∧ (r.place = .sending ∨ r.place = .outstanding) then { r with aborted := true } else r := by
  obtain ⟨hfrees, halt, hspill, hstream, hops, hreport⟩ := abortDropped_same s i
  rw [abortHeld_eq]
  refine ⟨hfrees.trans ⟨rfl, rfl, rfl, rfl, fun _ h => h⟩, halt, ?_, fun j hj => ?_, hops, hreport, ?_, ?_, ?_, ?_, fun n => ?_⟩
  · rw [State.markAborted_stream, State.judgeFor_stream, State.setStream_stream_self]
  · rw [State.markAborted_stream, State.judgeFor_stream, State.setStream_stream_other _ _ hj]
    exact hstream j
  · show (abortDropped s i).spill.freeList = _
    rw [hspill]
  · show (abortDropped s i).spill.dram = _
    rw [hspill]
  · show (abortDropped s i).spill.endWaits.filter _ = _
    rw [hspill]
  · simp only [State.markAborted, State.setSpill_spill, State.judgeFor_slots, State.setStream_spill, List.map_map, hspill]
    refine List.map_congr_left fun x _ => ?_
    simp only [Function.comp]
    split <;> rfl
  · rw [State.markAborted_slotRecord]
    have hsame : (abortDropped s i).slotRecord n = s.slotRecord n := by
      unfold State.slotRecord
      rw [hspill]
    show ((abortDropped s i).slotRecord n).map _ = _
    rw [hsame]
    simp only [Bool.and_eq_true, Bool.or_eq_true, beq_iff_eq]

/-! ## The slots go free, and the run is over -/

/-- R12: the state in which the slots of an aborted stream have gone free. -/
def abortFreed (s : State) (i : StreamId) : State := (s.abortedSlots i).foldl State.freeSlot (s.abortHeld i)

theorem abortRun_freed (s : State) (i : StreamId) :
    s.abortRun i = if s.sendsFor i then abortFreed s i else (abortFreed s i).enterIdle i true := State.abortRun_eq

theorem abortRun_alt (s : State) (i : StreamId) :
    (s.abortRun i).alt = { s.alt with staged := if s.stagedFor i = [] then s.alt.staged else none } := by
  have hfreed : (abortFreed s i).alt = (s.abortHeld i).alt := foldl_freeSlot_alt _ _
  rw [← (abortHeld_same s i).2.1, ← hfreed, abortRun_freed]
  split <;> rfl

theorem frees_abortRun (s : State) (i : StreamId) : Frees s (s.abortRun i) := by
  have hfreed : Frees s (abortFreed s i) := (abortHeld_same s i).1.trans (frees_foldl_freeSlot _ _)
  rw [abortRun_freed]
  split
  · exact hfreed
  · exact hfreed.trans ⟨rfl, rfl, rfl, rfl, fun _ h => h⟩

/-- R12, R13: the stream's own context after ABORT. -/
theorem abortRun_stream (s : State) (i : StreamId) : ∃ occupancy, (s.abortRun i).stream i = { (s.stream i).dropped with
      phase := if s.sendsFor i = true then .closing true else .idle, occupancy := occupancy } ∧
    occupancy = ((abortFreed s i).stream i).occupancy := by
  obtain ⟨-, -, hself, -, -, -, -, -, hwaits, -⟩ := abortHeld_same s i
  have hfree : i ∉ (s.abortHeld i).spill.endWaits := by simp [hwaits]
  obtain ⟨occ, hfreed⟩ := foldl_freeSlot_stream_free hfree (s.abortedSlots i)
  have hstream : (abortFreed s i).stream i = _ := hfreed
  rw [hself] at hstream
  rw [abortRun_freed, hstream]
  refine ⟨occ, ?_, rfl⟩
  split
  · exact hstream
  · unfold State.enterIdle
    rw [State.setOps_stream, State.setStream_stream_self, hstream]

theorem abortRun_stream_other (s : State) (hj : j ≠ i) : (s.abortRun i).stream j = (abortFreed s i).stream j := by
  rw [abortRun_freed]
  split
  · rfl
  · exact State.enterIdle_stream_other _ _ _ hj

theorem abortRun_spill (s : State) (i : StreamId) : (s.abortRun i).spill = (abortFreed s i).spill := by
  rw [abortRun_freed]
  split <;> rfl

theorem abortRun_report (s : State) (i : StreamId) : (s.abortRun i).report = (abortFreed s i).report := by
  rw [abortRun_freed]
  split <;> rfl

theorem ownEnded_abortRun (s : State) (i : StreamId) : OwnEnded i (s.abortRun i).ops := by
  have hheld : OwnEnded i (s.abortHeld i).ops := by
    rw [(abortHeld_same s i).2.2.2.2.1]
    intro o ho hb
    obtain ⟨p, hp, rfl⟩ := List.mem_map.1 ho
    rw [endIf_kind] at hb
    rw [endIf_ended, hb, Bool.or_true]
  have hfreed : OwnEnded i (abortFreed s i).ops := ownEnded_foldl_freeSlot _ hheld
  rw [abortRun_freed]
  split
  · exact hfreed
  · exact ownEnded_sawIdle hfreed true

/-- R158: the stream's operation that stands in the list alone completes ABORTED. -/
theorem abortRun_completes {o : PendingOp} (hops : s.ops = [o]) (hnone : o.ended = none) (hown : o.kind.belongsTo i = true)
    (hreply : o.reply = true) (hw : ∀ j ∈ s.spill.endWaits, j = i) (hreport : (s.abortRun i).report = s.report) :
    (s.abortRun i).settleOps.ops = [] ∧ (s.abortRun i).settleOps.report =
      admitted s.report (o.completion ⟨.aborted, false, false⟩).marked := by
  obtain ⟨-, -, -, -, hheld, -, -, -, hwaits, -⟩ := abortHeld_same s i
  have hempty : (s.abortHeld i).spill.endWaits = [] := by
    rw [hwaits, List.filter_eq_nil_iff]
    intro j hj
    simp [hw j hj]
  have hended : (s.abortHeld i).ops = [{ o with ended := some ⟨.aborted, false, false⟩ }] := by
    rw [hheld, hops]
    simp [PendingOp.endIf, hnone, hown]
  have hfreed : (abortFreed s i).ops = [{ o with ended := some ⟨.aborted, false, false⟩ }] :=
    foldl_freeSlot_ops hended rfl _ hempty
  have hrun : (s.abortRun i).ops = [] ++ { o with ended := some ⟨.aborted, false, false⟩ } :: [] := by
    rw [abortRun_freed]
    split
    · exact hfreed
    · show (abortFreed s i).ops.map _ = _
      rw [hfreed, List.map_singleton, sawIdle_other fun g members waiting aborted hk => by rw [show o.kind = _ from hk] at hown; cases hown]
      rfl
  rw [settleOps_single hrun rfl (by simp), if_pos hreply, hreport]
  exact ⟨rfl, rfl⟩

/-- R12, R86: where no other stream waits, the slots that the stream gives back go free, once each. -/
theorem freed_abortFreed (hw : ∀ j ∈ s.spill.endWaits, j = i) (hnodup : (s.abortedSlots i).Nodup)
    (hheld : ∀ n ∈ s.abortedSlots i, ∃ r, s.spill.slots.find n = some r ∧ r.stream = i) :
    Freed (s.abortHeld i) (abortFreed s i) (s.abortedSlots i) := by
  obtain ⟨-, -, -, -, -, -, -, -, hwaits, -, hrecords⟩ := abortHeld_same s i
  have hempty : (s.abortHeld i).spill.endWaits = [] := by
    rw [hwaits, List.filter_eq_nil_iff]
    intro j hj
    simp [hw j hj]
  refine freed_foldl (gone := []) State.freeSlot (fun t n r hr hw => freedOne_freeSlot hr hw) (freed_nil hempty) hnodup fun n hn => ?_
  obtain ⟨r, hr, -⟩ := hheld n hn
  have hrecord := hrecords n
  unfold State.slotRecord at hrecord
  unfold Held
  rw [hrecord, hr]
  rfl

/-- R165: an answer raises no event. -/
theorem answeredDone_events (x : ReportUnit) (code : Byte) (d : Directive) (v : Verdict) (payload : List Byte) :
    (answeredDone x code d v payload).events = x.events := by
  unfold answeredDone answered admitted
  split
  · split <;> rfl
  · rfl

/-- R158: with no operation that has ended there is nothing to settle. -/
theorem settleOps_of_none (h : ∀ o ∈ s.ops, o.ended = none) : s.settleOps = s := by
  have hkept : s.ops.filter (fun o => o.ended.isNone) = s.ops :=
    List.filter_eq_self.2 fun o ho => by rw [h o ho]; rfl
  have hgives : s.ops.filterMap completionOf = [] := List.filterMap_eq_nil_iff.2 fun o ho => by
    unfold completionOf
    rw [h o ho]
  rw [settleOps_foldl, hkept, hgives]
  rfl

end Sys2Proof.Machine

namespace Sys2Proof

open Machine Safety

/-- Settles O16: the phases one by one; in a run, what is dropped, the slots that go free, and the operations that end. -/
theorem abortStreamGivesBackItsSlots : Obligations.AbortStreamGivesBackItsSlots := by
  intro s d i hd hi
  have hexec : exec (.abortStream d) s = .next { (abortStreamEffect i s).1 with
      report := answeredDone (abortStreamEffect i s).1.report 0x14 d .done [] } := by
    rw [exec_abortStream hi]
    exact congrArg Host.Outcome.next (directive_done (v := .done) hd (.inl rfl))
  refine ⟨fun hnone hphase => ?_, fun how hphase => ⟨_, hexec, ?_, ?_, ?_⟩, fun hphase => ?_⟩
  · have heffect : (abortStreamEffect i s).1 = s := by
      unfold abortStreamEffect
      rcases hphase with hphase | hphase <;> rw [hphase] <;> exact settleOps_of_none hnone
    rw [hexec, heffect]
  · unfold abortStreamEffect
    rw [hphase]
    dsimp only
    rw [settleOps_eq]
    rfl
  · unfold abortStreamEffect
    rw [hphase]
    dsimp only
    rw [State.settleOps_spill]
    rfl
  · unfold abortStreamEffect
    rw [hphase]
    dsimp only
    rw [settleOps_eq]
    rfl
  · have heffect : (abortStreamEffect i s).1 = (s.abortRun i).settleOps := by
      unfold abortStreamEffect
      rcases hphase with ⟨sub, hphase⟩ | hphase <;> rw [hphase]
    rw [heffect] at hexec
    obtain ⟨occ, hstream, hocc⟩ := abortRun_stream s i
    have hself : (s.abortRun i).settleOps.stream i = _ := (State.settleOps_stream _ i).trans hstream
    have hoccupancy := congrArg Machine.Stream.occupancy hself
    have hfrees := (frees_abortRun s i).trans (frees_settleOps _)
    have hspill : (s.abortRun i).settleOps.spill = (abortFreed s i).spill :=
      (State.settleOps_spill _).trans (abortRun_spill s i)
    refine ⟨_, hexec, ?_, ?_, fun _ o ho => ?_, hfrees.layout, hfrees.settings, hfrees.receiver,
      fun hw hnodup hheld => ?_⟩
    · refine hself.trans ?_
      exact congrArg (fun o => { (s.stream i).dropped with
        phase := if s.sendsFor i = true then .closing true else .idle, occupancy := o }) hoccupancy.symm
    · show (s.abortRun i).settleOps.alt = _
      rw [settleOps_eq]
      exact abortRun_alt s i
    · obtain ⟨hmem, hnone⟩ := mem_settleOps_ops ho
      have hown := ownEnded_abortRun s i o hmem
      rw [hnone] at hown
      constructor
      · intro hk
        rw [hk] at hown
        simp [OpKind.belongsTo] at hown
      · intro n reading hk
        rw [hk] at hown
        simp [OpKind.belongsTo] at hown
    · have hfreed := freed_abortFreed hw hnodup hheld
      obtain ⟨-, -, hheldSelf, hheldOther, -, hheldReport, hlist, hdram, -, hkeys, hrecords⟩ := abortHeld_same s i
      have hreport : (s.abortRun i).report = s.report := (abortRun_report s i).trans (hfreed.report.trans hheldReport)
      refine ⟨?_, fun j hj => ?_, ?_, ?_, ?_, ?_, fun n hn => ?_, fun hnodupKeys n hn => ?_, fun tag hops => ?_,
        fun tag n reading hops => ?_⟩
      · show ((s.abortRun i).settleOps.stream i).occupancy = _
        have hall : (s.abortedSlots i).filter (fun n => ((s.abortHeld i).slotRecord n).any fun r => r.stream == i) =
            s.abortedSlots i := List.filter_eq_self.2 fun n hn => by
          obtain ⟨r, hr, hri⟩ := hheld n hn
          have hfind : s.slotRecord n = some r := hr
          rw [hrecords, hfind]
          simp only [Option.map_some, Option.any_some, beq_iff_eq]
          split <;> exact hri
        rw [hoccupancy]
        refine hocc.trans ((hfreed.occupancy i).trans ?_)
        rw [hall, hheldSelf]
        rfl
      · show (s.abortRun i).settleOps.stream j = _
        rw [State.settleOps_stream, abortRun_stream_other s hj]
        refine (hfreed.others j fun n hn r hr hrj => ?_).trans (hheldOther j hj)
        obtain ⟨q, hq, hqi⟩ := hheld n hn
        have hfind : s.slotRecord n = some q := hq
        rw [hrecords, hfind] at hr
        simp only [Option.map_some, Option.some.injEq] at hr
        have hri : r.stream = q.stream := by
          rw [← hr]
          split <;> rfl
        exact hj (hrj.symm.trans (hri.trans hqi))
      · show (s.abortRun i).settleOps.spill.freeList = _
        rw [hspill, hfreed.freeList, hlist]
      · show (s.abortRun i).settleOps.spill.endWaits = _
        rw [hspill, hfreed.endWaits]
      · show (s.abortRun i).settleOps.spill.dram = _
        rw [hspill, hfreed.dram, hdram]
      · show (answeredDone (s.abortRun i).settleOps.report 0x14 d .done []).events = _
        rw [answeredDone_events, State.settleOps_events, hreport]
      · show (s.abortRun i).settleOps.spill.slots.find n = _
        rw [hspill]
        exact (hfreed.records n hn).trans (hrecords n)
      · show ¬ ((s.abortRun i).settleOps.spill.slots.find n).isSome = true
        have honce : (s.abortHeld i).spill.slots.Once n := SlotMap.once_of_nodup (by rw [hkeys]; exact hnodupKeys) n
        have hnone : (abortFreed s i).spill.slots.find n = none := hfreed.cleared n hn honce
        rw [hspill, hnone]
        exact nofun
      · obtain ⟨hempty, hcompleted⟩ := abortRun_completes (i := i) hops rfl (by simp [OpKind.belongsTo]) rfl hw hreport
        refine ⟨hempty, ?_⟩
        show answeredDone (s.abortRun i).settleOps.report 0x14 d .done [] = _
        rw [hcompleted]
        rfl
      · obtain ⟨hempty, hcompleted⟩ := abortRun_completes (i := i) hops rfl (by simp [OpKind.belongsTo]) rfl hw hreport
        refine ⟨hempty, ?_⟩
        show answeredDone (s.abortRun i).settleOps.report 0x14 d .done [] = _
        rw [hcompleted]
        rfl

end Sys2Proof
end

section
/-! PROOFS. The bytes of a read that met uncorrectable lines, and the rewriting of a block's header in its bytes (R92, R94,
R98). -/

-- One theorem at a time: the stacks of a thread each would exceed the memory of the check.
set_option Elab.async false

namespace Sys2Proof.Machine

open Sys2Proof.Safety

/-! ## Bytes replaced in a list of bytes -/

theorem byteAt_splice_outside {bs new : List Byte} {offset a : Nat} (h : offset + new.length ≤ bs.length)
    (ha : a < offset ∨ offset + new.length ≤ a) : byteAt (splice bs offset new) a = byteAt bs a := by
  have htake : (bs.take offset).length = offset := by rw [List.length_take]; omega
  unfold byteAt splice
  simp only [List.getD_eq_getElem?_getD]
  rcases ha with ha | ha
  · rw [List.append_assoc, List.getElem?_append_left (by omega), List.getElem?_take_of_lt ha]
  · have hfront : (bs.take offset ++ new).length = offset + new.length := by rw [List.length_append, htake]
    rw [List.getElem?_append_right (by omega), hfront, List.getElem?_drop]
    congr 3
    omega

theorem take_splice {bs new : List Byte} {offset : Nat} (h : offset ≤ bs.length) :
    (splice bs offset new).take offset = bs.take offset := by
  unfold splice
  rw [List.append_assoc]
  exact List.take_left' (by rw [List.length_take]; omega)

theorem drop_splice {bs new : List Byte} {offset : Nat} (h : offset + new.length ≤ bs.length) :
    (splice bs offset new).drop (offset + new.length) = bs.drop (offset + new.length) := by
  unfold splice
  exact List.drop_left' (by rw [List.length_append, List.length_take]; omega)

/-- The number that stands where it has been put. -/
theorem field_splice {bs : List Byte} {offset size n : Nat} (h : offset ≤ bs.length) :
    field (splice bs offset (leBytes size n)) offset size = n % 256 ^ size := by
  have hfield := field_leBytes (bs.take offset) (bs.drop (offset + (leBytes size n).length)) size n
  rw [List.length_take, Nat.min_eq_left h, ← List.append_assoc] at hfield
  exact hfield

/-! ## A block's header in its bytes (R171) -/

section
variable {image : List Byte}

theorem byteAt_drop (image : List Byte) (k a : Nat) : byteAt (image.drop k) a = byteAt image (k + a) := by
  unfold byteAt
  simp only [List.getD_eq_getElem?_getD, List.getElem?_drop]

theorem imageFlags_eq_bytes (h : 16 ≤ image.length) : imageFlags image = byteAt image 15 ++ byteAt image 14 := by
  have htwo : (image.drop 14).take 2 = [byteAt image 14, byteAt image 15] := by
    refine List.ext_getElem (by simp; omega) fun k hk _ => ?_
    have hlt : k < 2 := by simp at hk; omega
    rw [List.getElem_take, List.getElem_drop]
    unfold byteAt
    rw [List.getD_eq_getElem _ _ (by omega : 14 < image.length), List.getD_eq_getElem _ _ (by omega : 15 < image.length)]
    match k, hlt with
    | 0, _ => rfl
    | 1, _ => rfl
  have hfield : field image 14 2 = (byteAt image 14).toNat + 256 * (byteAt image 15).toNat := by
    unfold field
    rw [htwo]
    simp [leNat]
  unfold imageFlags Offset.flags
  rw [hfield]
  refine BitVec.eq_of_toNat_eq ?_
  have hlow := (byteAt image 14).isLt
  have hhigh := (byteAt image 15).isLt
  rw [BitVec.toNat_append, BitVec.toNat_ofNat, Nat.shiftLeft_eq, Nat.mul_comm _ (2 ^ 8),
    ← Nat.two_pow_add_eq_or_of_lt hlow]
  norm_num at hlow hhigh ⊢
  omega

theorem length_setImageFlag (h : 16 ≤ image.length) (f : BitVec 16) : (setImageFlag image f).length = image.length :=
  length_splice h

theorem imageFlags_setImageFlag (h : 16 ≤ image.length) (f : BitVec 16) :
    imageFlags (setImageFlag image f) = imageFlags image ||| f := by
  have hfield : field (setImageFlag image f) 14 2 = (imageFlags image ||| f).toNat % 256 ^ 2 :=
    field_splice (offset := 14) (by omega)
  show BitVec.ofNat 16 (field (setImageFlag image f) 14 2) = _
  rw [hfield, Nat.mod_eq_of_lt (b := 256 ^ 2) (imageFlags image ||| f).isLt, BitVec.ofNat_toNat, BitVec.setWidth_eq]

theorem byteAt_setImageFlag (h : 16 ≤ image.length) (f : BitVec 16) {a : Nat} (ha : a < 14 ∨ 16 ≤ a) :
    byteAt (setImageFlag image f) a = byteAt image a := byteAt_splice_outside h ha

theorem length_recrcHeader (h : 64 ≤ image.length) : (recrcHeader image).length = image.length := length_splice h

theorem byteAt_recrcHeader (h : 64 ≤ image.length) {a : Nat} (ha : a < 60 ∨ 64 ≤ a) :
    byteAt (recrcHeader image) a = byteAt image a := byteAt_splice_outside h ha

theorem imageFlags_recrcHeader (h : 64 ≤ image.length) : imageFlags (recrcHeader image) = imageFlags image := by
  rw [imageFlags_eq_bytes (by rw [length_recrcHeader h]; omega), imageFlags_eq_bytes (by omega),
    byteAt_recrcHeader h (by omega), byteAt_recrcHeader h (by omega)]

/-- R81: a recomputed header CRC checks. -/
theorem recrcHeader_checks (h : 64 ≤ image.length) :
    imageHeaderCrc (recrcHeader image) = storedHeaderCrc (recrcHeader image) := by
  have hfield : field (recrcHeader image) 60 4 = (imageHeaderCrc image).toNat % 256 ^ 4 :=
    field_splice (offset := 60) (by omega)
  have hstored : storedHeaderCrc (recrcHeader image) = imageHeaderCrc image := by
    show BitVec.ofNat 32 (field (recrcHeader image) 60 4) = _
    rw [hfield, ofNat_leBytes_four]
  have htake : (recrcHeader image).take 60 = image.take 60 := take_splice (by omega)
  have hdrop : (recrcHeader image).drop 64 = image.drop 64 :=
    drop_splice (offset := 60) (new := leBytes 4 (imageHeaderCrc image).toNat) h
  have hgap : imageHasGap (recrcHeader image) = imageHasGap image := by
    unfold imageHasGap
    rw [imageFlags_recrcHeader h]
  rw [hstored]
  unfold imageHeaderCrc Offset.headerCrc
  rw [htake, hdrop, hgap]

theorem length_damagedImage (h : 64 ≤ image.length) (headerBad : Bool) :
    (State.damagedImage image headerBad).length = image.length := by
  have hset := length_setImageFlag (by omega : 16 ≤ image.length) Flag.damaged
  unfold State.damagedImage
  dsimp only
  split
  · exact hset
  · rw [length_recrcHeader (by omega), hset]

theorem byteAt_damagedImage (h : 64 ≤ image.length) {headerBad : Bool} {a : Nat} (hflags : a < 14 ∨ 16 ≤ a)
    (hcrc : (a < 60 ∨ 64 ≤ a) ∨ headerBad = true) : byteAt (State.damagedImage image headerBad) a = byteAt image a := by
  have hset := length_setImageFlag (by omega : 16 ≤ image.length) Flag.damaged
  unfold State.damagedImage
  dsimp only
  split
  · exact byteAt_setImageFlag (by omega) _ hflags
  · next hbad =>
    rw [byteAt_recrcHeader (by omega) (hcrc.resolve_right hbad)]
    exact byteAt_setImageFlag (by omega) _ hflags

theorem imageFlags_damagedImage (h : 64 ≤ image.length) (headerBad : Bool) :
    imageFlags (State.damagedImage image headerBad) = (imageFlags image ||| Flag.damaged) := by
  have hset := length_setImageFlag (by omega : 16 ≤ image.length) Flag.damaged
  have hflags := imageFlags_setImageFlag (by omega : 16 ≤ image.length) Flag.damaged
  unfold State.damagedImage
  dsimp only
  split
  · exact hflags
  · rw [imageFlags_recrcHeader (by omega), hflags]

theorem damagedImage_checks (h : 64 ≤ image.length) :
    imageHeaderCrc (State.damagedImage image false) = storedHeaderCrc (State.damagedImage image false) :=
  recrcHeader_checks (by rw [length_setImageFlag (by omega)]; exact h)

end

/-! ## The bytes of a read (R92) -/

/-- The byte at an offset of lines of 64 bytes, put one behind another. -/
theorem byteAt_flatten {lines : List (List Byte)} (h : ∀ line ∈ lines, line.length = 64) (a : Nat) :
    byteAt lines.flatten a = byteAt (lines.getD (a / 64) []) (a % 64) := by
  unfold byteAt
  induction lines generalizing a with
  | nil => simp
  | cons line lines ih =>
    have hline := h line List.mem_cons_self
    rw [List.flatten_cons]
    by_cases ha : a < 64
    · rw [Nat.div_eq_of_lt ha, Nat.mod_eq_of_lt ha]
      simp [List.getD_eq_getElem?_getD, List.getElem?_append_left (by omega : a < line.length)]
    · obtain ⟨k, rfl⟩ := Nat.exists_eq_add_of_le (Nat.le_of_not_lt ha)
      have hrest := ih (fun l hl => h l (List.mem_cons_of_mem _ hl)) k
      have hdiv : (64 + k) / 64 = k / 64 + 1 := by omega
      have hmod : (64 + k) % 64 = k % 64 := by omega
      rw [hdiv, hmod, List.getD_cons_succ, ← hrest]
      simp [List.getD_eq_getElem?_getD, List.getElem?_append_right (by omega : line.length ≤ 64 + k), hline]

section
variable {s : State} {slot length : Nat} {checks : List LineCheck}

theorem byteAt_storedBytes {n k : Nat} (h : k < n) :
    byteAt (s.storedBytes slot n) k = s.spill.dram.read (slot * 65536 + k) := by
  unfold byteAt State.storedBytes slotAddress Config.slotBytes
  rw [List.getD_eq_getElem _ _ (by simpa using h), Memory.getElem_readAll _ _ _ h]

theorem length_storedLine {line : Nat} (h : line < lineCount length) :
    (((s.storedBytes slot (lineCount length * 64)).drop (line * 64)).take 64).length = 64 := by
  have hstored : (s.storedBytes slot (lineCount length * 64)).length = lineCount length * 64 := by
    simp [State.storedBytes]
  rw [List.length_take, List.length_drop, hstored]
  omega

theorem byteAt_storedLine {line k : Nat} (h : line < lineCount length) (hk : k < 64) :
    byteAt (((s.storedBytes slot (lineCount length * 64)).drop (line * 64)).take 64) k =
      s.spill.dram.read (slot * 65536 + (line * 64 + k)) := by
  rw [← byteAt_storedBytes (n := lineCount length * 64) (by omega), ← byteAt_drop]
  unfold byteAt
  rw [List.getD_eq_getElem?_getD, List.getD_eq_getElem?_getD, List.getElem?_take_of_lt hk]

theorem length_flipBytes (flips : BitVec 512) : (flipBytes flips).length = 64 := by simp [flipBytes]

theorem length_lineAsRead {line : Nat} (h : line < lineCount length) :
    (lineAsRead s slot length checks line).length = 64 := by
  have hstored := length_storedLine (s := s) (slot := slot) h
  unfold lineAsRead
  dsimp only
  split
  · rw [List.length_zipWith, hstored, length_flipBytes]
    rfl
  · exact hstored

theorem byteAt_lineAsRead_flipped {line k : Nat} (h : line < lineCount length) (hk : k < 64) {flips : BitVec 512}
    (hfound : foundOn s slot checks line = some (.uncorrectable flips)) :
    byteAt (lineAsRead s slot length checks line) k =
      s.spill.dram.read (slot * 65536 + (line * 64 + k)) ^^^ flips.extractLsb' (8 * k) 8 := by
  have hstored := byteAt_storedLine (s := s) (slot := slot) h hk
  have hlength := length_storedLine (s := s) (slot := slot) h
  have hflip : byteAt (flipBytes flips) k = flips.extractLsb' (8 * k) 8 := by
    unfold byteAt flipBytes
    rw [List.getD_eq_getElem _ _ (by simpa using hk), List.getElem_map, List.getElem_range]
  rw [← hstored, ← hflip]
  unfold lineAsRead
  dsimp only
  rw [hfound]
  dsimp only
  unfold byteAt
  rw [List.getD_eq_getElem _ _ (by rw [List.length_zipWith, hlength, length_flipBytes]; exact hk), List.getElem_zipWith,
    List.getD_eq_getElem _ _ (by rw [hlength]; exact hk), List.getD_eq_getElem _ _ (by rw [length_flipBytes]; exact hk)]

theorem byteAt_lineAsRead_stored {line k : Nat} (h : line < lineCount length) (hk : k < 64)
    (hfound : ∀ flips, foundOn s slot checks line ≠ some (.uncorrectable flips)) :
    byteAt (lineAsRead s slot length checks line) k = s.spill.dram.read (slot * 65536 + (line * 64 + k)) := by
  rw [← byteAt_storedLine (s := s) (slot := slot) h hk]
  unfold lineAsRead
  dsimp only
  split
  · next flips hf => exact absurd hf (hfound flips)
  · rfl

theorem length_readBlock : (s.readBlock slot length checks).bytes.length = length := by
  have hlines : ∀ line ∈ (List.range (lineCount length)).map (lineAsRead s slot length checks), line.length = 64 := by
    intro line hline
    obtain ⟨l, hl, rfl⟩ := List.mem_map.1 hline
    exact length_lineAsRead (List.mem_range.1 hl)
  have hsum : ∀ lines : List (List Byte), (∀ line ∈ lines, line.length = 64) → lines.flatten.length = lines.length * 64 := by
    intro lines
    induction lines with
    | nil => intro _; rfl
    | cons line lines ih =>
      intro h
      rw [List.flatten_cons, List.length_append, h line List.mem_cons_self,
        ih fun l hl => h l (List.mem_cons_of_mem _ hl), List.length_cons]
      omega
  rw [readBlock_bytes, List.length_take, hsum _ hlines, List.length_map, List.length_range]
  unfold lineCount Config.lineBytes
  omega

/-- R92: each byte of a read is as its line was found. -/
theorem readBlock_byteAsRead (hnone : NoneStands s slot) (hfit : FindingsFit checks (lineCount length)) {a : Nat}
    (ha : a < length) : ByteAsRead s slot checks a (byteAt (s.readBlock slot length checks).bytes a) := by
  have hline : a / 64 < lineCount length := by
    unfold lineCount Config.lineBytes
    omega
  have hk : a % 64 < 64 := Nat.mod_lt _ (by omega)
  have hsplit : a / 64 * 64 + a % 64 = a := by omega
  have hbyte : byteAt (s.readBlock slot length checks).bytes a =
      byteAt (lineAsRead s slot length checks (a / 64)) (a % 64) := by
    rw [readBlock_bytes]
    have htake : byteAt ((((List.range (lineCount length)).map (lineAsRead s slot length checks)).flatten).take length) a =
        byteAt ((List.range (lineCount length)).map (lineAsRead s slot length checks)).flatten a := by
      unfold byteAt
      rw [List.getD_eq_getElem?_getD, List.getD_eq_getElem?_getD, List.getElem?_take_of_lt ha]
    rw [htake, byteAt_flatten]
    · rw [List.getD_eq_getElem _ _ (by simpa using hline), List.getElem_map, List.getElem_range]
    · intro line hmem
      obtain ⟨l, hl, rfl⟩ := List.mem_map.1 hmem
      exact length_lineAsRead (List.mem_range.1 hl)
  rw [hbyte]
  constructor
  · intro flips hmem
    rw [byteAt_lineAsRead_flipped hline hk ((foundOn_eq_some hnone hfit hline).2 hmem), hsplit]
  · intro hclean
    rw [byteAt_lineAsRead_stored hline hk fun flips hf => hclean flips ((foundOn_eq_some hnone hfit hline).1 hf), hsplit]

/-- R92: a byte is read in one way. -/
theorem byteAsRead_unique {a : Nat} {v w : Byte} (hv : ByteAsRead s slot checks a v) (hw : ByteAsRead s slot checks a w) :
    v = w := by
  by_cases h : ∃ flips, ⟨a / 64, .uncorrectable flips⟩ ∈ checks
  · obtain ⟨flips, hmem⟩ := h
    exact (hv.1 flips hmem).trans (hw.1 flips hmem).symm
  · have hclean : ∀ flips, ⟨a / 64, .uncorrectable flips⟩ ∉ checks := fun flips hmem => h ⟨flips, hmem⟩
    exact (hv.2 hclean).trans (hw.2 hclean).symm

end

end Sys2Proof.Machine
end

section
/-! PROOFS. Staging reads (R93, R94) and AMEND (R96, R98). -/

-- One theorem at a time: the stacks of a thread each would exceed the memory of the check.
set_option Elab.async false

namespace Sys2Proof.Machine

open Sys2Proof.Safety

variable {s : State} {slot length : Nat} {checks : List LineCheck} {b : StagedBlock} {r : SlotRecord}

/-! ## Verify reads that are not in flight -/

theorem abandonVerifies_of_none (h : s.readsInFlight slot = 0) : s.abandonVerifies slot = s := by
  unfold State.abandonVerifies
  rw [h]
  rfl

/-! ## A staging read that ends (R93, R94, R133) -/

theorem exec_stagingDone (hb : s.alt.staged = some b) (hcopy : b.copy ≠ .ready) (hr : s.spill.slots.find b.slot = some r) :
    exec (.stagingDone checks) s = .next (s.finishStaging b r checks) := by
  have hrecord : s.slotRecord b.slot = some r := hr
  show execStagingDone checks s = _
  unfold execStagingDone
  rw [hb]
  dsimp only
  rw [if_neg hcopy, hrecord]

/-- R94: whether a read met an uncorrectable header line. -/
def headerLineBad (s : State) (slot : Nat) (read : ReadResult) : Bool :=
  read.bad.any fun x => x.1 < s.headerLines slot

theorem finishStaging_clean (hlength : r.length = some length)
    (hbad : (s.readBlock b.slot length checks).bad = []) : s.finishStaging b r checks =
      (s.noteRead b.slot (s.readBlock b.slot length checks)).setAlt
        { s.alt with staged := some ⟨b.slot, .ready, (s.readBlock b.slot length checks).bytes⟩ } := by
  unfold State.finishStaging
  rw [hlength]
  simp only [Option.getD_some]
  rw [hbad]
  rfl

theorem finishStaging_damaged (hlength : r.length = some length)
    (hbad : (s.readBlock b.slot length checks).bad ≠ []) : s.finishStaging b r checks =
      ((s.noteRead b.slot (s.readBlock b.slot length checks)).markDamaged b.slot r.stream
        (State.damagedImage (s.readBlock b.slot length checks).bytes
          (headerLineBad s b.slot (s.readBlock b.slot length checks)))).setAlt
        { s.alt with staged := some ⟨b.slot, .ready, State.damagedImage (s.readBlock b.slot length checks).bytes
          (headerLineBad s b.slot (s.readBlock b.slot length checks))⟩ } := by
  have halt : ∀ (u : State) (image : List Byte), (u.markDamaged b.slot r.stream image).alt = u.alt := fun u image => by
    simp [State.markDamaged]
  unfold State.finishStaging
  rw [hlength]
  simp only [Option.getD_some]
  rw [if_neg (by simpa using hbad), halt]
  rfl

/-- R94: the marking of a block whose slot no verify reads. -/
theorem markDamaged_eq (hflight : s.readsInFlight slot = 0) (i : StreamId) (image : List Byte) :
    s.markDamaged slot i image = { s.writeLines slot 0 (image.take 64) with
      report := raisedIn s.report (s.enabled (.stream i .damagedBlock)) (.stream i .damagedBlock) } := by
  have hsame : (s.writeLines slot 0 (image.take 64)).abandonVerifies slot = s.writeLines slot 0 (image.take 64) :=
    abandonVerifies_of_none hflight
  unfold State.markDamaged Config.lineBytes
  rw [hsame, State.raise_eq]
  rfl

/-- Log entry 5: line 0 is written back, and stands uncorrectable no more; the others stand. -/
theorem standAfter_writeBack (hnone : NoneStands s slot) (hfit : FindingsFit checks (lineCount length))
    {line : List Byte} (hline : line.length = 64) {t : State}
    (ht : t.spill.badLines = ((s.noteRead slot (s.readBlock slot length checks)).writeLines slot 0 line).spill.badLines) :
    StandAfter s t slot checks 1 := by
  intro x
  have hcount : lineCount line.length = 1 := by rw [hline]; rfl
  have hread := standAfter_of_read hnone hfit (t := s.noteRead slot (s.readBlock slot length checks))
    (by rw [noteRead_eq hnone hfit]) x
  have hmem : x ∈ t.spill.badLines ↔
      x ∈ (s.noteRead slot (s.readBlock slot length checks)).spill.badLines ∧ x.1 ≠ slot * 1024 := by
    rw [ht]
    show x ∈ List.filter _ _ ↔ _
    rw [List.mem_filter, hcount]
    refine and_congr Iff.rfl ?_
    unfold lineNumber
    simp only [Bool.or_eq_true, decide_eq_true_eq]
    omega
  rw [hmem, hread]
  constructor
  · rintro ⟨hold | ⟨line, flips, hc, -, hx⟩, hne⟩
    · exact .inl hold
    · refine .inr ⟨line, flips, hc, ?_, hx⟩
      rw [hx] at hne
      dsimp only at hne
      omega
  · rintro (hold | ⟨line, flips, hc, hone, hx⟩)
    · refine ⟨.inl hold, fun heq => hnone x hold ?_⟩
      rw [heq]
      omega
    · refine ⟨.inr ⟨line, flips, hc, Nat.zero_le _, hx⟩, ?_⟩
      rw [hx]
      dsimp only
      omega

theorem headerLineBad_iff (hnone : NoneStands s slot) (hfit : FindingsFit checks (lineCount length)) :
    headerLineBad s slot (s.readBlock slot length checks) = true ↔
      ∃ c ∈ checks, c.line < s.headerLines slot ∧ c.finding ≠ .corrected := by
  unfold headerLineBad
  rw [List.any_eq_true]
  simp only [decide_eq_true_eq]
  constructor
  · rintro ⟨x, hx, hlt⟩
    exact ⟨_, (mem_readBlock_bad hnone hfit).1 hx, hlt, nofun⟩
  · rintro ⟨⟨line, finding⟩, hc, hlt, hne⟩
    cases finding with
    | corrected => exact absurd rfl hne
    | uncorrectable flips => exact ⟨(line, flips), (mem_readBlock_bad (x := (line, flips)) hnone hfit).2 hc, hlt⟩

/-! ## A line that stands uncorrectable is met again (R92, R94) -/

section
variable {u : State} {line : Nat} {flips : BitVec 512} {rest : List (Nat × BitVec 512)}
  (hstands : s.spill.badLines = (slot * 1024 + line, flips) :: rest)
  (hu : u = { s with spill := { s.spill with badLines := rest } }) (hnone : NoneStands u slot) (hline : line < 1024)
include hstands hu hnone hline

/-- R92: what stands on a line is found as a fresh finding is. -/
theorem foundOn_standing (l : Nat) : foundOn s slot [] l = foundOn u slot [⟨line, .uncorrectable flips⟩] l := by
  have hbad : u.spill.badLines = rest := by rw [hu]
  unfold foundOn
  by_cases hl : l = line
  · subst hl
    have hstand : s.standingFlips slot l = some flips := by
      unfold State.standingFlips lineNumber
      rw [hstands, List.find?_cons_of_pos (by simp)]
      rfl
    rw [hstand, standingFlips_none hnone hline]
    simp [lineFinding]
  · have hsame : s.standingFlips slot l = u.standingFlips slot l := by
      unfold State.standingFlips lineNumber
      rw [hstands, hbad, List.find?_cons_of_neg]
      simp only [beq_iff_eq]
      omega
    rw [hsame]
    unfold lineFinding
    rw [List.find?_cons_of_neg (by simpa using Ne.symm hl)]

theorem readBlock_standing : s.readBlock slot length [] = u.readBlock slot length [⟨line, .uncorrectable flips⟩] := by
  have hfound := foundOn_standing hstands hu hnone hline
  have hlines : lineAsRead s slot length [] = lineAsRead u slot length [⟨line, .uncorrectable flips⟩] := by
    funext l
    have hdram : u.storedBytes slot (lineCount length * 64) = s.storedBytes slot (lineCount length * 64) := by rw [hu]; rfl
    unfold lineAsRead
    rw [hfound, hdram]
  have hbytes := readBlock_bytes s slot length []
  have hcorrected := readBlock_corrected s slot length []
  have hbad := readBlock_bad s slot length []
  rw [hlines, ← readBlock_bytes] at hbytes
  simp only [hfound] at hcorrected hbad
  rw [← readBlock_corrected] at hcorrected
  rw [← readBlock_bad] at hbad
  calc s.readBlock slot length []
      = ⟨(s.readBlock slot length []).bytes, (s.readBlock slot length []).corrected, (s.readBlock slot length []).bad⟩ := rfl
    _ = _ := by rw [hbytes, hcorrected, hbad]

theorem noteRead_standing (hread : line < lineCount length) :
    s.noteRead slot (s.readBlock slot length []) =
      u.noteRead slot (u.readBlock slot length [⟨line, .uncorrectable flips⟩]) := by
  have hmem : (line, flips) ∈ (u.readBlock slot length [⟨line, .uncorrectable flips⟩]).bad := by
    have hfound : foundOn u slot [⟨line, .uncorrectable flips⟩] line = some (.uncorrectable flips) := by
      unfold foundOn
      rw [standingFlips_none hnone hline]
      simp [lineFinding]
    rw [readBlock_bad, List.mem_filterMap]
    exact ⟨line, List.mem_range.2 hread, by rw [hfound]; rfl⟩
  rw [readBlock_standing hstands hu hnone hline]
  generalize u.readBlock slot length [⟨line, .uncorrectable flips⟩] = read at hmem
  have hdrop : s.spill.badLines.filter (fun x => !(read.bad.any fun y => lineNumber slot y.1 == x.1)) =
      rest.filter fun x => !(read.bad.any fun y => lineNumber slot y.1 == x.1) := by
    rw [hstands, List.filter_cons_of_neg]
    simp only [Bool.not_eq_true', Bool.not_eq_false, List.any_eq_true]
    exact ⟨_, hmem, by simp [lineNumber]⟩
  have hnote : s.noteRead slot read = (s.countEcc read.corrected read.bad.length).setSpill { s.spill with
      badLines := (read.bad.map fun x => (lineNumber slot x.1, x.2)) ++
        s.spill.badLines.filter fun x => !(read.bad.any fun y => lineNumber slot y.1 == x.1) } := rfl
  rw [hnote, hdrop, hu]
  rfl

end

end Sys2Proof.Machine
end

section
/-! PROOFS. STAGING_DONE as a whole (R93, R94, R133). -/

-- One theorem at a time: the stacks of a thread each would exceed the memory of the check.
set_option Elab.async false

namespace Sys2Proof.Machine

open Sys2Proof.Safety

variable {s : State} {length : Nat} {checks : List LineCheck} {b : StagedBlock} {r : SlotRecord}

/-- The damaged copy of a staging read. -/
def damagedCopy (s : State) (slot length : Nat) (checks : List LineCheck) : List Byte :=
  State.damagedImage (s.readBlock slot length checks).bytes (headerLineBad s slot (s.readBlock slot length checks))

/-- The state that a staging read with its findings noted has left, before the block is marked. -/
def notedRead (s : State) (slot length : Nat) (checks : List LineCheck) : State :=
  s.noteRead slot (s.readBlock slot length checks)

section
variable {slot : Nat} (hlength : 64 ≤ length)
include hlength

theorem length_damagedCopy : (damagedCopy s slot length checks).length = length := by
  unfold damagedCopy
  rw [length_damagedImage (by rw [length_readBlock]; exact hlength), length_readBlock]

theorem damagedCopy_byte (hnone : NoneStands s slot) (hfit : FindingsFit checks (lineCount length)) {a : Nat}
    (ha : a < length) (hflags : a < 14 ∨ 16 ≤ a)
    (hcrc : (a < 60 ∨ 64 ≤ a) ∨ headerLineBad s slot (s.readBlock slot length checks) = true) :
    ByteAsRead s slot checks a (byteAt (damagedCopy s slot length checks) a) := by
  unfold damagedCopy
  rw [byteAt_damagedImage (by rw [length_readBlock]; exact hlength) hflags hcrc]
  exact readBlock_byteAsRead hnone hfit ha

theorem damagedCopy_flags (hnone : NoneStands s slot) (hfit : FindingsFit checks (lineCount length)) {low high : Byte}
    (hlow : ByteAsRead s slot checks 14 low) (hhigh : ByteAsRead s slot checks 15 high) :
    imageFlags (damagedCopy s slot length checks) = ((high ++ low) ||| Flag.damaged) := by
  have h14 := byteAsRead_unique (readBlock_byteAsRead hnone hfit (by omega : 14 < length)) hlow
  have h15 := byteAsRead_unique (readBlock_byteAsRead hnone hfit (by omega : 15 < length)) hhigh
  unfold damagedCopy
  rw [imageFlags_damagedImage (by rw [length_readBlock]; exact hlength),
    imageFlags_eq_bytes (by rw [length_readBlock]; omega), h14, h15]

end

end Sys2Proof.Machine

namespace Sys2Proof

open Machine Safety

/-- Settles O41: a clean read as it stands; a damaged one by its bytes, the header's rewriting, and the one line that is
written back; and a line that stands by what the read finds on it. -/
theorem stagingReadsMakeTheCopyReady : Obligations.StagingReadsMakeTheCopyReady := by
  refine ⟨fun s b r length checks hb hcopy hr hlength hnone hfit => ⟨fun hclean => ?_, fun hbad hflight hlong hm => ?_⟩,
    fun s u b r length line flips rest hb hcopy hr hlength hread hline hstands hu hnone => ?_⟩
  · have hempty : (s.readBlock b.slot length checks).bad = [] :=
      List.length_eq_zero_iff.1 ((readBlock_bad_length hnone hfit).trans hclean)
    rw [exec_stagingDone hb hcopy hr, finishStaging_clean hlength hempty, noteRead_corrected hnone hfit hclean,
      readBlock_bytes_stored hnone hfit hclean]
    rfl
  · have hsome : (s.readBlock b.slot length checks).bad ≠ [] := fun h => by
      rw [← readBlock_bad_length hnone hfit, h] at hbad
      exact absurd hbad (by simp)
    have hnoted := noteRead_eq hnone hfit
    have hquiet : (notedRead s b.slot length checks).readsInFlight b.slot = 0 := by
      unfold notedRead
      rw [hnoted]
      exact hflight
    have hcanonical : MemoryCanonical (notedRead s b.slot length checks) := by
      unfold notedRead
      rw [hnoted]
      exact hm
    have hcopyLength := length_damagedCopy (s := s) (slot := b.slot) (checks := checks) hlong
    have hline : ((damagedCopy s b.slot length checks).take 64).length = 64 := by
      rw [List.length_take, hcopyLength]
      omega
    have hstaged := finishStaging_damaged (s := s) (b := b) (r := r) (checks := checks) hlength hsome
    have hmarked : s.finishStaging b r checks = ((notedRead s b.slot length checks).markDamaged b.slot r.stream
        (damagedCopy s b.slot length checks)).setAlt
        { s.alt with staged := some ⟨b.slot, .ready, damagedCopy s b.slot length checks⟩ } := hstaged
    rw [markDamaged_eq hquiet] at hmarked
    refine ⟨_, damagedCopy s b.slot length checks, (exec_stagingDone hb hcopy hr).trans (congrArg _ hmarked), rfl,
      hcopyLength, fun a ha hflags hcrc => damagedCopy_byte hlong hnone hfit ha hflags (.inl hcrc),
      fun low high => damagedCopy_flags hlong hnone hfit, fun hclean => ?_, fun c hc hheader hne a hlow hhigh => ?_,
      ?_, fun a ha => ?_, ?_, ?_⟩
    · have hgood : headerLineBad s b.slot (s.readBlock b.slot length checks) = false := by
        rw [← Bool.not_eq_true]
        intro h
        obtain ⟨c, hc, hlt, hne⟩ := (headerLineBad_iff hnone hfit).1 h
        exact hne (hclean c hc hlt)
      unfold damagedCopy
      rw [hgood]
      exact damagedImage_checks (by rw [length_readBlock]; exact hlong)
    · exact damagedCopy_byte hlong hnone hfit (by omega) (by omega)
        (.inr ((headerLineBad_iff hnone hfit).2 ⟨c, hc, hheader, hne⟩))
    · have hstored := writeLines_storedBytes hcanonical b.slot (Nat.le_of_eq hline.symm)
      rw [List.take_take, Nat.min_self] at hstored
      exact hstored
    · have houtside := State.read_writeLines_outside (notedRead s b.slot length checks) b.slot 0
        ((damagedCopy s b.slot length checks).take 64) (a := a) (by
          rw [hline, show lineCount 64 = 1 from rfl, Nat.zero_mul, Nat.add_zero, Nat.one_mul]
          exact ha)
      refine houtside.trans ?_
      unfold notedRead
      rw [hnoted]
    · exact standAfter_writeBack hnone hfit hline rfl
    · unfold notedRead
      rw [hnoted]
      rfl
  · have hunchanged : u.alt.staged = some b ∧ u.spill.slots.find b.slot = some r := by
      rw [hu]
      exact ⟨hb, hr⟩
    have hlines : ∀ read, headerLineBad s b.slot read = headerLineBad u b.slot read := fun read => by rw [hu]; rfl
    have hfinish : s.finishStaging b r [] = u.finishStaging b r [⟨line, .uncorrectable flips⟩] := by
      have halt : u.alt = s.alt := by rw [hu]
      by_cases hempty : (u.readBlock b.slot length [⟨line, .uncorrectable flips⟩]).bad = []
      · rw [finishStaging_clean hlength (by rw [readBlock_standing hstands hu hnone hline]; exact hempty),
          finishStaging_clean hlength hempty, noteRead_standing hstands hu hnone hline hread,
          readBlock_standing hstands hu hnone hline, halt]
      · rw [finishStaging_damaged hlength (by rw [readBlock_standing hstands hu hnone hline]; exact hempty),
          finishStaging_damaged hlength hempty, noteRead_standing hstands hu hnone hline hread,
          readBlock_standing hstands hu hnone hline, halt, hlines]
    rw [exec_stagingDone hb hcopy hr, exec_stagingDone hunchanged.1 hcopy hunchanged.2, hfinish]

end Sys2Proof
end

section
/-! PROOFS. AMEND (R96, R98). -/

-- One theorem at a time: the stacks of a thread each would exceed the memory of the check.
set_option Elab.async false

namespace Sys2Proof.Machine

open Sys2Proof.Safety

variable {s : State} {slot : Nat} {checks : List LineCheck} {word : Fin 4} {value : BitVec 32} {i : StreamId}

/-! ## The rewriting of a closed block's header -/

theorem lineCount_lines (n : Nat) : lineCount (n * 64) = n := by
  unfold lineCount Config.lineBytes
  omega

theorem length_amendedHeader {lines : List Byte} (h : 64 ≤ lines.length) :
    (amendedHeader lines word value).length = lines.length := by
  have hnote : (setImageNote lines word value).length = lines.length := by
    have hword := word.isLt
    refine length_splice ?_
    rw [length_leBytes]
    unfold Offset.notes
    omega
  unfold amendedHeader
  rw [length_recrcHeader (by rw [length_setImageFlag (by omega)]; omega), length_setImageFlag (by omega), hnote]

/-- R93, R133: a ready copy of the block in STAGED becomes stale. -/
theorem staleStaged_eq (h : ∀ b, s.alt.staged = some b → b.slot = slot → b.copy = .ready) :
    s.staleStaged slot = { s with alt := { s.alt with
      staged := s.alt.staged.map fun b => if b.slot = slot then { b with copy := .stale } else b } } := by
  unfold State.staleStaged
  cases hb : s.alt.staged with
  | none =>
    dsimp only [Option.map_none]
    rw [← hb]
  | some b =>
    dsimp only [Option.map_some]
    by_cases hslot : b.slot = slot
    · rw [if_neg (by simpa using hslot), if_pos (h b hb hslot), if_pos hslot]
      rfl
    · rw [if_pos hslot, if_neg hslot, ← hb]

/-- R91: lines written within a slot of which none stands uncorrectable leave what stands so. -/
theorem writeLines_eq (hnone : NoneStands s slot) {bs : List Byte} (hfit : lineCount bs.length ≤ 1024) :
    s.writeLines slot 0 bs = { s with spill := { s.spill with dram := (s.writeLines slot 0 bs).spill.dram } } := by
  have hkept : (s.writeLines slot 0 bs).spill.badLines = s.spill.badLines := by
    refine List.filter_eq_self.2 fun x hx => ?_
    have hx := hnone x hx
    unfold lineNumber
    simp only [Bool.or_eq_true, decide_eq_true_eq]
    omega
  calc s.writeLines slot 0 bs
      = { s with spill := { s.spill with
          dram := (s.writeLines slot 0 bs).spill.dram, badLines := (s.writeLines slot 0 bs).spill.badLines } } := rfl
    _ = _ := by rw [hkept]

section
variable (hnone : NoneStands s slot) (hfit : FindingsFit checks (s.headerLines slot))
include hnone hfit

theorem amendClosed_damaged (hbad : 0 < uncorrectableIn checks) : amendClosed s slot word value checks =
    (s.noteRead slot (s.readBlock slot (s.headerLines slot * 64) checks), plain .damaged) := by
  have hfit' : FindingsFit checks (lineCount (s.headerLines slot * 64)) := by rwa [lineCount_lines]
  have hsome : (s.readBlock slot (s.headerLines slot * 64) checks).bad ≠ [] := fun h => by
    rw [← readBlock_bad_length hnone hfit', h] at hbad
    exact absurd hbad (by simp)
  unfold amendClosed Config.lineBytes
  dsimp only
  rw [if_neg (by simpa using hsome)]

/-- R98: the header lines as corrected, with the annotation word, AMENDED and a fresh header CRC. -/
theorem amendClosed_clean (hclean : uncorrectableIn checks = 0) (hflight : s.readsInFlight slot = 0) :
    amendClosed s slot word value checks =
      ((({ s with counters := eccCounted s.counters checks } : State).writeLines slot 0 (amendedHeader
        (s.spill.dram.readAll (slot * 65536) (s.headerLines slot * 64)) word value)).staleStaged slot, plain .done) := by
  have hfit' : FindingsFit checks (lineCount (s.headerLines slot * 64)) := by rwa [lineCount_lines]
  have hnoted := noteRead_corrected hnone hfit' hclean
  have hbytes := readBlock_bytes_stored hnone hfit' hclean
  have hempty : (s.readBlock slot (s.headerLines slot * 64) checks).bad = [] :=
    List.length_eq_zero_iff.1 ((readBlock_bad_length hnone hfit').trans hclean)
  have hquiet : ∀ bs, (({ s with counters := eccCounted s.counters checks } : State).writeLines slot 0 bs).abandonVerifies
      slot = ({ s with counters := eccCounted s.counters checks } : State).writeLines slot 0 bs := fun bs =>
    abandonVerifies_of_none hflight
  unfold amendClosed Config.lineBytes
  dsimp only
  rw [if_pos (by rw [hempty]; rfl), hnoted, hbytes, hquiet]

end

end Sys2Proof.Machine

namespace Sys2Proof

open Machine Safety

/-- Settles O18: a closed block by its header read, clean or damaged; an open one by its own header. -/
theorem amendRewritesTheHeader : Obligations.AmendRewritesTheHeader := by
  intro s d i word value slot r hd hi hword hvalue hfound hm
  have hexec := fun checks => exec_amend (s := s) (d := d) hi hword checks
  rw [← hvalue] at hexec
  have hclosed : r.place = .queued ∨ r.place = .staged → ∀ checks,
      amendEffect i (BitVec.ofNat 32 (field d.params 2 4)) word value checks s =
        amendClosed s slot word value checks := fun hplace checks => by
    unfold amendEffect
    rw [hfound]
    dsimp only
    rcases hplace with h | h <;> rw [h]
  refine ⟨fun checks hplace hlines hnone hfit hclean hflight hready => ?_, fun checks hplace hnone hfit hbad => ?_,
    fun b c hplace hb hc checks => ?_⟩
  · let header := amendedHeader (s.spill.dram.readAll (slot * 65536) (s.headerLines slot * 64)) word value
    let counted : State := { s with counters := eccCounted s.counters checks }
    have hlength : header.length = s.headerLines slot * 64 := by
      rw [length_amendedHeader (by rw [Memory.length_readAll]; omega), Memory.length_readAll]
    have hcount : lineCount header.length = s.headerLines slot := by rw [hlength, lineCount_lines]
    have hwritten := writeLines_eq (s := counted) (bs := header) hnone (by rw [hcount]; exact hfit.1)
    have hstale := staleStaged_eq (s := counted.writeLines slot 0 header) (slot := slot) hready
    have heffect := amendClosed_clean (word := word) (value := value) hnone hfit hclean hflight
    have hresult := hexec checks
    rw [hclosed hplace, heffect.trans (congrArg (·, plain .done) hstale), plain, directive_done hd (.inl rfl)] at hresult
    refine ⟨_, hresult, ?_, fun a ha => ?_, ?_⟩
    · rw [Nat.mul_comm 64]
      have hstored := writeLines_storedBytes (s := counted) hm slot (Nat.le_of_eq hlength.symm)
      rw [List.take_of_length_le (Nat.le_of_eq hlength)] at hstored
      exact hstored
    · refine State.read_writeLines_outside counted slot 0 header ?_
      rw [hcount, Nat.zero_mul, Nat.add_zero, Nat.mul_comm (s.headerLines slot)]
      exact ha
    · exact congrArg (fun x : State => { x with
        alt := { x.alt with staged := x.alt.staged.map fun b : StagedBlock => if b.slot = slot then { b with copy := .stale } else b }
        report := answeredDone x.report 0x16 d .done [] }) hwritten
  · have heffect := amendClosed_damaged (word := word) (value := value) hnone hfit hbad
    have hfit' : FindingsFit checks (lineCount (s.headerLines slot * 64)) := by rwa [lineCount_lines]
    have hresult := hexec checks
    rw [hclosed hplace, heffect, noteRead_eq hnone hfit', plain] at hresult
    refine ⟨_, hresult.trans (congrArg Host.Outcome.next (State.directive_taken hd _ _)), ?_, ?_⟩
    · exact standAfter_of_read hnone hfit' rfl
    · rfl
  · have heffect : amendEffect i (BitVec.ofNat 32 (field d.params 2 4)) word value checks s =
        ((s.setStream i { s.stream i with openBlock := some c }).writeLines slot 0 c.header.bytes, plain .done) := by
      unfold amendEffect
      rw [hfound]
      dsimp only
      rw [hplace]
      unfold State.amendOpen
      dsimp only
      rw [hb, hc]
    have hresult := hexec checks
    rw [heffect, plain, directive_done hd (.inl rfl)] at hresult
    have hstored := writeLines_storedBytes (s := s.setStream i { s.stream i with openBlock := some c }) hm slot
      (Nat.le_of_eq c.header.length_bytes.symm)
    rw [List.take_of_length_le (Nat.le_of_eq c.header.length_bytes)] at hstored
    have hlength := c.header.length_bytes
    generalize c.header.bytes = bs at hresult hstored hlength ⊢
    refine ⟨_, hresult, ?_, fun j hj => ?_, hstored, fun a ha => ?_, rfl⟩
    · exact State.setStream_stream_self _ _ _
    · exact State.setStream_stream_other _ _ hj
    refine State.read_writeLines_outside (s.setStream i { s.stream i with openBlock := some c }) slot 0 bs ?_
    rw [hlength, show lineCount 64 = 1 from rfl, Nat.zero_mul, Nat.add_zero, Nat.one_mul]
    exact ha

end Sys2Proof
end

section
/-! PROOFS. The inbound frames of the two links as bytes (R143, R169, R172). -/

-- One theorem at a time: the stacks of a thread each would exceed the memory of the check.
set_option Elab.async false

namespace Sys2Proof.Machine

open Sys2Proof.Safety

/-! ## Fields and the CRC of a frame -/

theorem leNat_lt (bs : List Byte) : leNat bs < 256 ^ bs.length := by
  induction bs with
  | nil => simp [leNat]
  | cons b bs ih =>
    have hb := b.isLt
    rw [leNat, List.length_cons, Nat.pow_succ]
    omega

theorem field_lt (bs : List Byte) (offset size : Nat) : field bs offset size < 256 ^ size :=
  Nat.lt_of_lt_of_le (leNat_lt _) (Nat.pow_le_pow_right (by omega) (by rw [List.length_take]; omega))

/-- A number stands behind the bytes in front of it, and fits. -/
theorem field_behind {front back : List Byte} {offset size n : Nat} (hfront : front.length = offset)
    (hn : n < 256 ^ size) : field (front ++ (leBytes size n ++ back)) offset size = n := by
  rw [← hfront, field_leBytes, Nat.mod_eq_of_lt hn]

theorem field_front {back : List Byte} {size n : Nat} (hn : n < 256 ^ size) : field (leBytes size n ++ back) 0 size = n :=
  field_behind (front := []) rfl hn

theorem field_end {front : List Byte} {offset size n : Nat} (hfront : front.length = offset) (hn : n < 256 ^ size) :
    field (front ++ leBytes size n) offset size = n := by
  rw [← List.append_nil (leBytes size n)]
  exact field_behind hfront hn

/-- A field of the front of a list of bytes. -/
theorem field_append {front back : List Byte} {offset size : Nat} (h : offset + size ≤ front.length) :
    field (front ++ back) offset size = field front offset size := by
  unfold field
  rw [List.drop_append_of_le_length (by omega), List.take_append_of_le_length (by rw [List.length_drop]; omega)]

theorem length_withCrc (bs : List Byte) : (withCrc bs).length = bs.length + 4 := by simp [withCrc]

theorem frameBody_withCrc (bs : List Byte) : frameBody (withCrc bs) = bs := by
  unfold frameBody
  rw [length_withCrc]
  exact List.take_left' rfl

/-- R143: the frame's last four bytes are its CRC. -/
theorem frameCrcOk_iff (bytes : List Byte) : frameCrcOk bytes = true ↔
    4 ≤ bytes.length ∧ field bytes (bytes.length - 4) 4 = (crc (bytes.take (bytes.length - 4))).toNat := by
  have hlt : field bytes (bytes.length - 4) 4 < 2 ^ 32 := field_lt _ _ _
  unfold frameCrcOk frameBody
  rw [Bool.and_eq_true, decide_eq_true_eq, beq_iff_eq]
  refine and_congr Iff.rfl ⟨fun h => ?_, fun h => ?_⟩
  · rw [← h, BitVec.toNat_ofNat, Nat.mod_eq_of_lt hlt]
  · rw [h, BitVec.ofNat_toNat, BitVec.setWidth_eq]

theorem frameCrcOk_withCrc (bs : List Byte) : frameCrcOk (withCrc bs) = true := by
  have hfield : field (withCrc bs) bs.length 4 = (crc bs).toNat := by
    have h := field_behind (back := []) (rfl : bs.length = bs.length) (crc bs).isLt (size := 4)
    rwa [List.append_nil] at h
  rw [frameCrcOk_iff, length_withCrc]
  refine ⟨by omega, ?_⟩
  rw [Nat.add_sub_cancel, hfield]
  exact congrArg (fun b => (crc b).toNat) (by
    have h := frameBody_withCrc bs
    unfold frameBody at h
    rw [length_withCrc, Nat.add_sub_cancel] at h
    exact h.symm)

/-! ## Capture frames that decode (R169) -/

/-- R172: a capture frame is its head, with the length of its body, its body and its CRC. -/
theorem decodeCapture_frame (kind source : Byte) {body : List Byte} {n : Nat} (hn : body.length = n) (hfit : n < 65536)
    (checks : List LineCheck) : decodeCapture (withCrc ([kind, source] ++ leBytes 2 n ++ body)) checks =
      captureBody kind source body checks := by
  have hlength : (withCrc ([kind, source] ++ leBytes 2 n ++ body)).length = n + 8 := by
    rw [length_withCrc]
    simp [hn]
    omega
  have hfield : field (withCrc ([kind, source] ++ leBytes 2 n ++ body)) 2 2 = n := by
    unfold withCrc
    rw [List.append_assoc _ body, List.append_assoc]
    exact field_behind rfl hfit
  unfold decodeCapture
  rw [frameCrcOk_withCrc, hlength, hfield, frameBody_withCrc]
  simp only [Bool.true_and]
  rw [if_pos (by simp)]
  rfl

section
variable {source : Byte} (hsource : source.toNat < 32) (segment : BitVec 32) (checks : List LineCheck)

theorem ofNat_toNat_self {w : Nat} (x : BitVec w) : BitVec.ofNat w x.toNat = x := by
  rw [BitVec.ofNat_toNat, BitVec.setWidth_eq]

include hsource

theorem captureBody_segmentStart (t0 : BitVec 64) (period : BitVec 32) :
    captureBody 0x02#8 source (leBytes 4 segment.toNat ++ (leBytes 8 t0.toNat ++ leBytes 4 period.toNat)) checks =
      some (.segmentStart source segment t0 period) := by
  have hsegment := field_front (back := leBytes 8 t0.toNat ++ leBytes 4 period.toNat) segment.isLt (size := 4)
  have ht0 := field_behind (front := leBytes 4 segment.toNat) (back := leBytes 4 period.toNat) (by simp) t0.isLt
    (offset := 4) (size := 8)
  have hperiod := field_end (front := leBytes 4 segment.toNat ++ leBytes 8 t0.toNat) (by simp) period.isLt
    (offset := 12) (size := 4)
  rw [List.append_assoc] at hperiod
  show (if _ then _ else _) = _
  rw [hsegment, ht0, hperiod, if_pos (by simp [hsource]), ofNat_toNat_self, ofNat_toNat_self, ofNat_toNat_self]

theorem captureBody_segmentEnd (final : BitVec 48) :
    captureBody 0x03#8 source (leBytes 4 segment.toNat ++ leBytes 6 final.toNat) checks =
      some (.segmentEnd source segment final) := by
  have hsegment := field_front (back := leBytes 6 final.toNat) segment.isLt (size := 4)
  have hfinal := field_end (front := leBytes 4 segment.toNat) (by simp) final.isLt (offset := 4) (size := 6)
  show (if _ then _ else _) = _
  rw [hsegment, hfinal, if_pos (by simp [hsource]), ofNat_toNat_self, ofNat_toNat_self]

theorem captureBody_resync (index time : BitVec 64) :
    captureBody 0x04#8 source (leBytes 4 segment.toNat ++ (leBytes 8 index.toNat ++ leBytes 8 time.toNat)) checks =
      some (.resync source segment index time) := by
  have hsegment := field_front (back := leBytes 8 index.toNat ++ leBytes 8 time.toNat) segment.isLt (size := 4)
  have hindex := field_behind (front := leBytes 4 segment.toNat) (back := leBytes 8 time.toNat) (by simp) index.isLt
    (offset := 4) (size := 8)
  have htime := field_end (front := leBytes 4 segment.toNat ++ leBytes 8 index.toNat) (by simp) time.isLt
    (offset := 12) (size := 8)
  rw [List.append_assoc] at htime
  show (if _ then _ else _) = _
  rw [hsegment, hindex, htime, if_pos (by simp [hsource]), ofNat_toNat_self, ofNat_toNat_self, ofNat_toNat_self]

end

/-- R169: the bytes of a list of sample words. -/
def wordBytes (words : List SampleWord) : List Byte := (words.map fun w => leBytes 8 w.toNat).flatten

theorem length_wordBytes (words : List SampleWord) : (wordBytes words).length = 8 * words.length := by
  unfold wordBytes
  induction words with
  | nil => rfl
  | cons w words ih =>
    rw [List.map_cons, List.flatten_cons, List.length_append, ih, length_leBytes, List.length_cons]
    omega

/-- R169: each sample word stands at its own place. -/
theorem field_wordBytes {front : List Byte} {words : List SampleWord} {k : Nat} (hk : k < words.length) :
    field (front ++ wordBytes words) (front.length + 8 * k) 8 = words[k].toNat := by
  induction words generalizing front k with
  | nil => cases hk
  | cons w words ih =>
    have hsplit : wordBytes (w :: words) = leBytes 8 w.toNat ++ wordBytes words := rfl
    cases k with
    | zero =>
      rw [hsplit]
      exact field_behind rfl w.isLt
    | succ k =>
      have hrest := ih (front := front ++ leBytes 8 w.toNat) (k := k) (by simpa using hk)
      rw [List.length_append, length_leBytes, List.append_assoc] at hrest
      rw [hsplit, show front.length + 8 * (k + 1) = front.length + 8 + 8 * k by omega]
      exact hrest

theorem captureBody_samples {source : Byte} (hsource : source.toNat < 32) (segment : BitVec 32) (checks : List LineCheck)
    (first : BitVec 48) {words : List SampleWord} (hlow : 1 ≤ words.length) (hhigh : words.length ≤ 512)
    (hend : first.toNat + words.length ≤ 2 ^ 48) :
    captureBody 0x01#8 source (leBytes 4 segment.toNat ++ (leBytes 6 first.toNat ++ (leBytes 2 words.length ++
      wordBytes words))) checks = some (.samples source segment first words) := by
  have hsegment := field_front (back := leBytes 6 first.toNat ++ (leBytes 2 words.length ++ wordBytes words)) segment.isLt (size := 4)
  have hfirst := field_behind (front := leBytes 4 segment.toNat) (back := leBytes 2 words.length ++ wordBytes words) (by simp)
    first.isLt (offset := 4) (size := 6)
  have hcount := field_behind (front := leBytes 4 segment.toNat ++ leBytes 6 first.toNat) (back := wordBytes words) (by simp)
    (by norm_num; omega : words.length < 256 ^ 2) (offset := 10)
  have hwords : sampleWords (leBytes 4 segment.toNat ++ (leBytes 6 first.toNat ++ (leBytes 2 words.length ++
      wordBytes words))) words.length = words := by
    unfold sampleWords
    refine List.ext_getElem (by simp) fun k hk hk' => ?_
    have hword := field_wordBytes (front := leBytes 4 segment.toNat ++ (leBytes 6 first.toNat ++ leBytes 2 words.length)) hk'
    simp only [List.append_assoc, List.length_append, length_leBytes] at hword
    rw [List.getElem_map, List.getElem_range, hword, ofNat_toNat_self]
  rw [List.append_assoc] at hcount
  have hlength : (leBytes 4 segment.toNat ++ (leBytes 6 first.toNat ++ (leBytes 2 words.length ++
      wordBytes words))).length = 12 + 8 * words.length := by
    simp [length_wordBytes]
    omega
  show (if _ then _ else _) = _
  rw [hsegment, hfirst, hcount, hwords, ofNat_toNat_self, ofNat_toNat_self, hlength, if_pos]
  simp only [samplesShapeOk, Bool.and_eq_true, decide_eq_true_eq]
  exact ⟨⟨⟨by omega, trivial⟩, ⟨hlow, hhigh⟩, by omega⟩, hsource⟩

theorem captureBody_ofDirective (source : Byte) (body : List Byte) (checks : List LineCheck) :
    captureBody 0x10#8 source body checks = if 6 ≤ body.length then
      some (directiveOf (byteAt body 3)
        ⟨BitVec.ofNat 16 (field body 0 2), byteAt body 2, BitVec.ofNat 16 (field body 4 2), body.drop 6⟩ checks)
    else none := rfl

theorem captureBody_directive (source code flags : Byte) (tag stated : BitVec 16) (params : List Byte)
    (checks : List LineCheck) :
    captureBody 0x10#8 source (leBytes 2 tag.toNat ++ ([flags, code] ++ (leBytes 2 stated.toNat ++ params))) checks =
      some (directiveOf code ⟨tag, flags, stated, params⟩ checks) := by
  have htag := field_front (back := [flags, code] ++ (leBytes 2 stated.toNat ++ params)) tag.isLt (size := 2)
  have hstated := field_behind (front := leBytes 2 tag.toNat ++ [flags, code]) (back := params) (by simp) stated.isLt
    (offset := 4) (size := 2)
  rw [List.append_assoc] at hstated
  rw [captureBody_ofDirective, htag, hstated, if_pos (by simp; omega), ofNat_toNat_self, ofNat_toNat_self]
  rfl

end Sys2Proof.Machine
end

section
/-! PROOFS. What the bytes of a frame that decodes are like (R143, R169, R172). -/

-- One theorem at a time: the stacks of a thread each would exceed the memory of the check.
set_option Elab.async false

namespace Sys2Proof.Machine

open Sys2Proof.Safety

variable {bytes : List Byte} {checks : List LineCheck} {c : Instr}

/-! ## The fields of a capture frame's body -/

theorem field_body {offset size : Nat} (h : 4 + offset + size + 4 ≤ bytes.length) :
    field ((frameBody bytes).drop 4) offset size = field bytes (4 + offset) size := by
  have hfront : field (frameBody bytes) (4 + offset) size = field bytes (4 + offset) size := by
    have hsplit : bytes = frameBody bytes ++ bytes.drop (bytes.length - 4) := (List.take_append_drop _ _).symm
    have hlength : (frameBody bytes).length = bytes.length - 4 := by
      unfold frameBody
      rw [List.length_take]
      omega
    conv_rhs => rw [hsplit]
    exact (field_append (by omega)).symm
  rw [← hfront]
  unfold field
  rw [List.drop_drop]

theorem length_body : ((frameBody bytes).drop 4).length = bytes.length - 8 := by
  unfold frameBody
  rw [List.length_drop, List.length_take]
  omega

theorem byte_of_toNat {b : Byte} {n : Nat} (h : b.toNat = n) : b = BitVec.ofNat 8 n := by
  rw [← h, BitVec.ofNat_toNat, BitVec.setWidth_eq]

/-- R143, R169: a body that decodes has a kind and a shape. -/
theorem captureBody_some {kind source : Byte} {body : List Byte} (h : captureBody kind source body checks = some c) :
    (kind = 0x10 ∧ 6 ≤ body.length) ∨ (source.toNat < 32 ∧
      ((kind = 0x01 ∧ 1 ≤ field body 10 2 ∧ field body 10 2 ≤ 512 ∧ body.length = 12 + 8 * field body 10 2 ∧
          field body 4 6 + field body 10 2 ≤ 2 ^ 48) ∨
        (kind = 0x02 ∧ body.length = 16) ∨ (kind = 0x03 ∧ body.length = 10) ∨ (kind = 0x04 ∧ body.length = 20))) := by
  unfold captureBody at h
  dsimp only at h
  split at h
  · next hkind =>
    split at h
    · next hshape =>
      have hfirst : (BitVec.ofNat 48 (field body 4 6)).toNat = field body 4 6 := by
        rw [BitVec.toNat_ofNat]
        exact Nat.mod_eq_of_lt (field_lt body 4 6)
      simp only [samplesShapeOk, hfirst, Bool.and_eq_true, decide_eq_true_eq] at hshape
      obtain ⟨⟨⟨-, hlength⟩, ⟨hlow, hhigh⟩, hend⟩, hsource⟩ := hshape
      exact .inr ⟨hsource, .inl ⟨byte_of_toNat hkind, hlow, hhigh, hlength, by omega⟩⟩
    · cases h
  · next hkind =>
    split at h
    · next hshape =>
      simp only [Bool.and_eq_true, decide_eq_true_eq] at hshape
      exact .inr ⟨hshape.2, .inr (.inl ⟨byte_of_toNat hkind, hshape.1⟩)⟩
    · cases h
  · next hkind =>
    split at h
    · next hshape =>
      simp only [Bool.and_eq_true, decide_eq_true_eq] at hshape
      exact .inr ⟨hshape.2, .inr (.inr (.inl ⟨byte_of_toNat hkind, hshape.1⟩))⟩
    · cases h
  · next hkind =>
    split at h
    · next hshape =>
      simp only [Bool.and_eq_true, decide_eq_true_eq] at hshape
      exact .inr ⟨hshape.2, .inr (.inr (.inr ⟨byte_of_toNat hkind, hshape.1⟩))⟩
    · cases h
  · next hkind =>
    split at h
    · next hshape => exact .inl ⟨byte_of_toNat hkind, hshape⟩
    · cases h
  · cases h

theorem decodeCapture_some (h : decodeCapture bytes checks = some c) :
    8 ≤ bytes.length ∧ field bytes 2 2 + 8 = bytes.length ∧
    field bytes (bytes.length - 4) 4 = (crc (bytes.take (bytes.length - 4))).toNat ∧
    captureBody (byteAt bytes 0) (byteAt bytes 1) ((frameBody bytes).drop 4) checks = some c := by
  unfold decodeCapture at h
  split at h
  · next hok =>
    simp only [Bool.and_eq_true, decide_eq_true_eq, frameCrcOk_iff] at hok
    obtain ⟨⟨⟨-, hcrc⟩, hlong⟩, hlength⟩ := hok
    exact ⟨hlong, hlength, hcrc, h⟩
  · cases h

/-! ## Directive codes (R170) -/

/-- R170: the codes that name a directive. -/
def directiveCodes : List Byte := [0x01#8, 0x02, 0x03, 0x04, 0x05, 0x10, 0x11, 0x12, 0x13, 0x14, 0x15, 0x16, 0x17, 0x20,
  0x21, 0x22, 0x30, 0x31]

theorem directiveOf_unknown {code : Byte} (d : Directive) (hcode : code ∉ directiveCodes) :
    directiveOf code d checks = .unknownDirective code d := by
  have hnot : ∀ {n : Nat}, code.toNat = n → BitVec.ofNat 8 n ∈ directiveCodes → False := fun h hmem =>
    hcode (byte_of_toNat h ▸ hmem)
  unfold directiveOf
  split
  iterate 18 · next h => exact (hnot h (by decide)).elim
  rfl

/-! ## The archive's frames (R125, R172) -/

theorem decodeArchive_withCrc (bs : List Byte) : decodeArchive (withCrc bs) =
    match (byteAt (withCrc bs) 0).toNat, (withCrc bs).length with
    | 0x81, 6 => some (.credit (byteAt (withCrc bs) 1))
    | 0x82, 9 => some (.commit (BitVec.ofNat 32 (field (withCrc bs) 1 4)))
    | 0x83, 9 => some (.rewind (BitVec.ofNat 32 (field (withCrc bs) 1 4)))
    | _, _ => none := by
  unfold decodeArchive
  rw [if_pos (frameCrcOk_withCrc bs)] <;> rfl

theorem field_linkFrame (kind : Byte) (n : BitVec 32) : field (withCrc ([kind] ++ leBytes 4 n.toNat)) 1 4 = n.toNat := by
  unfold withCrc
  rw [List.append_assoc]
  exact field_behind rfl n.isLt

theorem decodeArchive_some (h : decodeArchive bytes = some c) : frameCrcOk bytes = true ∧
    ((byteAt bytes 0 = 0x81#8 ∧ bytes.length = 6) ∨
      ((byteAt bytes 0 = 0x82#8 ∨ byteAt bytes 0 = 0x83#8) ∧ bytes.length = 9)) := by
  unfold decodeArchive at h
  split at h
  · next hok =>
    refine ⟨hok, ?_⟩
    split at h
    · next hkind hlength => exact .inl ⟨byte_of_toNat hkind, hlength⟩
    · next hkind hlength => exact .inr ⟨.inl (byte_of_toNat hkind), hlength⟩
    · next hkind hlength => exact .inr ⟨.inr (byte_of_toNat hkind), hlength⟩
    · cases h
  · cases h

end Sys2Proof.Machine

namespace Sys2Proof

open Machine Safety

/-- Settles O25: each frame from its bytes, and the bytes of a frame from its decoding. -/
theorem inboundFramesDecode : Obligations.InboundFramesDecode := by
  refine ⟨fun source segment checks hsource => ⟨fun first words hlow hhigh hend => ?_, fun t0 period => ?_, fun final => ?_,
    fun index time => ?_⟩, fun source code flags tag stated params checks hlength => ?_, fun d checks => ⟨?_, fun code hcode =>
    directiveOf_unknown d hcode⟩, fun bytes checks c h => ?_, fun k => ?_, fun n => ?_, fun n => ?_, fun bytes c h => ?_,
    fun bytes hbad => ?_⟩
  · rw [← captureBody_samples hsource segment checks first hlow hhigh hend]
    simp only [List.append_assoc]
    rw [← List.append_assoc]
    refine decodeCapture_frame _ _ ?_ (by omega) checks
    have := length_wordBytes words
    unfold wordBytes at this
    simp [this]
    omega
  · rw [← captureBody_segmentStart hsource segment checks t0 period]
    simp only [List.append_assoc]
    rw [← List.append_assoc]
    exact decodeCapture_frame _ _ (by simp) (by omega) checks
  · rw [← captureBody_segmentEnd hsource segment checks final]
    simp only [List.append_assoc]
    rw [← List.append_assoc]
    exact decodeCapture_frame _ _ (by simp) (by omega) checks
  · rw [← captureBody_resync hsource segment checks index time]
    simp only [List.append_assoc]
    rw [← List.append_assoc]
    exact decodeCapture_frame _ _ (by simp) (by omega) checks
  · rw [← captureBody_directive source code flags tag stated params checks]
    simp only [List.append_assoc]
    rw [← List.append_assoc]
    exact decodeCapture_frame _ _ (by simp; omega) (by omega) checks
  · intro p hp
    simp only [List.mem_cons, List.not_mem_nil, or_false] at hp
    rcases hp with rfl | rfl | rfl | rfl | rfl | rfl | rfl | rfl | rfl | rfl | rfl | rfl | rfl | rfl | rfl | rfl | rfl | rfl <;>
      rfl
  · obtain ⟨hlong, hlength, hcrc, hbody⟩ := decodeCapture_some h
    refine ⟨hlong, hlength, hcrc, ?_⟩
    have hshape := captureBody_some hbody
    rw [length_body] at hshape
    rcases hshape with ⟨hkind, hsix⟩ | ⟨hsource, ⟨hkind, hlow, hhigh, htotal, hend⟩ | ⟨hkind, htotal⟩ | ⟨hkind, htotal⟩ |
      ⟨hkind, htotal⟩⟩
    · exact .inl ⟨hkind, by omega⟩
    · have hcount : field ((frameBody bytes).drop 4) 10 2 = field bytes 14 2 := field_body (by omega)
      have hfirst : field ((frameBody bytes).drop 4) 4 6 = field bytes 8 6 := field_body (by omega)
      rw [hcount] at hlow hhigh htotal hend
      rw [hfirst] at hend
      exact .inr ⟨hsource, .inl ⟨hkind, hlow, hhigh, by omega, hend⟩⟩
    · exact .inr ⟨hsource, .inr (.inl ⟨hkind, by omega⟩)⟩
    · exact .inr ⟨hsource, .inr (.inr (.inl ⟨hkind, by omega⟩))⟩
    · exact .inr ⟨hsource, .inr (.inr (.inr ⟨hkind, by omega⟩))⟩
  · rw [decodeArchive_withCrc]
    rfl
  · rw [decodeArchive_withCrc, field_linkFrame, ofNat_toNat_self]
    rfl
  · rw [decodeArchive_withCrc, field_linkFrame, ofNat_toNat_self]
    rfl
  · obtain ⟨-, ⟨-, hlength⟩ | ⟨-, hlength⟩⟩ := decodeArchive_some h
    · exact .inl hlength
    · exact .inr hlength
  · rw [Option.eq_none_iff_forall_ne_some]
    intro c h
    obtain ⟨hok, hshape⟩ := decodeArchive_some h
    obtain ⟨hfour, hcrc⟩ := (frameCrcOk_iff bytes).1 hok
    rcases hbad with hshort | hwrong | ⟨h1, h2, h3⟩ | ⟨hkind, hlength⟩ | ⟨hkind, hlength⟩
    · omega
    · exact hwrong hcrc
    · rcases hshape with ⟨h, -⟩ | ⟨h | h, -⟩
      · exact h1 h
      · exact h2 h
      · exact h3 h
    · rcases hshape with ⟨-, h⟩ | ⟨h | h, -⟩
      · exact hlength h
      · exact absurd (hkind.symm.trans h) (by decide)
      · exact absurd (hkind.symm.trans h) (by decide)
    · rcases hshape with ⟨h, -⟩ | ⟨-, h⟩
      · rcases hkind with hkind | hkind <;> exact absurd (hkind.symm.trans h) (by decide)
      · exact hlength h

end Sys2Proof
end

section
/-! PROOFS. The snapshots of the three queries, section by section (R159, R172). -/

-- One theorem at a time: the stacks of a thread each would exceed the memory of the check.
set_option Elab.async false

namespace Sys2Proof.Machine

open Sys2Proof.Safety

/-! ## Values of one byte -/

theorem leBytes_one_byte (b : Byte) : leBytes 1 b.toNat = [b] := by
  rw [leBytes_one, BitVec.ofNat_toNat, BitVec.setWidth_eq]

theorem leBytes_phase_code (p : Phase) :
    leBytes 1 p.code = [match p with | .idle => 0 | .armed _ => 1 | .running _ => 2 | .closing _ => 3] := by
  cases p <;> rfl

theorem leBytes_linkState_code (l : LinkState) :
    leBytes 1 l.code = [match l with | .down => 0 | .up => 1 | .stalled => 2] := by
  cases l <;> rfl

theorem leBytes_condition_code (c : Condition) :
    leBytes 1 c.code = [match c with | .over => 0 | .under => 1 | .neither => 2] := by
  cases c <;> rfl

theorem Group.published_val (x : Group) : x.published.val = min x.ordered.val x.maxLevel.val := by
  unfold Group.published
  split
  · next h => exact (Nat.min_eq_left h).symm
  · next h => exact (Nat.min_eq_right (Nat.le_of_not_le h)).symm

/-! ## What a list of items shows -/

section
variable {items front back : List SnapItem} {lo mid hi n : Nat}

@[simp] theorem numItem_number (number size value : Nat) : (numItem number size value).number = number := rfl

@[simp] theorem optItem_number (number size : Nat) (value : Option Nat) :
    (optItem number size value).number = number := rfl

@[simp] theorem flagItem_number (number : Nat) (b : Bool) : (flagItem number b).number = number := rfl

@[simp] theorem shown_numItem_cons (own size value : Nat) (n : Nat) :
    shown (numItem own size value :: items) n =
      (if own = n then [leBytes size value] else []) ++ shown items n := shown_cons _ _ n

@[simp] theorem shown_optItem_cons (own size : Nat) (value : Option Nat) (n : Nat) :
    shown (optItem own size value :: items) n =
      (if own = n then [valueBytes size value] else []) ++ shown items n := by
  rw [shown_cons]
  cases value <;> rfl

@[simp] theorem shown_flagItem_cons (own : Nat) (b : Bool) (n : Nat) :
    shown (flagItem own b :: items) n =
      (if own = n then [[BitVec.ofNat 8 b.toNat]] else []) ++ shown items n := by
  unfold flagItem
  rw [shown_numItem_cons, leBytes_one]

/-- The items stand in the order of their numbers, which lie from `lo` to `hi`. -/
def NumberedWithin (lo hi : Nat) (items : List SnapItem) : Prop :=
  (items.map SnapItem.number).Pairwise (· ≤ ·) ∧ ∀ n ∈ items.map SnapItem.number, lo ≤ n ∧ n ≤ hi

theorem NumberedWithin.sorted (h : NumberedWithin lo hi items) : (items.map SnapItem.number).Pairwise (· ≤ ·) := h.1

theorem NumberedWithin.append {mid' : Nat} (hfront : NumberedWithin lo mid front) (hback : NumberedWithin mid' hi back)
    (hmid : mid ≤ mid') (hlo : lo ≤ mid') (hhi : mid ≤ hi) : NumberedWithin lo hi (front ++ back) := by
  obtain ⟨hsorted, hwithin⟩ := hfront
  obtain ⟨hsorted', hwithin'⟩ := hback
  refine ⟨?_, fun n hn => ?_⟩
  · rw [List.map_append, List.pairwise_append]
    refine ⟨hsorted, hsorted', fun a ha b hb => ?_⟩
    exact (hwithin a ha).2.trans (hmid.trans (hwithin' b hb).1)
  · rw [List.map_append, List.mem_append] at hn
    rcases hn with hn | hn
    · exact ⟨(hwithin n hn).1, (hwithin n hn).2.trans hhi⟩
    · exact ⟨hlo.trans (hwithin' n hn).1, (hwithin' n hn).2⟩

/-- Items whose numbers are written out. -/
theorem numberedWithin_of_numbers {numbers : List Nat} (h : items.map SnapItem.number = numbers)
    (hsorted : numbers.Pairwise (· ≤ ·)) (hwithin : ∀ n ∈ numbers, lo ≤ n ∧ n ≤ hi) : NumberedWithin lo hi items := by
  subst h
  exact ⟨hsorted, hwithin⟩

/-- Items of one number. -/
theorem numberedWithin_const (h : ∀ x ∈ items, x.number = n) : NumberedWithin n n items := by
  have hall : ∀ a ∈ items.map SnapItem.number, a = n := by simpa using h
  refine ⟨List.pairwise_of_forall_mem_list fun a ha b hb => ?_, fun a ha => ?_⟩
  · rw [hall a ha, hall b hb]
  · rw [hall a ha]
    exact ⟨le_rfl, le_rfl⟩

/-- Nothing is shown under a number outside the range. -/
theorem NumberedWithin.shown_eq_nil (h : NumberedWithin lo hi items) (hn : n < lo ∨ hi < n) : shown items n = [] := by
  unfold shown
  rw [List.map_eq_nil_iff, List.filter_eq_nil_iff]
  intro x hx hnumber
  have hrange := h.2 x.number (List.mem_map_of_mem hx)
  have hxn : x.number = n := eq_of_beq hnumber
  omega

end

/-! ## The sections of a stream's snapshot -/

section
variable {s : State} {i : StreamId} {n : Nat}

theorem configItems_within (c : StreamConfig) : NumberedWithin 0x100 0x1FF (configItems c) :=
  numberedWithin_of_numbers
    (numbers := [0x100, 0x101, 0x102, 0x103, 0x104, 0x105, 0x106, 0x107, 0x108, 0x109, 0x10A, 0x10B,
      0x10C, 0x10D])
    rfl (by decide) (by decide)

theorem runItems_within (x : Stream) : NumberedWithin 0x200 0x2FF (runItems x) :=
  numberedWithin_of_numbers
    (numbers := [0x200, 0x201, 0x202, 0x203, 0x204, 0x205, 0x205, 0x206, 0x207, 0x208, 0x209, 0x20A,
      0x20B, 0x20B, 0x20B, 0x20B, 0x20B, 0x20C])
    rfl (by decide) (by decide)

theorem walkerItems_within (w : Walker) : NumberedWithin 0x300 0x3FF (walkerItems w) := by
  unfold walkerItems
  have hentry : NumberedWithin 0x300 0x300 [numItem 0x300 2 w.entry] :=
    numberedWithin_of_numbers (numbers := [0x300]) rfl (by decide) (by decide)
  have hindexes : NumberedWithin 0x302 0x3FF [numItem 0x302 6 w.position, numItem 0x303 6 w.expected] :=
    numberedWithin_of_numbers (numbers := [0x302, 0x303]) rfl (by decide) (by decide)
  refine (hentry.append (mid' := 0x301) (hi := 0x301) (numberedWithin_const ?_) ?_ ?_ ?_).append hindexes ?_ ?_ ?_
  · simp
  all_goals decide

theorem unitItems_within (x : Stream) : NumberedWithin 0x400 0x4FF (unitItems x) :=
  numberedWithin_of_numbers
    (numbers := [0x400, 0x401, 0x401, 0x401, 0x401, 0x402, 0x402, 0x402, 0x403, 0x403, 0x404])
    rfl (by decide) (by decide)

theorem assemblerItems_within (x : Stream) (waits : Bool) : NumberedWithin 0x500 0x5FF (assemblerItems x waits) :=
  numberedWithin_of_numbers
    (numbers := [0x500, 0x500, 0x500, 0x500, 0x500, 0x502, 0x502, 0x504])
    rfl (by decide) (by decide)

theorem placeItems_within (s : State) (i : StreamId) : NumberedWithin 0x600 0x6FF (s.placeItems i) :=
  numberedWithin_of_numbers
    (numbers := [0x600, 0x601, 0x602, 0x603, 0x603, 0x604, 0x605, 0x606])
    rfl (by decide) (by decide)

theorem lossItems_within (x : Stream) : NumberedWithin 0x700 0x7FF (lossItems x) :=
  numberedWithin_of_numbers (numbers := [0x700, 0x701, 0x702, 0x703, 0x703]) rfl (by decide) (by decide)

theorem streamSnapshot_within (s : State) (i : StreamId) : NumberedWithin 0x100 0x7FF (s.streamSnapshot i) :=
  ((((((configItems_within _).append (runItems_within _) (by decide) (by decide) (by decide)).append
    (walkerItems_within _) (by decide) (by decide) (by decide)).append
    (unitItems_within _) (by decide) (by decide) (by decide)).append
    (assemblerItems_within _ _) (by decide) (by decide) (by decide)).append
    (placeItems_within s i) (by decide) (by decide) (by decide)).append
    (lossItems_within _) (by decide) (by decide) (by decide)

theorem shown_streamSnapshot : shown (s.streamSnapshot i) n =
    shown (configItems (s.stream i).cfg) n ++ shown (runItems (s.stream i)) n ++ shown (walkerItems (s.stream i).walker) n
      ++ shown (unitItems (s.stream i)) n ++ shown (assemblerItems (s.stream i) (s.spill.endWaits.contains i)) n
      ++ shown (s.placeItems i) n ++ shown (lossItems (s.stream i)) n := by
  simp [State.streamSnapshot]

/-- A number belongs to one section: the others show nothing under it. -/
theorem shown_streamSnapshot_config (h : n ≤ 0x1FF) :
    shown (s.streamSnapshot i) n = shown (configItems (s.stream i).cfg) n := by
  rw [shown_streamSnapshot, (runItems_within _).shown_eq_nil (.inl (by omega)),
    (walkerItems_within _).shown_eq_nil (.inl (by omega)), (unitItems_within _).shown_eq_nil (.inl (by omega)),
    (assemblerItems_within _ _).shown_eq_nil (.inl (by omega)), (placeItems_within s i).shown_eq_nil (.inl (by omega)),
    (lossItems_within _).shown_eq_nil (.inl (by omega))]
  simp

theorem shown_streamSnapshot_run (hlo : 0x200 ≤ n) (hhi : n ≤ 0x2FF) :
    shown (s.streamSnapshot i) n = shown (runItems (s.stream i)) n := by
  rw [shown_streamSnapshot, (configItems_within _).shown_eq_nil (.inr (by omega)),
    (walkerItems_within _).shown_eq_nil (.inl (by omega)), (unitItems_within _).shown_eq_nil (.inl (by omega)),
    (assemblerItems_within _ _).shown_eq_nil (.inl (by omega)), (placeItems_within s i).shown_eq_nil (.inl (by omega)),
    (lossItems_within _).shown_eq_nil (.inl (by omega))]
  simp

theorem shown_streamSnapshot_walker (hlo : 0x300 ≤ n) (hhi : n ≤ 0x3FF) :
    shown (s.streamSnapshot i) n = shown (walkerItems (s.stream i).walker) n := by
  rw [shown_streamSnapshot, (configItems_within _).shown_eq_nil (.inr (by omega)),
    (runItems_within _).shown_eq_nil (.inr (by omega)), (unitItems_within _).shown_eq_nil (.inl (by omega)),
    (assemblerItems_within _ _).shown_eq_nil (.inl (by omega)), (placeItems_within s i).shown_eq_nil (.inl (by omega)),
    (lossItems_within _).shown_eq_nil (.inl (by omega))]
  simp

theorem shown_streamSnapshot_unit (hlo : 0x400 ≤ n) (hhi : n ≤ 0x4FF) :
    shown (s.streamSnapshot i) n = shown (unitItems (s.stream i)) n := by
  rw [shown_streamSnapshot, (configItems_within _).shown_eq_nil (.inr (by omega)),
    (runItems_within _).shown_eq_nil (.inr (by omega)), (walkerItems_within _).shown_eq_nil (.inr (by omega)),
    (assemblerItems_within _ _).shown_eq_nil (.inl (by omega)), (placeItems_within s i).shown_eq_nil (.inl (by omega)),
    (lossItems_within _).shown_eq_nil (.inl (by omega))]
  simp

theorem shown_streamSnapshot_assembler (hlo : 0x500 ≤ n) (hhi : n ≤ 0x5FF) :
    shown (s.streamSnapshot i) n = shown (assemblerItems (s.stream i) (s.spill.endWaits.contains i)) n := by
  rw [shown_streamSnapshot, (configItems_within _).shown_eq_nil (.inr (by omega)),
    (runItems_within _).shown_eq_nil (.inr (by omega)), (walkerItems_within _).shown_eq_nil (.inr (by omega)),
    (unitItems_within _).shown_eq_nil (.inr (by omega)), (placeItems_within s i).shown_eq_nil (.inl (by omega)),
    (lossItems_within _).shown_eq_nil (.inl (by omega))]
  simp

theorem shown_streamSnapshot_places (hlo : 0x600 ≤ n) (hhi : n ≤ 0x6FF) :
    shown (s.streamSnapshot i) n = shown (s.placeItems i) n := by
  rw [shown_streamSnapshot, (configItems_within _).shown_eq_nil (.inr (by omega)),
    (runItems_within _).shown_eq_nil (.inr (by omega)), (walkerItems_within _).shown_eq_nil (.inr (by omega)),
    (unitItems_within _).shown_eq_nil (.inr (by omega)), (assemblerItems_within _ _).shown_eq_nil (.inr (by omega)),
    (lossItems_within _).shown_eq_nil (.inl (by omega))]
  simp

theorem shown_streamSnapshot_loss (hlo : 0x700 ≤ n) :
    shown (s.streamSnapshot i) n = shown (lossItems (s.stream i)) n := by
  rw [shown_streamSnapshot, (configItems_within _).shown_eq_nil (.inr (by omega)),
    (runItems_within _).shown_eq_nil (.inr (by omega)), (walkerItems_within _).shown_eq_nil (.inr (by omega)),
    (unitItems_within _).shown_eq_nil (.inr (by omega)), (assemblerItems_within _ _).shown_eq_nil (.inr (by omega)),
    (placeItems_within s i).shown_eq_nil (.inr (by omega))]
  simp

theorem shown_walkerItems_stack (w : Walker) : (shown (walkerItems w) 0x301).length = w.stack.length := by
  unfold walkerItems
  rw [shown_append, shown_append, shown_map]
  simp

end

/-! ## The group's snapshot -/

section
variable {s : State} {g : GroupId} {n : Nat}

/-- The settings, levels, timers and the condition of a group, as its snapshot begins. -/
def groupSettingItems (x : Group) (condition : Condition) : List SnapItem :=
  [ numItem 0x0800 1 x.maxLevel, numItem 0x0801 3 x.degradeWait, numItem 0x0802 4 x.settleTime,
    numItem 0x0803 3 x.holdOff, numItem 0x0804 1 x.ordered,
    numItem 0x0805 1 x.overTimer.code, optItem 0x0805 3 x.overTimer.left,
    numItem 0x0805 1 x.settleTimer.code, optItem 0x0805 4 x.settleTimer.left,
    numItem 0x0805 1 x.holdOffTimer.code, optItem 0x0805 3 x.holdOffTimer.left,
    optItem 0x0806 4 (x.startSegment.map BitVec.toNat), numItem 0x0807 1 x.published,
    numItem 0x0808 1 condition.code ]

/-- A member of a group with its state. -/
def memberItem (s : State) (i : StreamId) : SnapItem :=
  ⟨0x0809, leBytes 1 i ++ leBytes 1 (s.stream i).phase.code⟩

theorem groupSnapshot_eq :
    s.groupSnapshot g = groupSettingItems (s.group g) (s.condition g) ++ (s.members g).map (memberItem s) := rfl

theorem groupSettingItems_within (x : Group) (c : Condition) : NumberedWithin 0x800 0x808 (groupSettingItems x c) :=
  numberedWithin_of_numbers
    (numbers := [0x800, 0x801, 0x802, 0x803, 0x804, 0x805, 0x805, 0x805, 0x805, 0x805, 0x805, 0x806,
      0x807, 0x808])
    rfl (by decide) (by decide)

theorem memberItems_within (members : List StreamId) : NumberedWithin 0x809 0x809 (members.map (memberItem s)) :=
  numberedWithin_const (by simp [memberItem])

theorem groupSnapshot_within : NumberedWithin 0x800 0x809 (s.groupSnapshot g) := by
  rw [groupSnapshot_eq]
  exact (groupSettingItems_within _ _).append (memberItems_within _) (by decide) (by decide) (by decide)

theorem shown_groupSnapshot_settings (h : n ≤ 0x808) :
    shown (s.groupSnapshot g) n = shown (groupSettingItems (s.group g) (s.condition g)) n := by
  rw [groupSnapshot_eq, shown_append, (memberItems_within _).shown_eq_nil (.inl (by omega)), List.append_nil]

theorem shown_groupSnapshot_members :
    shown (s.groupSnapshot g) 0x809 = (s.members g).map fun j =>
      [BitVec.ofNat 8 j.val,
        match (s.stream j).phase with | .idle => 0 | .armed _ => 1 | .running _ => 2 | .closing _ => 3] := by
  rw [groupSnapshot_eq, shown_append, (groupSettingItems_within _ _).shown_eq_nil (.inr (by decide)), List.nil_append]
  unfold memberItem
  rw [shown_map, if_pos rfl]
  refine List.map_congr_left fun j _ => ?_
  rw [leBytes_phase_code, leBytes_one]
  rfl

theorem State.members_eq : s.members g =
    ([0, 1, 2, 3, 4, 5, 6, 7] : List StreamId).filter fun j => (s.stream j).cfg.group = g := by
  unfold State.members streamIds
  rfl

end

/-! ## The sections of the link's snapshot -/

section
variable {s : State} {n : Nat}

/-- The transmitter's own items. -/
def transmitterItems (s : State) : List SnapItem :=
  let t := s.alt
  [ numItem 0x0900 1 t.linkState.code, flagItem 0x0900 t.archiveSync, flagItem 0x0900 s.settings.loopback,
    numItem 0x0901 1 t.credits, numItem 0x0902 1 t.outstanding.length,
    optItem 0x0902 4 (t.outstanding.head?.map fun b => b.link.toNat),
    optItem 0x0902 4 (t.outstanding.getLast?.map fun b => b.link.toNat),
    numItem 0x0903 4 t.nextLink.toNat,
    optItem 0x0904 1 (t.staged.bind fun b => s.ownerOf b.slot),
    optItem 0x0904 4 (t.staged.bind fun b => s.sequenceIn b.slot),
    optItem 0x0904 1 (t.staged.map fun b => b.copy.code),
    optItem 0x0904 1 (t.sending.bind fun b => s.ownerOf b.slot),
    optItem 0x0904 4 (t.sending.bind fun b => s.sequenceIn b.slot),
    optItem 0x0904 4 (t.sending.map fun b => b.link.toNat),
    numItem 0x0905 1 t.commitTimer.code, optItem 0x0905 3 t.commitTimer.left, numItem 0x0906 3 t.commitTimeout ]

/-- The two items of an arbiter pointer. -/
def pointerItems (p : Pointer) : List SnapItem :=
  [optItem 0x0907 1 (p.current.map Fin.val), numItem 0x0907 1 p.grants]

/-- The two items of a checker's record. -/
def checkRecordItems (c : Option CheckRecord) : List SnapItem :=
  [optItem 0x0908 1 (c.map fun r => r.run.toNat), optItem 0x0908 4 (c.map fun r => r.sequence.toNat)]

/-- The counts of free slots and of END-slot waits. -/
def spillCountItems (s : State) : List SnapItem :=
  [numItem 0x0909 3 s.spill.freeList.length, numItem 0x0909 1 s.spill.endWaits.length]

/-- The engine settings, and the number of the pending operations. -/
def engineSettingItems (s : State) : List SnapItem :=
  [ flagItem 0x0A00 s.settings.strict, flagItem 0x0A01 s.settings.loopback,
    numItem 0x0A02 1 s.settings.linkMask.toNat, numItem 0x0B00 1 s.ops.length ]

def opItem (o : PendingOp) : SnapItem :=
  ⟨0x0B01, leBytes 1 o.kind.code ++ leBytes 2 o.tag.toNat ++ leBytes 1 o.kind.subject⟩

def counterItems (c : EngineCounters) : List SnapItem := c.list.zipIdx.map fun c => numItem (0x0C00 + c.2) 4 c.1.toNat

theorem linkSnapshot_eq : s.linkSnapshot =
    transmitterItems s ++ s.alt.pointers.toList.flatMap pointerItems ++ s.alt.checkRecords.toList.flatMap checkRecordItems
      ++ spillCountItems s ++ engineSettingItems s ++ s.ops.map opItem ++ counterItems s.counters := rfl

theorem transmitterItems_within (s : State) : NumberedWithin 0x900 0x906 (transmitterItems s) :=
  numberedWithin_of_numbers
    (numbers := [0x900, 0x900, 0x900, 0x901, 0x902, 0x902, 0x902, 0x903, 0x904, 0x904, 0x904, 0x904,
      0x904, 0x904, 0x905, 0x905, 0x906])
    rfl (by decide) (by decide)

theorem pointerItems_within (ps : List Pointer) : NumberedWithin 0x907 0x907 (ps.flatMap pointerItems) := by
  refine numberedWithin_const fun x hx => ?_
  obtain ⟨p, -, hp⟩ := List.mem_flatMap.1 hx
  simp only [pointerItems, List.mem_cons, List.not_mem_nil, or_false] at hp
  rcases hp with rfl | rfl <;> rfl

theorem checkRecordItems_within (cs : List (Option CheckRecord)) :
    NumberedWithin 0x908 0x908 (cs.flatMap checkRecordItems) := by
  refine numberedWithin_const fun x hx => ?_
  obtain ⟨c, -, hc⟩ := List.mem_flatMap.1 hx
  simp only [checkRecordItems, List.mem_cons, List.not_mem_nil, or_false] at hc
  rcases hc with rfl | rfl <;> rfl

theorem spillCountItems_within (s : State) : NumberedWithin 0x909 0x909 (spillCountItems s) :=
  numberedWithin_of_numbers (numbers := [0x909, 0x909]) rfl (by decide) (by decide)

theorem engineSettingItems_within (s : State) : NumberedWithin 0xA00 0xB00 (engineSettingItems s) :=
  numberedWithin_of_numbers (numbers := [0xA00, 0xA01, 0xA02, 0xB00]) rfl (by decide) (by decide)

theorem opItems_within (ops : List PendingOp) : NumberedWithin 0xB01 0xB01 (ops.map opItem) :=
  numberedWithin_const (by simp [opItem])

theorem counterItems_within (c : EngineCounters) : NumberedWithin 0xC00 0xC07 (counterItems c) :=
  numberedWithin_of_numbers
    (numbers := [0xC00, 0xC01, 0xC02, 0xC03, 0xC04, 0xC05, 0xC06, 0xC07])
    rfl (by decide) (by decide)

theorem linkSnapshot_within (s : State) : NumberedWithin 0x900 0xC07 s.linkSnapshot := by
  rw [linkSnapshot_eq]
  exact ((((((transmitterItems_within s).append (pointerItems_within _) (by decide) (by decide) (by decide)).append
    (checkRecordItems_within _) (by decide) (by decide) (by decide)).append
    (spillCountItems_within s) (by decide) (by decide) (by decide)).append
    (engineSettingItems_within s) (by decide) (by decide) (by decide)).append
    (opItems_within _) (by decide) (by decide) (by decide)).append
    (counterItems_within _) (by decide) (by decide) (by decide)

theorem shown_linkSnapshot : shown s.linkSnapshot n =
    shown (transmitterItems s) n ++ shown (s.alt.pointers.toList.flatMap pointerItems) n
      ++ shown (s.alt.checkRecords.toList.flatMap checkRecordItems) n ++ shown (spillCountItems s) n
      ++ shown (engineSettingItems s) n ++ shown (s.ops.map opItem) n ++ shown (counterItems s.counters) n := by
  rw [linkSnapshot_eq]
  simp

theorem shown_linkSnapshot_transmitter (h : n ≤ 0x906) : shown s.linkSnapshot n = shown (transmitterItems s) n := by
  rw [shown_linkSnapshot, (pointerItems_within _).shown_eq_nil (.inl (by omega)),
    (checkRecordItems_within _).shown_eq_nil (.inl (by omega)), (spillCountItems_within s).shown_eq_nil (.inl (by omega)),
    (engineSettingItems_within s).shown_eq_nil (.inl (by omega)), (opItems_within _).shown_eq_nil (.inl (by omega)),
    (counterItems_within _).shown_eq_nil (.inl (by omega))]
  simp

theorem shown_linkSnapshot_spillCounts : shown s.linkSnapshot 0x909 = shown (spillCountItems s) 0x909 := by
  rw [shown_linkSnapshot, (transmitterItems_within s).shown_eq_nil (.inr (by decide)),
    (pointerItems_within _).shown_eq_nil (.inr (by decide)), (checkRecordItems_within _).shown_eq_nil (.inr (by decide)),
    (engineSettingItems_within s).shown_eq_nil (.inl (by decide)), (opItems_within _).shown_eq_nil (.inl (by decide)),
    (counterItems_within _).shown_eq_nil (.inl (by decide))]
  simp

theorem shown_linkSnapshot_settings (hlo : 0xA00 ≤ n) (hhi : n ≤ 0xB00) :
    shown s.linkSnapshot n = shown (engineSettingItems s) n := by
  rw [shown_linkSnapshot, (transmitterItems_within s).shown_eq_nil (.inr (by omega)),
    (pointerItems_within _).shown_eq_nil (.inr (by omega)), (checkRecordItems_within _).shown_eq_nil (.inr (by omega)),
    (spillCountItems_within s).shown_eq_nil (.inr (by omega)), (opItems_within _).shown_eq_nil (.inl (by omega)),
    (counterItems_within _).shown_eq_nil (.inl (by omega))]
  simp

theorem opItem_value (o : PendingOp) : (opItem o).value =
    (match o.kind with | .close _ => [0x00#8] | .groupClose _ _ _ _ => [0x01#8] | .verify _ _ _ => [0x02#8])
      ++ leBytes 2 o.tag.toNat ++
      [match o.kind with
        | .close j => BitVec.ofNat 8 j.val
        | .groupClose g _ _ _ => BitVec.ofNat 8 g.val
        | .verify j _ _ => BitVec.ofNat 8 j.val] := by
  unfold opItem
  cases o.kind <;> rfl

theorem shown_linkSnapshot_ops : shown s.linkSnapshot 0xB01 = s.ops.map fun o => (opItem o).value := by
  rw [shown_linkSnapshot, (transmitterItems_within s).shown_eq_nil (.inr (by decide)),
    (pointerItems_within _).shown_eq_nil (.inr (by decide)), (checkRecordItems_within _).shown_eq_nil (.inr (by decide)),
    (spillCountItems_within s).shown_eq_nil (.inr (by decide)),
    (engineSettingItems_within s).shown_eq_nil (.inr (by decide)), (counterItems_within _).shown_eq_nil (.inl (by decide))]
  unfold opItem
  rw [shown_map]
  simp

theorem shown_linkSnapshot_counters (h : 0xC00 ≤ n) : shown s.linkSnapshot n = shown (counterItems s.counters) n := by
  rw [shown_linkSnapshot, (transmitterItems_within s).shown_eq_nil (.inr (by omega)),
    (pointerItems_within _).shown_eq_nil (.inr (by omega)), (checkRecordItems_within _).shown_eq_nil (.inr (by omega)),
    (spillCountItems_within s).shown_eq_nil (.inr (by omega)),
    (engineSettingItems_within s).shown_eq_nil (.inr (by omega)), (opItems_within _).shown_eq_nil (.inr (by omega))]
  simp

end

/-! ## The queries -/

section
variable {s : State} {d : Directive}

theorem exec_queryStream {i : StreamId} (hd : Carries s d 1) (hi : byteAt d.params 0 = BitVec.ofNat 8 i.val) :
    exec (.queryStream d) s =
      .next { s with report := answeredDone s.report 0x20 d .done (snapshotBytes (s.streamSnapshot i)) } := by
  have heffect := withStream_some (s := s) hi fun i => (s, (⟨.done, snapshotBytes (s.streamSnapshot i)⟩ : Reply))
  change Host.Outcome.next (s.directive 0x20 d (lengthOk d 1) (withStream d.params s _)) = _
  rw [heffect, directive_done hd (.inl rfl)]

theorem exec_queryGroup {g : GroupId} (hd : Carries s d 1) (hg : byteAt d.params 0 = BitVec.ofNat 8 g.val) :
    exec (.queryGroup d) s =
      .next { s with report := answeredDone s.report 0x21 d .done (snapshotBytes (s.groupSnapshot g)) } := by
  have heffect := withGroup_some (s := s) hg fun g => (s, (⟨.done, snapshotBytes (s.groupSnapshot g)⟩ : Reply))
  change Host.Outcome.next (s.directive 0x21 d (lengthOk d 1) (withGroup d.params s _)) = _
  rw [heffect, directive_done hd (.inl rfl)]

theorem exec_queryLink (hd : Carries s d 0) :
    exec (.queryLink d) s =
      .next { s with report := answeredDone s.report 0x22 d .done (snapshotBytes s.linkSnapshot) } := by
  change Host.Outcome.next (s.directive 0x22 d (lengthOk d 0) (s, ⟨.done, snapshotBytes s.linkSnapshot⟩)) = _
  rw [directive_done hd (.inl rfl)]

theorem snapshotBytes_cons (item : SnapItem) (rest : List SnapItem) : snapshotBytes (item :: rest) =
    leBytes 2 item.number ++ [BitVec.ofNat 8 item.value.length] ++ item.value ++ snapshotBytes rest := by
  rw [← leBytes_one]
  rfl

end

end Sys2Proof.Machine

namespace Sys2Proof

open Machine Safety

/-- Settles O20: each number belongs to one section of its snapshot, which shows the item. -/
theorem queriesAnswerWithASnapshot : Obligations.QueriesAnswerWithASnapshot := by
  unfold Obligations.QueriesAnswerWithASnapshot
  refine ⟨fun s d i hd hi => exec_queryStream hd hi, fun s d g hd hg => exec_queryGroup hd hg,
    fun s d hd => exec_queryLink hd, ⟨rfl, snapshotBytes_cons⟩, ?_, ?_, ?_⟩
  case refine_1 =>
    rintro s i x items rfl rfl
    refine ⟨(streamSnapshot_within s i).sorted, ?_, ?_, ?_, ?_, ?_, ?_, ?_, ?_, ?_, ?_, ?_, ?_, ?_, ?_, ?_, ?_, ?_, ?_, ?_,
      ?_, ?_, ?_, ?_, ?_, ?_, ?_, ?_, ?_, ?_, ?_, ?_, ?_, ?_, ?_⟩
    iterate 13 · rw [shown_streamSnapshot_config (by decide)]; simp [configItems, leBytes_one_byte]
    iterate 9
      · rw [shown_streamSnapshot_run (by decide) (by decide)]
        simp [runItems, leBytes_one_byte, leBytes_phase_code, Machine.Stream.lossy] <;> rfl
    · rw [shown_streamSnapshot_walker (by decide) (by decide)]
      simp [walkerItems, shown_map]
    · rw [shown_streamSnapshot_walker (by decide) (by decide), shown_walkerItems_stack]
    iterate 2 · rw [shown_streamSnapshot_unit (by decide) (by decide)]; simp [unitItems]
    · intro hnone
      rw [shown_streamSnapshot_assembler (by decide) (by decide)]
      simp [assemblerItems, hnone, valueBytes]
    · intro b hb
      rw [shown_streamSnapshot_assembler (by decide) (by decide)]
      simp [assemblerItems, hb, valueBytes]
    · rw [shown_streamSnapshot_assembler (by decide) (by decide)]
      simp [assemblerItems]
    iterate 3 · rw [shown_streamSnapshot_places (by decide) (by decide)]; simp [State.placeItems]
    iterate 2 · rw [shown_streamSnapshot_loss (by decide)]; simp [lossItems]
  case refine_2 =>
    rintro s g x items rfl rfl
    refine ⟨groupSnapshot_within.sorted, ?_, ?_, ?_, ?_, ?_, ?_, ?_, ?_, ?_, ?_⟩
    iterate 9
      · rw [shown_groupSnapshot_settings (by decide)]
        simp [groupSettingItems, leBytes_condition_code, Group.published_val] <;> rfl
    · rw [shown_groupSnapshot_members, State.members_eq] <;> rfl
  case refine_3 =>
    rintro s items rfl
    refine ⟨(linkSnapshot_within s).sorted, ?_, ?_, ?_, ?_, ?_, ?_, ?_, ?_, ?_, ?_, ?_, ?_, ?_, ?_, ?_, ?_, ?_, ?_, ?_⟩
    iterate 5
      · rw [shown_linkSnapshot_transmitter (by decide)]
        simp [transmitterItems, leBytes_linkState_code] <;> rfl
    · rw [shown_linkSnapshot_spillCounts]; simp [spillCountItems]
    iterate 4 · rw [shown_linkSnapshot_settings (by decide) (by decide)]; simp [engineSettingItems]
    · rw [shown_linkSnapshot_ops]
      exact List.map_congr_left fun o _ => opItem_value o
    iterate 8
      · rw [shown_linkSnapshot_counters (by decide)]
        simp [counterItems, EngineCounters.list]

end Sys2Proof
end
